-- ==== Sys2Proof/Word.lean ====
section
/-! DEFINITION. The words and index types of the WA416: bytes, stamps, station addresses, points, zones. -/
namespace Sys2Proof

/-- A byte of a frame, of a logger record or of the configuration image (0.6 note 6). -/
abbrev Byte := BitVec 8

/-- A 32-bit count of milliseconds: the local count, the group time, a stamp (R125, R127). -/
abbrev Millis := BitVec 32

/-- A STATE number, taken modulo 256 (R81). -/
abbrev SeqNo := BitVec 8

/-- A station address 0..15 (0.5). -/
abbrev Addr := Fin 16

/-- A point number 0..15 (0.5). -/
abbrev Point := Fin 16

/-- A zone number 0..7 (0.5). -/
abbrev Zone := Fin 8

/-- A priority as carried: 1..3, and 0 for a point not in use (R2). -/
abbrev Priority := Fin 4

/-- A set of zones, bit z for zone z (0.5). -/
abbrev ZoneMask := BitVec 8

/-- A count 0..15 that saturates: coalesced, missed and chatter counts (R36, R25, R50). -/
abbrev Count := Fin 16

end Sys2Proof
end

