-- ==== Sys2Proof/Syntax.lean ====
section
/-! DEFINITION. The commands of the WA416: one constructor of `Instr` per row of spec/opcode_table.json,
with what the event brings from outside as its operands. -/
namespace Sys2Proof

/-- The four pushbuttons, in the order in which the Panel Unit acts on them (R137). -/
inductive Button where
  | ack | reset | silence | test
  deriving DecidableEq, Repr

/-- The levels of BTNACK, BTNRST, BTNSIL and BTNTST; true is high, which reads as released (R136). -/
structure ButtonLevels where
  ack : Bool
  reset : Bool
  silence : Bool
  test : Bool
  deriving DecidableEq, Repr

/-- What causes a cold start (R180): power-on with RESET not held, which begins LOADING at once with the
strap levels then shown, or a low level on RESET, which holds the part in cold start. -/
inductive ColdStartCause where
  | powerOn (straps : BitVec 4)
  | resetLow
  deriving DecidableEq, Repr

/-- Why a receiver abandons a frame (R69). -/
inductive AbandonReason where
  | dominantSeparator | dominantStopBit | lengthAbove112 | idleGapBeforeEnd
  deriving DecidableEq, Repr

/-- The commands, in the order of spec/opcode_table.json. -/
inductive Instr where
  | coldStart (cause : ColdStartCause)
  | readStart
  | readComplete (image : List Byte)
  | tick (points : BitVec 16) (buttons : ButtonLevels)
  | countdownExpiry (p : Point)
  | drainTimerExpiry
  | debounce (b : Button)
  | beginFrame
  | loseContention
  | winContention
  | transmitError
  | idleWaitExpiry
  | frameCompletion
  | frameReceived (bytes : List Byte)
  | frameAbandoned (reason : AbandonReason)
  | addressClashHalt
  | loopbackPassage
  | deliverTimeMark
  | deliverState
  | deliverAck
  | deliverReset
  | deliverSnapshot
  | deliverReplay
  | deliverResyncRequest
  | deliverJoin
  | deliverHeartbeat
  | heartbeatTimerExpiry
  | silenceTimerExpiry (station : Addr)
  | resyncTimerExpiry (station : Addr)
  | replayTimerExpiry (station : Addr)
  | joinWindowExpiry
  | probeTimerExpiry
  | markTimerExpiry
  | stageTimerExpiry
  | chimeTimerExpiry
  | logrdyChange (high : Bool)
  | recordDeparture
  | resetRelease (straps : BitVec 4)
  | millisecond
  | idleGap
  deriving DecidableEq, Repr

end Sys2Proof
end

