-- ==== Sys2Proof/Config.lean ====
section
/-! DEFINITION. The fixed quantities of the part (spec/00_scope.md 0.8). The manual leaves no value to an
implementation and calls no result undefined, so there is no free value here; what an image configures is
`Sys2Proof.Machine.StationConfig`. -/
namespace Sys2Proof.Config

/-- Entries of the transmit queue (R71). -/
def queueSize : Nat := 24
/-- Places of the receive queue (R84). -/
def receivePlaces : Nat := 6
/-- Records of the journal (R166). -/
def journalSize : Nat := 64
/-- The value at which the dropped count saturates (R166, R171). -/
def droppedLimit : Nat := 65535
/-- Failed attempts at which a frame is discarded (R77, R79). -/
def attemptLimit : Nat := 8
/-- The failure streak at which a station enters ISOLATED (R80). -/
def streakLimit : Nat := 3
/-- The idle-wait limit in milliseconds (R78). -/
def idleWaitMs : Nat := 20
/-- Resync attempts after which an expiry declares the peer absent (R106). -/
def resyncLimit : Nat := 3
/-- The number of reads of the configuration image (R182). -/
def maxReads : Nat := 3
/-- Bytes of the configuration image (R184). -/
def imageSize : Nat := 136
/-- The largest payload length a receiver accepts (R69). -/
def maxPayload : Nat := 112
/-- Milliseconds between two ticks (R125). -/
def tickMs : Nat := 10

end Sys2Proof.Config
end

