-- ==== Sys2Proof/Machine/Table.lean ====
section
/-! DEFINITION. A table of sixteen like things (stations, points, lamps): a list that carries the proof of its
length, with reads and writes by `Fin 16`. -/
namespace Sys2Proof.Machine

/-- Sixteen entries, one for each index 0..15. -/
structure Tab (α : Type) where
  cells : List α
  size : cells.length = 16
  deriving DecidableEq, Repr

/-- The indices 0..15 in ascending order. -/
def indices : List (Fin 16) := [0, 1, 2, 3, 4, 5, 6, 7, 8, 9, 10, 11, 12, 13, 14, 15]

/-- The entry at an index. -/
def Tab.get {α : Type} (t : Tab α) (i : Fin 16) : α :=
  t.cells.get ⟨i.val, by have := t.size; have := i.isLt; omega⟩

/-- The table with one entry replaced. -/
def Tab.set {α : Type} (t : Tab α) (i : Fin 16) (v : α) : Tab α :=
  ⟨t.cells.set i.val v, by rw [List.length_set]; exact t.size⟩

/-- The table whose entry at `i` is `f i`. -/
def Tab.ofFn {α : Type} (f : Fin 16 → α) : Tab α :=
  ⟨indices.map f, by rw [List.length_map]; rfl⟩

/-- The table with the same entry everywhere. -/
def Tab.fill {α : Type} (v : α) : Tab α := Tab.ofFn fun _ => v

/-- The table with `f` applied to every entry. -/
def Tab.map {α β : Type} (f : α → β) (t : Tab α) : Tab β :=
  ⟨t.cells.map f, by rw [List.length_map]; exact t.size⟩

/-- The table that holds a list of sixteen things, if there are sixteen. -/
def Tab.ofList {α : Type} (l : List α) : Option (Tab α) :=
  if h : l.length = 16 then some ⟨l, h⟩ else none

/-- Some entry satisfies a test. -/
def Tab.any {α : Type} (f : α → Bool) (t : Tab α) : Bool := t.cells.any f

/-- The lowest index whose entry satisfies a test. -/
def Tab.lowest {α : Type} (f : α → Bool) (t : Tab α) : Option (Fin 16) :=
  indices.find? fun i => f (t.get i)

end Sys2Proof.Machine
end

