-- ==== Sys2Proof/Machine/Types.lean ====
section
/-! DEFINITION. The things the units of the WA416 hold: records, frames, entries, timers, notices turned records,
and the state of each unit with its cold-start value. -/
namespace Sys2Proof.Machine

/-! ## Points and records (R2, R25) -/

/-- The qualified field condition of a point (0.5). -/
inductive Condition where
  | normal | active
  deriving DecidableEq, Repr

/-- The alarm sequence position of a point (R2, R25). -/
inductive SeqState where
  | normal | alert | held | returned | shelved
  deriving DecidableEq, Repr

/-- What made a transition of a point (R25, STATE payload). -/
inductive Cause where
  | activate | clear | ack | reset | shelve | unshelve
  deriving DecidableEq, Repr

/-- What last changed a record of the copy (R2): nothing yet, a STATE with its cause, or a SNAPSHOT. -/
inductive LastCause where
  | none | state (c : Cause) | snapshot
  deriving DecidableEq, Repr

/-- The standing of a record in this copy (R2, section 1.2). -/
inductive CopyStatus where
  | empty | current | stale | lost
  deriving DecidableEq, Repr

/-- One record of the Group Alarm Table (R2). -/
structure GatRecord where
  inUse : Bool
  zone : Zone
  priority : Priority
  state : SeqState
  condition : Condition
  stamp : Millis
  firstOut : Bool
  status : CopyStatus
  lastCause : LastCause
  deriving DecidableEq, Repr

/-- The cold-start record of the copy (R5). -/
def GatRecord.cold : GatRecord :=
  { inUse := false, zone := 0, priority := 0, state := .normal, condition := .normal, stamp := 0, firstOut := false, status := .empty, lastCause := .none }

/-- The Group Alarm Table: for each station its block of sixteen records (R1). -/
abbrev Gat := Tab (Tab GatRecord)

/-- One record of the Point Table (R25). -/
structure PointRecord where
  inUse : Bool
  zone : Zone
  priority : Priority
  state : SeqState
  condition : Condition
  field : Condition
  stamp : Millis
  cause : Option Cause
  owed : Bool
  missed : Count
  deriving DecidableEq, Repr

/-- The cold-start record of the Point Table (R28). -/
def PointRecord.cold : PointRecord :=
  { inUse := false, zone := 0, priority := 0, state := .normal, condition := .normal, field := .normal, stamp := 0, cause := .none, owed := false, missed := 0 }

/-- The sequencer phase (R25, R43). -/
inductive Phase where
  | holding | settling | running
  deriving DecidableEq, Repr

/-- The Point Sequencer's state. -/
structure Psq where
  points : Tab PointRecord
  phase : Phase
  deriving DecidableEq, Repr

/-- Cold start of the Point Sequencer (R28). -/
def Psq.cold : Psq := { points := .fill .cold, phase := .holding }

/-! ## Field Input Unit (R50) -/

/-- The FIU's state of one point. `due` is the model's own mark that the change seen at this tick waits for its
COUNTDOWN_EXPIRY (log entry 4). -/
structure FieldPoint where
  raw : Condition
  qualified : Condition
  countdown : Option Nat
  chatter : Count
  due : Bool
  deriving DecidableEq, Repr

/-- Cold start of one point of the FIU (R64). -/
def FieldPoint.cold : FieldPoint :=
  { raw := .normal, qualified := .normal, countdown := none, chatter := 0, due := false }

/-- The Field Input Unit's state. `tickStamp` is the group time at the last tick (R55). -/
structure Fiu where
  points : Tab FieldPoint
  drainRunning : Bool
  drainCount : Nat
  tickStamp : Millis
  deriving DecidableEq, Repr

/-- Cold start of the FIU (R64). -/
def Fiu.cold : Fiu := { points := .fill .cold, drainRunning := false, drainCount := 0, tickStamp := 0 }

/-! ## Timers (R126) -/

/-- A timer of R126 given in milliseconds: stopped, running from a local count toward a duration, or stopped where
it stands by the entry to HALTED (R124). -/
inductive Timer where
  | stopped
  | running (start : Millis) (toward : Nat)
  | held (elapsed : Millis) (toward : Nat)
  deriving DecidableEq, Repr

/-- The mark timer (R129): RUNNING counts toward M from its start. -/
inductive MarkTimer where
  | stopped | running (start : Millis) | waiting
  deriving DecidableEq, Repr

/-- The Time Base's state. `tickDue` is the model's own mark that the local count has reached a multiple of 10 and
the tick is not yet taken (log entry 4). -/
structure Tmb where
  localCount : Millis
  groupTime : Millis
  markTimer : MarkTimer
  tickDue : Bool
  deriving DecidableEq, Repr

/-- Cold start of the Time Base (R135). -/
def Tmb.cold : Tmb := { localCount := 0, groupTime := 0, markTimer := .stopped, tickDue := false }

/-! ## Configuration (R50, R65, R94, R138, R141, R153, R167, R174, R189) -/

/-- Bus bit rates by their codes 0..3 (R65). -/
inductive BitRate where
  | k62_5 | k125 | k250 | k500
  deriving DecidableEq, Repr

/-- Logger rates by their codes 0..3 (R174). -/
inductive LoggerRate where
  | b9600 | b19200 | b38400 | b115200
  deriving DecidableEq, Repr

/-- Whether a point is active when its contact is closed or when it is open (R50). -/
inductive Polarity where
  | activeClosed | activeOpen
  deriving DecidableEq, Repr

/-- One point block of the image (section 10.3). Delays are in ticks. -/
structure PointConfig where
  inUse : Bool
  polarity : Polarity
  zone : Zone
  priority : Priority
  onDelay : Nat
  offDelay : Nat
  threshold : Count
  deriving DecidableEq, Repr

/-- One lamp entry (R141). -/
inductive LampEntry where
  | off | point (s : Addr) (p : Point) | zone (z : Zone) | station (s : Addr)
  deriving DecidableEq, Repr

/-- The stage interval S (R153). -/
inductive StageInterval where
  | none | s1 | s2 | s4
  deriving DecidableEq, Repr

/-- The chime length (R153). -/
inductive ChimeLength where
  | ms125 | ms500
  deriving DecidableEq, Repr

/-- An accepted configuration (section 10.3, R189). -/
structure StationConfig where
  bitRate : BitRate
  hCode : Nat
  markSeconds : Nat
  drainSeconds : Nat
  loggerRate : LoggerRate
  panelMask : ZoneMask
  hornMask : ZoneMask
  journalMask : ZoneMask
  tone1 : Fin 8
  tone2 : Fin 8
  tone3 : Fin 8
  chimeTone : Fin 8
  stage : StageInterval
  floor : Nat
  chime : ChimeLength
  points : Tab PointConfig
  lamps : Tab LampEntry
  deriving DecidableEq, Repr

/-- What stands for the configuration in states that hold none but are in a running mode; no run reaches such a
state (log entry 17). -/
def StationConfig.unset : StationConfig :=
  { bitRate := .k62_5, hCode := 0, markSeconds := 0, drainSeconds := 0, loggerRate := .b9600, panelMask := 0, hornMask := 0, journalMask := 0, tone1 := 0, tone2 := 0, tone3 := 0, chimeTone := 0, stage := .none, floor := 1, chime := .ms125, points := .fill { inUse := false, polarity := .activeClosed, zone := 0, priority := 0, onDelay := 0, offDelay := 0, threshold := 0 }, lamps := .fill .off }

/-- The load state (R182). -/
inductive LoadState where
  | waiting | reading | accepted | refused
  deriving DecidableEq, Repr

/-- The Configuration Loader's state (R182, R183). The address reads 0 until the straps are sampled (log entry 16). -/
structure Loader where
  load : LoadState
  readNumber : Nat
  address : Addr
  deriving DecidableEq, Repr

/-- Cold start of the loader (R182). -/
def Loader.cold : Loader := { load := .waiting, readNumber := 1, address := 0 }

/-! ## Frames (section 4.2) -/

/-- The mode a HEARTBEAT carries, or a member entry reports (R94, class table). -/
inductive BusMode where
  | active | isolated | joining
  deriving DecidableEq, Repr

/-- The frame classes in contention order (class table). -/
inductive FrameClass where
  | timeMark | state | ack | reset | snapshot | replay | resyncRequest | join | heartbeat
  deriving DecidableEq, Repr

/-- The contents of a STATE frame: one announcement (R36, STATE payload). -/
structure StateBody where
  point : Point
  inUse : Bool
  cause : Cause
  state : SeqState
  condition : Condition
  priority : Priority
  zone : Zone
  count : Count
  stamp : Millis
  deriving DecidableEq, Repr

/-- One entry of a SNAPSHOT or REPLAY; its point is its position (Entry layout). -/
structure Entry where
  inUse : Bool
  firstOut : Bool
  status : CopyStatus
  state : SeqState
  condition : Condition
  priority : Priority
  zone : Zone
  stamp : Millis
  deriving DecidableEq, Repr

/-- The contents of a frame by class (class table). -/
inductive Body where
  | timeMark (time : Millis)
  | state (b : StateBody)
  | ack (mask : ZoneMask)
  | reset (mask : ZoneMask)
  | snapshot (entries : Tab Entry)
  | replay (target : Addr) (entries : Tab Entry)
  | resyncRequest (target : Addr)
  | join (inUseMask : BitVec 16)
  | heartbeat (mode : BusMode)
  deriving DecidableEq, Repr

/-- A frame: source, sequence byte and contents (frame header). -/
structure Frame where
  src : Addr
  seq : SeqNo
  body : Body
  deriving DecidableEq, Repr

/-- How a frame came into the receive queue: from a peer, by this station's own completion on the line (R85), or
by loopback (R89). The last two are the station's own. -/
inductive Origin where
  | peer | line | loopback
  deriving DecidableEq, Repr

/-- One place of the receive queue (R84). -/
structure RxEntry where
  frame : Frame
  origin : Origin
  deriving DecidableEq, Repr

/-! ## Transmit queue and slots (R71, R72) -/

/-- The disposition of an entry (R71). -/
inductive Disposition where
  | unsent | begun | loopedBack
  deriving DecidableEq, Repr

/-- Class, target and contents of a transmit-queue entry (R71). A SNAPSHOT or REPLAY has no contents until its first
won contention or its loopback. -/
inductive TxBody where
  | state (b : StateBody)
  | ack (mask : ZoneMask)
  | reset (mask : ZoneMask)
  | snapshot (contents : Option (Tab Entry))
  | replay (target : Addr) (contents : Option (Tab Entry))
  | resyncRequest (target : Addr)
  | join (inUseMask : BitVec 16)
  deriving DecidableEq, Repr

/-- One entry of the transmit queue (R71). `seq` is the STATE number taken at the first won contention, or the
sequence byte taken at loopback (R81, R82). -/
structure TxEntry where
  body : TxBody
  disposition : Disposition
  attempts : Nat
  seq : Option SeqNo
  deriving DecidableEq, Repr

/-- A full TIME MARK slot; the value carried is fixed at the first won contention (R72). -/
structure MarkSlot where
  attempts : Nat
  time : Option Millis
  deriving DecidableEq, Repr

/-- A full HEARTBEAT slot; the mode carried is fixed at the first won contention (R72); a probe has a single
attempt (R91). -/
structure HeartbeatSlot where
  attempts : Nat
  mode : Option BusMode
  probe : Bool
  deriving DecidableEq, Repr

/-- Where the frame offered to the line stands (R76). -/
inductive Candidate where
  | markSlot | queueHead | heartbeatSlot
  deriving DecidableEq, Repr

/-- What the station does on the line, frame by frame (R66 to R69): waiting for an idle gap, idle gap complete and
line recessive, receiving another's frame with its footing gained, in the contention field of an own frame, or
sending the rest of an own frame. -/
inductive Line where
  | seeking
  | gap
  | receiving
  | contending (c : Candidate)
  | sending (c : Candidate) (frame : Frame)
  deriving DecidableEq, Repr

/-- The Bus Interface's state. -/
structure Bif where
  line : Line
  queue : List TxEntry
  markSlot : Option MarkSlot
  heartbeatSlot : Option HeartbeatSlot
  owedSnapshot : Bool
  owedJoin : Bool
  counter : SeqNo
  lastEnded : SeqNo
  streak : Nat
  rx : List RxEntry
  idleWait : Timer
  probe : Timer
  clash : Bool
  deriving DecidableEq, Repr

/-- Cold start of the Bus Interface (R93). -/
def Bif.cold : Bif :=
  { line := .seeking, queue := [], markSlot := none, heartbeatSlot := none, owedSnapshot := false, owedJoin := false, counter := 0, lastEnded := 0, streak := 0, rx := [], idleWait := .stopped, probe := .stopped, clash := false }

/-! ## Membership (R94, R96, R116) -/

/-- Presence of a station (R94). -/
inductive Presence where
  | self | absent | present
  deriving DecidableEq, Repr

/-- Whether this copy follows the peer's stream (R94). -/
inductive Sync where
  | inStep | awaiting
  deriving DecidableEq, Repr

/-- A REPLAY owed for a target (R94). -/
inductive ReplayClaim where
  | none | scheduled | due
  deriving DecidableEq, Repr

/-- One member entry (R94). -/
structure Member where
  presence : Presence
  reported : Option BusMode
  expected : SeqNo
  sync : Sync
  attempts : Nat
  resyncOwed : Bool
  replay : ReplayClaim
  silence : Timer
  resync : Timer
  replayTimer : Timer
  deriving DecidableEq, Repr

/-- The cold-start member entry (R95). -/
def Member.cold : Member :=
  { presence := .absent, reported := none, expected := 0, sync := .inStep, attempts := 0, resyncOwed := false, replay := .none, silence := .stopped, resync := .stopped, replayTimer := .stopped }

/-- Why a station is HALTED (R96). -/
inductive HaltCause where
  | configFault | addressClash
  deriving DecidableEq, Repr

/-- The station mode (R96). -/
inductive Mode where
  | loading | joining | active | isolated | halted (cause : HaltCause)
  deriving DecidableEq, Repr

/-- The join state (R116). -/
inductive JoinState where
  | closed | pending | opened
  deriving DecidableEq, Repr

/-- The Membership Unit's state. -/
structure Mbu where
  members : Tab Member
  mode : Mode
  heartbeat : Timer
  joinState : JoinState
  joinWindow : Timer
  deriving DecidableEq, Repr

/-- Cold start of the Membership Unit (R95). -/
def Mbu.cold : Mbu :=
  { members := .fill .cold, mode := .loading, heartbeat := .stopped, joinState := .closed, joinWindow := .stopped }

/-! ## Panel (R136, R139, R140) -/

/-- One debouncer (R136). `due` is the model's own mark that the third differing tick has been seen (log entry 4). -/
structure Debouncer where
  pressed : Bool
  count : Nat
  due : Bool
  deriving DecidableEq, Repr

/-- The cold-start debouncer (R137). -/
def Debouncer.cold : Debouncer := { pressed := false, count := 0, due := false }

/-- The Panel Unit's state. `tickMode` is the model's own: the station mode at the tick of the changes that wait for their
DEBOUNCE (R151, log entry 4). -/
structure Pnl where
  ack : Debouncer
  reset : Debouncer
  silence : Debouncer
  test : Debouncer
  lampTest : Bool
  pendingAck : Bool
  pendingReset : Bool
  tickMode : Mode
  deriving DecidableEq, Repr

/-- Cold start of the Panel Unit (R152). -/
def Pnl.cold : Pnl :=
  { ack := .cold, reset := .cold, silence := .cold, test := .cold, lampTest := false, pendingAck := false, pendingReset := false, tickMode := .loading }

/-! ## Horn (R153) -/

/-- The horn state (R153). -/
inductive HornState where
  | quiet | sounding | silenced | chiming
  deriving DecidableEq, Repr

/-- The state a chime returns to (R153). -/
inductive HornReturn where
  | none | quiet | silenced
  deriving DecidableEq, Repr

/-- The Horn Controller's state. -/
structure Hrn where
  horn : HornState
  ret : HornReturn
  level : Nat
  tone : Fin 8
  stage : Timer
  chime : Timer
  deriving DecidableEq, Repr

/-- Cold start of the Horn Controller (R165). -/
def Hrn.cold : Hrn := { horn := .quiet, ret := .none, level := 1, tone := 0, stage := .stopped, chime := .stopped }

/-! ## Journal (R166 to R170) -/

/-- The causes of a MODE record (R170). -/
inductive ModeCause where
  | loadAccepted | configFault | joinComplete | transmitFailure | probeComplete | addressClash
  deriving DecidableEq, Repr

/-- The mode a MODE record carries: LOADING makes none (R170). -/
inductive RecordedMode where
  | active | isolated | joining | halted
  deriving DecidableEq, Repr

/-- One journal record by kind (R169, R170). -/
inductive JournalRecord where
  | transition (station : Addr) (point : Point) (state : SeqState) (condition : Condition) (firstOut : Bool) (status : CopyStatus) (cause : LastCause) (zone : Zone) (priority : Priority) (count : Count) (stamp : Millis)
  | stationLost (station : Addr) (stamp : Millis)
  | stationStale (station : Addr) (stamp : Millis)
  | stationBack (station : Addr) (stamp : Millis)
  | mode (station : Addr) (newMode : RecordedMode) (cause : ModeCause) (stamp : Millis)
  | gap (count : Nat) (stamp : Millis)
  | start
  deriving DecidableEq, Repr

/-- The Journal Unit's state. `inProgress` holds the bytes formed at the beginning of the record (R173). -/
structure Jnl where
  journal : List JournalRecord
  dropped : Nat
  inProgress : Option (List Byte)
  deriving DecidableEq, Repr

/-- Cold start of the Journal Unit (R167). -/
def Jnl.cold : Jnl := { journal := [.start], dropped := 0, inProgress := none }

/-! ## Pins (0.7) -/

/-- The input pins with their levels as last read or last changed (log entry 6). -/
structure Pins where
  resetLow : Bool
  points : BitVec 16
  buttons : ButtonLevels
  straps : BitVec 4
  logrdyHigh : Bool
  deriving DecidableEq, Repr

end Sys2Proof.Machine
end

