-- ==== Sys2Proof/Machine/State.lean ====
section
/-! DEFINITION. The state of one station, unit by unit, the stops, the reset state, and one setter per unit. -/
namespace Sys2Proof.Machine

/-- The machine never stops with a fault: HALTED is a station mode, a next state like any other (R87, R188), and no
rule of the spec stops the part otherwise. No command raises a fault; safe. -/
inductive Fault where
  deriving DecidableEq, Repr

/-- Why a command has no meaning. -/
inductive Refusal where
  /-- Raised by an arm of exec whose command has no meaning yet (none is left); safe. -/
  | notModelled (mnemonic : String)
  /-- Raised by READ_COMPLETE and FRAME_RECEIVED when the bytes they bring are not a whole image (R184) or not a whole
  frame (R69), so that the event the command names has not happened; safe (log entry 12). -/
  | illFormed
  deriving DecidableEq, Repr

/-- The state of a station: the queue of waiting commands, the pins, and the state of its ten units. -/
structure State where
  pending : List Instr
  pins : Pins
  tmb : Tmb
  loader : Loader
  config : Option StationConfig
  fiu : Fiu
  psq : Psq
  gat : Gat
  bus : Bif
  mbu : Mbu
  pnl : Pnl
  hrn : Hrn
  jnl : Jnl
  deriving DecidableEq, Repr

/-- The machine right after reset: the held cold start of R180, every unit at its cold-start values, RESET still low.
The input levels are the model's choice (log entry 6). -/
def State.reset : State :=
  { pending := []
    pins := { resetLow := true, points := 0xFFFF, buttons := ⟨true, true, true, true⟩, straps := 0, logrdyHigh := true }
    tmb := .cold
    loader := .cold
    config := none
    fiu := .cold
    psq := .cold
    gat := .fill (.fill .cold)
    bus := .cold
    mbu := .cold
    pnl := .cold
    hrn := .cold
    jnl := .cold }

/-- The state with the queue of commands replaced. -/
def State.setPending (s : State) (x : List Instr) : State := { s with pending := x }
/-- The state with the pins replaced. -/
def State.setPins (s : State) (x : Pins) : State := { s with pins := x }
/-- The state with the Time Base replaced. -/
def State.setTmb (s : State) (x : Tmb) : State := { s with tmb := x }
/-- The state with the Configuration Loader replaced. -/
def State.setLoader (s : State) (x : Loader) : State := { s with loader := x }
/-- The state with the configuration replaced. -/
def State.setConfig (s : State) (x : Option StationConfig) : State := { s with config := x }
/-- The state with the Field Input Unit replaced. -/
def State.setFiu (s : State) (x : Fiu) : State := { s with fiu := x }
/-- The state with the Point Sequencer replaced. -/
def State.setPsq (s : State) (x : Psq) : State := { s with psq := x }
/-- The state with the copy of the Group Alarm Table replaced. -/
def State.setGat (s : State) (x : Gat) : State := { s with gat := x }
/-- The state with the Bus Interface replaced. -/
def State.setBif (s : State) (x : Bif) : State := { s with bus := x }
/-- The state with the Membership Unit replaced. -/
def State.setMbu (s : State) (x : Mbu) : State := { s with mbu := x }
/-- The state with the Panel Unit replaced. -/
def State.setPnl (s : State) (x : Pnl) : State := { s with pnl := x }
/-- The state with the Horn Controller replaced. -/
def State.setHrn (s : State) (x : Hrn) : State := { s with hrn := x }
/-- The state with the Journal Unit replaced. -/
def State.setJnl (s : State) (x : Jnl) : State := { s with jnl := x }

end Sys2Proof.Machine
end

