-- ==== Sys2Proof/Machine/Bits.lean ====
section
/-! DEFINITION. Bit fields of bytes, byte order, and the cyclic redundancy check, each decided once for the bus
frames, the logger record and the configuration image (0.6 note 6, R70). -/
namespace Sys2Proof.Machine

/-- Bits 7..4 of a byte as a number 0..15. -/
def highNibble (b : Byte) : Fin 16 := ⟨(b.extractLsb' 4 4).toNat, (b.extractLsb' 4 4).isLt⟩

/-- Bits 3..0 of a byte as a number 0..15. -/
def lowNibble (b : Byte) : Fin 16 := ⟨(b.extractLsb' 0 4).toNat, (b.extractLsb' 0 4).isLt⟩

/-- Bits 7..5 of a byte as a number 0..7. -/
def topThree (b : Byte) : Fin 8 := ⟨(b.extractLsb' 5 3).toNat, (b.extractLsb' 5 3).isLt⟩

/-- Bits 3..2 of a byte as a number 0..3. -/
def bitsThreeTwo (b : Byte) : Fin 4 := ⟨(b.extractLsb' 2 2).toNat, (b.extractLsb' 2 2).isLt⟩

/-- Bits 1..0 of a byte as a number 0..3. -/
def bitsOneZero (b : Byte) : Fin 4 := ⟨(b.extractLsb' 0 2).toNat, (b.extractLsb' 0 2).isLt⟩

/-- Bits 2..0 of a byte as a number 0..7. -/
def lowThree (b : Byte) : Fin 8 := ⟨(b.extractLsb' 0 3).toNat, (b.extractLsb' 0 3).isLt⟩

/-- A byte from a number 0..15 in bits 7..4 and one in bits 3..0. -/
def packNibbles (hi lo : Fin 16) : Byte := BitVec.ofNat 8 (hi.val * 16 + lo.val)

/-- One flag as the value it adds to a byte. -/
def flag (b : Bool) (weight : Nat) : Nat := if b then weight else 0

/-- A 16-bit number as two bytes, high byte first. -/
def bytes16 (w : BitVec 16) : List Byte := [w.extractLsb' 8 8, w.extractLsb' 0 8]

/-- A 32-bit number as four bytes, high byte first. -/
def bytes32 (w : BitVec 32) : List Byte :=
  [w.extractLsb' 24 8, w.extractLsb' 16 8, w.extractLsb' 8 8, w.extractLsb' 0 8]

/-- The 16-bit number of two bytes, high byte first. -/
def word16 (hi lo : Byte) : BitVec 16 := hi ++ lo

/-- The 32-bit number of four bytes, high byte first. -/
def word32 (a b c d : Byte) : BitVec 32 := a ++ b ++ c ++ d

/-- One bit of the check of R70: generator x^16 + x^12 + x^5 + 1, neither reflected nor inverted. -/
def crcBit (crc : BitVec 16) (bit : Bool) : BitVec 16 :=
  if crc.getLsbD 15 ^^ bit then (crc <<< 1) ^^^ 0x1021 else crc <<< 1

/-- One byte of the check, most significant bit first (R70). -/
def crcByte (crc : BitVec 16) (b : Byte) : BitVec 16 :=
  [7, 6, 5, 4, 3, 2, 1, 0].foldl (fun c i => crcBit c (b.getLsbD i)) crc

/-- The check over a sequence of bytes, initial value FFFFH (R70). -/
def crc16 (bytes : List Byte) : BitVec 16 := bytes.foldl crcByte 0xFFFF

/-- A zone lies within a zone mask (0.5, class table: bit z for zone z). -/
def inMask (mask : ZoneMask) (z : Zone) : Bool := mask.getLsbD z.val

/-- A count plus one, saturating at 15 (R37, R38, R57). -/
def satIncr (c : Count) : Count := if h : c.val < 15 then ⟨c.val + 1, by omega⟩ else c

/-- A count less one, for a count that is not 0 (R60). -/
def decr (c : Count) : Count := ⟨c.val - 1, by omega⟩

/-- The levels of one byte, least significant bit first (0.6 note 6). -/
def lsbFirst (b : Byte) : List Bool := [0, 1, 2, 3, 4, 5, 6, 7].map fun i => b.getLsbD i

/-- The levels of one byte, most significant bit first. -/
def msbFirst (b : Byte) : List Bool := [7, 6, 5, 4, 3, 2, 1, 0].map fun i => b.getLsbD i

end Sys2Proof.Machine
end

