-- ==== Sys2Proof/Machine/ImageFormat.lean ====
section
/-! DEFINITION. The configuration image (section 10.3): the tests of R185 and R186 and the configuration it carries. -/
namespace Sys2Proof.Machine

/-- The image byte at an offset; offsets past the end do not occur in a whole image. -/
def imageByte (image : List Byte) (i : Nat) : Byte := image.getD i 0

/-- The rate of a bus bit-rate code 0..3 (R65, R186). -/
def BitRate.ofCode (b : Byte) : Option BitRate :=
  match b.toNat with
  | 0 => some .k62_5
  | 1 => some .k125
  | 2 => some .k250
  | 3 => some .k500
  | _ => none

/-- The rate of a logger rate code 0..3 (R174, R186). -/
def LoggerRate.ofCode (b : Byte) : Option LoggerRate :=
  match b.toNat with
  | 0 => some .b9600
  | 1 => some .b19200
  | 2 => some .b38400
  | 3 => some .b115200
  | _ => none

/-- The interval of a stage interval code 0..3 (R186, image byte 14). -/
def StageInterval.ofCode (b : Byte) : Option StageInterval :=
  match b.toNat with
  | 0 => some .none
  | 1 => some .s1
  | 2 => some .s2
  | 3 => some .s4
  | _ => Option.none

/-- The length of a chime length code 0, 1 (R186, image byte 16). -/
def ChimeLength.ofCode (b : Byte) : Option ChimeLength :=
  match b.toNat with
  | 0 => some .ms125
  | 1 => some .ms500
  | _ => none

/-- A tone code 0..7 (R186). -/
def toneOf (b : Byte) : Option (Fin 8) := if h : b.toNat < 8 then some ⟨b.toNat, h⟩ else none

/-- A number within bounds (R186). -/
def within (lo hi : Nat) (b : Byte) : Option Nat := if lo ≤ b.toNat ∧ b.toNat ≤ hi then some b.toNat else none

/-- A shelve threshold: 0, or 2..15 (R186). -/
def thresholdOf (b : Byte) : Option Count :=
  if h : b.toNat < 16 ∧ b.toNat ≠ 1 then some ⟨b.toNat, h.1⟩ else none

/-- The point block of five bytes, if its zero bits are zero, its priority is 1..3 when in use and its threshold is
accepted (R186). -/
def pointBlock (b0 b1 b2 b3 b4 : Byte) : Option PointConfig :=
  match thresholdOf b4 with
  | some threshold =>
    if b0.extractLsb' 0 6 = 0 ∧ b1.getLsbD 4 = false ∧ (bitsOneZero b1).val = 0 ∧ (b0.getLsbD 7 = false ∨ 0 < (bitsThreeTwo b1).val) then
      some { inUse := b0.getLsbD 7, polarity := if b0.getLsbD 6 then .activeOpen else .activeClosed, zone := topThree b1, priority := bitsThreeTwo b1, onDelay := b2.toNat, offDelay := b3.toNat, threshold := threshold }
    else none
  | none => none

/-- The lamp entry of two bytes, if its code is 0..3 and its argument is in range (R186). -/
def lampEntry (code arg : Byte) : Option LampEntry :=
  match code.toNat with
  | 0 => if arg = 0 then some .off else none
  | 1 => some (.point (highNibble arg) (lowNibble arg))
  | 2 => if h : arg.toNat < 8 then some (.zone ⟨arg.toNat, h⟩) else none
  | 3 => if h : arg.toNat < 16 then some (.station ⟨arg.toNat, h⟩) else none
  | _ => none

/-- All of a list of things that may be refused, or none (R186: a refused field refuses the image). -/
def allSome {α : Type} : List (Option α) → Option (List α)
  | [] => some []
  | some a :: rest => (allSome rest).map (a :: ·)
  | none :: _ => none

/-- The sixteen point blocks, point n at 20 + 5n (section 10.3). -/
def pointBlocks (image : List Byte) : Option (Tab PointConfig) :=
  (allSome (indices.map fun n =>
    let at_ := 20 + 5 * n.val
    pointBlock (imageByte image at_) (imageByte image (at_ + 1)) (imageByte image (at_ + 2)) (imageByte image (at_ + 3)) (imageByte image (at_ + 4)))).bind Tab.ofList

/-- The sixteen lamp entries, lamp n at 100 + 2n (section 10.3). -/
def lampEntries (image : List Byte) : Option (Tab LampEntry) :=
  (allSome (indices.map fun n => lampEntry (imageByte image (100 + 2 * n.val)) (imageByte image (101 + 2 * n.val)))).bind Tab.ofList

/-- The three tests of R185: marker, version, check over bytes 0 to 133. -/
def imageIntact (image : List Byte) : Bool :=
  imageByte image 0 == 0x5A && imageByte image 1 == 0x01
    && crc16 (image.take 134) == word16 (imageByte image 134) (imageByte image 135)

/-- The bytes that are zero in every accepted image (R186). -/
def imageZeros (image : List Byte) : Bool :=
  [17, 18, 19, 132, 133].all fun i => imageByte image i == 0

/-- The configuration of an image that passes the tests of R185 and R186; none when the image is refused. -/
def decodeImage (image : List Byte) : Option StationConfig :=
  if imageIntact image && imageZeros image then do
    let bitRate ← BitRate.ofCode (imageByte image 2)
    let hCode ← within 1 20 (imageByte image 3)
    let markSeconds ← within 1 16 (imageByte image 4)
    let drainSeconds ← within 1 255 (imageByte image 5)
    let loggerRate ← LoggerRate.ofCode (imageByte image 6)
    let tone1 ← toneOf (imageByte image 10)
    let tone2 ← toneOf (imageByte image 11)
    let tone3 ← toneOf (imageByte image 12)
    let chimeTone ← toneOf (imageByte image 13)
    let stage ← StageInterval.ofCode (imageByte image 14)
    let floor ← within 1 8 (imageByte image 15)
    let chime ← ChimeLength.ofCode (imageByte image 16)
    let points ← pointBlocks image
    let lamps ← lampEntries image
    some { bitRate := bitRate, hCode := hCode, markSeconds := markSeconds, drainSeconds := drainSeconds, loggerRate := loggerRate, panelMask := imageByte image 7, hornMask := imageByte image 8, journalMask := imageByte image 9, tone1 := tone1, tone2 := tone2, tone3 := tone3, chimeTone := chimeTone, stage := stage, floor := floor, chime := chime, points := points, lamps := lamps }
  else none

/-- The levels of SDO in a read: the command 03H and the address bytes 00H, 00H, each most significant bit first, then
low (R184). -/
def readCommandLevels : List Bool := ([0x03, 0x00, 0x00] : List Byte).flatMap msbFirst

/-- The straps as an address: bit 0 is ADDR0 (R183). -/
def strapAddress (straps : BitVec 4) : Addr := ⟨straps.toNat, straps.isLt⟩

end Sys2Proof.Machine
end

