-- ==== Sys2Proof/Machine/Operands.lean ====
section
/-! DEFINITION. How the operands of the commands are read: contact levels by polarity (R51), button levels (R136), and
one unit's parts by index. -/
namespace Sys2Proof.Machine

/-- The raw condition a pin level gives: low is contact closed, high is contact open (R51). -/
def rawCondition (pol : Polarity) (high : Bool) : Condition :=
  match pol, high with
  | .activeClosed, false => .active
  | .activeClosed, true => .normal
  | .activeOpen, false => .normal
  | .activeOpen, true => .active

/-- A button's pin level; a low level reads as pressed (R136). -/
def pinPressed (l : ButtonLevels) : Button → Bool
  | .ack => !l.ack
  | .reset => !l.reset
  | .silence => !l.silence
  | .test => !l.test

/-- The debouncer of a button. -/
def Pnl.button (p : Pnl) : Button → Debouncer
  | .ack => p.ack
  | .reset => p.reset
  | .silence => p.silence
  | .test => p.test

/-- The panel with the debouncer of a button replaced. -/
def Pnl.setButton (p : Pnl) (b : Button) (d : Debouncer) : Pnl :=
  match b with
  | .ack => { p with ack := d }
  | .reset => { p with reset := d }
  | .silence => { p with silence := d }
  | .test => { p with test := d }

/-- The buttons the Panel Unit acts on before a button at one tick (R137). -/
def actedBefore : Button → List Button
  | .ack => []
  | .reset => [.ack]
  | .silence => [.ack, .reset]
  | .test => [.ack, .reset, .silence]

/-- The record (station, point) of the copy. -/
def recordAt (g : Gat) (s : Addr) (p : Point) : GatRecord := (g.get s).get p

/-- The copy with the record (station, point) replaced. -/
def setRecord (g : Gat) (s : Addr) (p : Point) (r : GatRecord) : Gat := g.set s ((g.get s).set p r)

/-- The record of an own point in the Point Table. -/
def State.point (s : State) (p : Point) : PointRecord := s.psq.points.get p

/-- The state with the record of an own point replaced. -/
def State.setPoint (s : State) (p : Point) (r : PointRecord) : State :=
  s.setPsq { s.psq with points := s.psq.points.set p r }

/-- The member entry of a station. -/
def State.member (s : State) (a : Addr) : Member := s.mbu.members.get a

/-- The state with the member entry of a station replaced. -/
def State.setMember (s : State) (a : Addr) (m : Member) : State :=
  s.setMbu { s.mbu with members := s.mbu.members.set a m }

/-- The FIU's state of a point. -/
def State.fieldPoint (s : State) (p : Point) : FieldPoint := s.fiu.points.get p

/-- The state with the FIU's state of a point replaced. -/
def State.setFieldPoint (s : State) (p : Point) (f : FieldPoint) : State :=
  s.setFiu { s.fiu with points := s.fiu.points.set p f }

/-- The configuration in force; `StationConfig.unset` stands for none in states no run reaches (log entry 17). -/
def State.conf (s : State) : StationConfig := s.config.getD .unset

/-- The station's own address (R183). -/
def State.own (s : State) : Addr := s.loader.address

/-- The heartbeat period H in milliseconds (R94). -/
def State.heartbeatMs (s : State) : Nat := s.conf.hCode * 100

end Sys2Proof.Machine
end

