-- ==== Sys2Proof/Machine/Flags.lean ====
section
/-! DEFINITION. The conditions a station reads off its own state: modes, free entries, hold-off, the candidate for the
line, the mode byte. -/
namespace Sys2Proof.Machine

/-- JOINING, ACTIVE or ISOLATED: the modes in which the units run (R5, R62, R65, R86, R164). -/
def Mode.runs : Mode → Bool
  | .joining => true
  | .active => true
  | .isolated => true
  | .loading => false
  | .halted _ => false

/-- JOINING or ACTIVE: the modes in which slots are filled and isolation may be entered (R80, R97, R130). -/
def Mode.onBus : Mode → Bool
  | .joining => true
  | .active => true
  | .isolated => false
  | .loading => false
  | .halted _ => false

/-- ACTIVE or ISOLATED: the modes in which requests are made and applied (R34, R138). -/
def Mode.takesRequests : Mode → Bool
  | .active => true
  | .isolated => true
  | .joining => false
  | .loading => false
  | .halted _ => false

/-- The mode a HEARTBEAT carries: 1 in ACTIVE, 2 in ISOLATED, 3 in JOINING (R97, R91); none elsewhere. -/
def Mode.bus : Mode → Option BusMode
  | .active => some .active
  | .isolated => some .isolated
  | .joining => some .joining
  | .loading => none
  | .halted _ => none

/-- The units run. -/
def State.runs (s : State) : Bool := s.mbu.mode.runs

/-- The station is ISOLATED. -/
def State.isolated (s : State) : Bool := s.mbu.mode == .isolated

/-- The BIF sends and receives: a running mode, and no address clash found (R65, R87). -/
def State.onLine (s : State) : Bool := s.runs && !s.bus.clash

/-- The transmit queue has a free entry (R73). -/
def Bif.hasFree (b : Bif) : Bool := decide (b.queue.length < Config.queueSize)

/-- The station is held off: the receive queue has no free place (R85). -/
def Bif.heldOff (b : Bif) : Bool := !decide (b.rx.length < Config.receivePlaces)

/-- An attempt of the station's own is in progress; the contention field counts (log entry 8). -/
def Line.own : Line → Option Candidate
  | .contending c => some c
  | .sending c _ => some c
  | .seeking => none
  | .gap => none
  | .receiving => none

/-- An entry is an unsent STATE for a point (R37). -/
def TxEntry.unsentStateFor (p : Point) (e : TxEntry) : Bool :=
  match e.body with
  | .state b => e.disposition == .unsent && b.point == p
  | .ack _ => false
  | .reset _ => false
  | .snapshot _ => false
  | .replay _ _ => false
  | .resyncRequest _ => false
  | .join _ => false

/-- An entry is an unsent STATE (R41). -/
def TxEntry.unsentState (e : TxEntry) : Bool :=
  match e.body with
  | .state _ => e.disposition == .unsent
  | .ack _ => false
  | .reset _ => false
  | .snapshot _ => false
  | .replay _ _ => false
  | .resyncRequest _ => false
  | .join _ => false

/-- An entry is an unsent SNAPSHOT (R73). -/
def TxEntry.unsentSnapshot (e : TxEntry) : Bool :=
  match e.body with
  | .snapshot _ => e.disposition == .unsent
  | .state _ => false
  | .ack _ => false
  | .reset _ => false
  | .replay _ _ => false
  | .resyncRequest _ => false
  | .join _ => false

/-- An entry is an unsent JOIN (R73). -/
def TxEntry.unsentJoin (e : TxEntry) : Bool :=
  match e.body with
  | .join _ => e.disposition == .unsent
  | .state _ => false
  | .ack _ => false
  | .reset _ => false
  | .snapshot _ => false
  | .replay _ _ => false
  | .resyncRequest _ => false

/-- An entry is an unsent REPLAY for a target (R75). -/
def TxEntry.unsentReplayFor (t : Addr) (e : TxEntry) : Bool :=
  match e.body with
  | .replay t' _ => e.disposition == .unsent && t' == t
  | .state _ => false
  | .ack _ => false
  | .reset _ => false
  | .snapshot _ => false
  | .resyncRequest _ => false
  | .join _ => false

/-- The head entry may be offered to the line: there is one and it is not looped back (R76). -/
def Bif.headOffered (b : Bif) : Bool :=
  match b.queue with
  | [] => false
  | e :: _ => e.disposition != .loopedBack

/-- The candidate of lowest class: TIME MARK is class 1, HEARTBEAT class 9, and every queue class lies between (R76). -/
def Bif.candidate (b : Bif) : Option Candidate :=
  if b.markSlot.isSome then some .markSlot
  else if b.headOffered then some .queueHead
  else if b.heartbeatSlot.isSome then some .heartbeatSlot
  else none

/-- The conditions under which the idle-wait timer runs (R78). -/
def State.idleWaitRuns (s : State) : Bool :=
  s.onLine && s.bus.candidate.isSome && !s.bus.heldOff && s.bus.line.own.isNone

/-- The logger line runs: from the end of LOADING on, HALTED included (R177). -/
def Mode.loggerRuns : Mode → Bool
  | .loading => false
  | .joining => true
  | .active => true
  | .isolated => true
  | .halted _ => true

end Sys2Proof.Machine
end

