-- ==== Sys2Proof/Machine/Ops.lean ====
section
/-! DEFINITION. The operations every unit shares: an event that can or cannot arise, the timers of R126, and the start,
stop and test of each. -/
namespace Sys2Proof.Machine

/-- The outcome of a command whose event arises under a condition: its effect, or nothing at all when the event cannot
arise in this state (log entry 2). -/
def arise (cond : Bool) (effect : State → State) (s : State) : Host.Outcome State Fault Refusal :=
  .next (if cond then effect s else s)

/-- A timer started toward a duration at the present local count (R126). -/
def State.timer (s : State) (toward : Nat) : Timer := .running s.tmb.localCount toward

/-- A timer's duration has been reached: the local count has advanced by it since the start, modulo 2^32 (R126). -/
def Timer.reached (now : Millis) : Timer → Bool
  | .running start toward => decide (toward ≤ (now - start).toNat)
  | .stopped => false
  | .held _ _ => false

/-- A running timer stopped where it stands (R124). -/
def Timer.hold (now : Millis) : Timer → Timer
  | .running start toward => .held (now - start) toward
  | .stopped => .stopped
  | .held e toward => .held e toward

/-- A timer of this station is running and its duration has been reached. -/
def State.expired (s : State) (t : Timer) : Bool := t.reached s.tmb.localCount

/-- The idle-wait timer is running, stopped or started as its conditions hold; it starts from 0 when they come to hold
and runs on while they hold (R78). -/
def settleIdleWait (s : State) : State :=
  if s.idleWaitRuns then
    match s.bus.idleWait with
    | .running _ _ => s
    | .stopped => s.setBif { s.bus with idleWait := s.timer Config.idleWaitMs }
    | .held _ _ => s.setBif { s.bus with idleWait := s.timer Config.idleWaitMs }
  else s.setBif { s.bus with idleWait := .stopped }

/-- The idle-wait timer restarts from 0, if its conditions hold (R78). -/
def restartIdleWait (s : State) : State :=
  settleIdleWait (s.setBif { s.bus with idleWait := .stopped })

/-- The bus line is left to others or to the next gap (R66, R69). -/
def State.setLine (s : State) (l : Line) : State := s.setBif { s.bus with line := l }

/-- The transmit queue is replaced. -/
def State.setQueue (s : State) (q : List TxEntry) : State := s.setBif { s.bus with queue := q }

/-- The station mode is replaced. -/
def State.setMode (s : State) (m : Mode) : State := s.setMbu { s.mbu with mode := m }

end Sys2Proof.Machine
end

