-- ==== Sys2Proof/Machine/Horn.lean ====
section
/-! DEFINITION. The Horn Controller: alert set, notices, claims, envelope (chapter 8). -/
namespace Sys2Proof.Machine

/-- A record is in the alert set: zone in the horn zone mask, in use, ALERT, CURRENT or STALE (R154). -/
def inAlertSet (mask : ZoneMask) (r : GatRecord) : Bool :=
  inMask mask r.zone && r.inUse && r.state == .alert && (r.status == .current || r.status == .stale)

/-- Some record of the copy satisfies a test. -/
def anyRecord (f : GatRecord → Bool) (g : Gat) : Bool := g.any fun block => block.any f

/-- The alert set is not empty. -/
def State.alertStands (s : State) : Bool := anyRecord (inAlertSet s.conf.hornMask) s.gat

/-- A record of a priority is in the alert set. -/
def State.alertOfPriority (s : State) (k : Nat) : Bool :=
  anyRecord (fun r => inAlertSet s.conf.hornMask r && r.priority.val == k) s.gat

/-- The configured tone for the highest priority in the alert set, 1 the highest (R161); the tone stays when no
priority 1..3 is in it (log entry 15). -/
def State.chosenTone (s : State) : Fin 8 :=
  if s.alertOfPriority 1 then s.conf.tone1
  else if s.alertOfPriority 2 then s.conf.tone2
  else if s.alertOfPriority 3 then s.conf.tone3
  else s.hrn.tone

/-- The stage interval S in milliseconds, if there is one (R153). -/
def StageInterval.ms : StageInterval → Option Nat
  | .none => Option.none
  | .s1 => some 1000
  | .s2 => some 2000
  | .s4 => some 4000

/-- The chime length in milliseconds (R153). -/
def ChimeLength.ms : ChimeLength → Nat
  | .ms125 => 125
  | .ms500 => 500

/-- The stage timer at a level: it runs toward S when S is not none and the level is below the floor (R162). -/
def State.stageAt (s : State) (level : Nat) : Timer :=
  match s.conf.stage.ms with
  | some ms => if level < s.conf.floor then s.timer ms else .stopped
  | none => .stopped

/-- The horn goes to SOUNDING at level 1 with the tone chosen from the alert set; a chime in progress ends (R156). -/
def sound (s : State) : State :=
  s.setHrn { horn := .sounding, ret := .none, level := 1, tone := s.chosenTone, stage := s.stageAt 1, chime := .stopped }

/-- A review notice (R159). -/
def reviewHorn (s : State) : State :=
  match s.hrn.horn with
  | .quiet => s
  | .sounding =>
    if s.alertStands then s.setHrn { s.hrn with tone := s.chosenTone }
    else s.setHrn { s.hrn with horn := .quiet, stage := .stopped }
  | .silenced => if s.alertStands then s else s.setHrn { s.hrn with horn := .quiet }
  | .chiming => if s.alertStands then s else s.setHrn { s.hrn with ret := .quiet }

/-- An entered-ALERT notice for the record (station, point), carrying its zone (R156). -/
def enteredAlert (st : Addr) (p : Point) (zone : Zone) (s : State) : State :=
  if inMask s.conf.hornMask zone then
    if inAlertSet s.conf.hornMask (recordAt s.gat st p) then sound s else reviewHorn s
  else s

/-- A chime claim (R157). -/
def chimeClaim (s : State) : State :=
  match s.hrn.horn with
  | .quiet => s.setHrn { s.hrn with horn := .chiming, ret := .quiet, chime := s.timer s.conf.chime.ms }
  | .silenced => s.setHrn { s.hrn with horn := .chiming, ret := .silenced, chime := s.timer s.conf.chime.ms }
  | .sounding => s
  | .chiming => s

/-- An entered-RETURNED notice carrying a zone: a chime claim when the zone lies in the mask (R157). -/
def enteredReturned (zone : Zone) (s : State) : State :=
  if inMask s.conf.hornMask zone then chimeClaim s else s

/-- A silence claim (R160). -/
def silenceClaim (s : State) : State :=
  match s.hrn.horn with
  | .sounding => s.setHrn { s.hrn with horn := .silenced, stage := .stopped }
  | .quiet => s
  | .silenced => s
  | .chiming => s

/-- The chime ends and the horn goes to its return state (R158); a return state of none is not reached in CHIMING. -/
def endChime (s : State) : State :=
  s.setHrn { s.hrn with horn := match s.hrn.ret with
                                | .silenced => .silenced
                                | .quiet => .quiet
                                | .none => .quiet
                        ret := .none
                        chime := .stopped }

/-- The level rises by one; the stage timer restarts below the floor and stops at it (R162). -/
def fadeHorn (s : State) : State :=
  s.setHrn { s.hrn with level := s.hrn.level + 1, stage := s.stageAt (s.hrn.level + 1) }

/-- The horn at the entry to HALTED (R164). -/
def haltHorn (s : State) : State :=
  s.setHrn { s.hrn with horn := .quiet, ret := .none, level := 1, stage := .stopped, chime := .stopped }

end Sys2Proof.Machine
end

