-- ==== Sys2Proof/Machine/FrameFormat.lean ====
section
/-! DEFINITION. The bytes of a frame on the alarm bus: header, payload by class, check (section 4.2), the tests a
complete frame passes (R83), and the levels a frame takes on the line (R65, R66). -/
namespace Sys2Proof.Machine

/-- The code of a sequence state in P1 and E1 (STATE payload). -/
def SeqState.code : SeqState → Nat
  | .normal => 0
  | .alert => 1
  | .held => 2
  | .returned => 3
  | .shelved => 4

/-- The sequence state of a code; 5..7 are none (R83). -/
def SeqState.ofCode (c : Fin 8) : Option SeqState :=
  match c.val with
  | 0 => some .normal
  | 1 => some .alert
  | 2 => some .held
  | 3 => some .returned
  | 4 => some .shelved
  | _ => none

/-- The code of a cause in P0 (STATE payload). -/
def Cause.code : Cause → Nat
  | .activate => 0
  | .clear => 1
  | .ack => 2
  | .reset => 3
  | .shelve => 4
  | .unshelve => 5

/-- The cause of a code; 6 and 7 are none (R83). -/
def Cause.ofCode (c : Fin 8) : Option Cause :=
  match c.val with
  | 0 => some .activate
  | 1 => some .clear
  | 2 => some .ack
  | 3 => some .reset
  | 4 => some .shelve
  | 5 => some .unshelve
  | _ => none

/-- The code of a copy status in E0 (Entry layout). -/
def CopyStatus.code : CopyStatus → Nat
  | .empty => 0
  | .current => 1
  | .stale => 2
  | .lost => 3

/-- The copy status of a code (Entry layout). -/
def CopyStatus.ofCode (c : Fin 4) : CopyStatus :=
  match c.val with
  | 0 => .empty
  | 1 => .current
  | 2 => .stale
  | _ => .lost

/-- Condition as a bit: 1 ACTIVE, 0 NORMAL (STATE payload). -/
def Condition.toBit : Condition → Bool
  | .active => true
  | .normal => false

/-- The condition of a bit. -/
def Condition.ofBit (b : Bool) : Condition := if b then .active else .normal

/-- The mode byte of a HEARTBEAT (class table). -/
def BusMode.code : BusMode → Byte
  | .active => 1
  | .isolated => 2
  | .joining => 3

/-- The mode of a HEARTBEAT's mode byte: 1..3 (R83). -/
def BusMode.ofCode (b : Byte) : Option BusMode :=
  match b.toNat with
  | 1 => some .active
  | 2 => some .isolated
  | 3 => some .joining
  | _ => none

/-- The class code in B0, bits 7..4 (class table). -/
def FrameClass.code : FrameClass → Fin 16
  | .timeMark => 1
  | .state => 2
  | .ack => 3
  | .reset => 4
  | .snapshot => 5
  | .replay => 6
  | .resyncRequest => 7
  | .join => 8
  | .heartbeat => 9

/-- The class of a frame's contents. -/
def Body.cls : Body → FrameClass
  | .timeMark _ => .timeMark
  | .state _ => .state
  | .ack _ => .ack
  | .reset _ => .reset
  | .snapshot _ => .snapshot
  | .replay _ _ => .replay
  | .resyncRequest _ => .resyncRequest
  | .join _ => .join
  | .heartbeat _ => .heartbeat

/-- The contention byte B0: class in bits 7..4, source in bits 3..0 (frame header). -/
def contentionByte (c : FrameClass) (src : Addr) : Byte := packNibbles c.code src

/-- The target byte B2: 0..15 for REPLAY and RESYNC REQUEST, FFH for every other class (frame header). -/
def Body.targetByte : Body → Byte
  | .replay t _ => BitVec.ofNat 8 t.val
  | .resyncRequest t => BitVec.ofNat 8 t.val
  | .timeMark _ => 0xFF
  | .state _ => 0xFF
  | .ack _ => 0xFF
  | .reset _ => 0xFF
  | .snapshot _ => 0xFF
  | .join _ => 0xFF
  | .heartbeat _ => 0xFF

/-- The seven payload bytes of a STATE (STATE payload). -/
def StateBody.bytes (b : StateBody) : List Byte :=
  [ BitVec.ofNat 8 (b.point.val * 16 + flag b.inUse 8 + b.cause.code),
    BitVec.ofNat 8 (b.state.code * 32 + flag b.condition.toBit 16 + b.priority.val * 4),
    BitVec.ofNat 8 (b.zone.val * 32 + b.count.val) ] ++ bytes32 b.stamp

/-- The seven bytes of the entry at a position (Entry layout). -/
def Entry.bytes (p : Point) (e : Entry) : List Byte :=
  [ BitVec.ofNat 8 (p.val * 16 + flag e.inUse 8 + flag e.firstOut 4 + e.status.code),
    BitVec.ofNat 8 (e.state.code * 32 + flag e.condition.toBit 16 + e.priority.val * 4),
    BitVec.ofNat 8 (e.zone.val * 32) ] ++ bytes32 e.stamp

/-- The 112 bytes of sixteen entries, points 0..15 in order (class table). -/
def entriesBytes (es : Tab Entry) : List Byte := indices.flatMap fun p => (es.get p).bytes p

/-- The payload bytes by class (class table). -/
def Body.payload : Body → List Byte
  | .timeMark t => bytes32 t
  | .state b => b.bytes
  | .ack m => [m]
  | .reset m => [m]
  | .snapshot es => entriesBytes es
  | .replay _ es => entriesBytes es
  | .resyncRequest _ => []
  | .join m => bytes16 m
  | .heartbeat m => [m.code]

/-- The payload length of a class, carried in B3 (class table). -/
def FrameClass.payloadLength : FrameClass → Nat
  | .timeMark => 4
  | .state => 7
  | .ack => 1
  | .reset => 1
  | .snapshot => 112
  | .replay => 112
  | .resyncRequest => 0
  | .join => 2
  | .heartbeat => 1

/-- Header and payload, over which the check is computed (R70). -/
def Frame.headed (f : Frame) : List Byte :=
  [contentionByte f.body.cls f.src, f.seq, f.body.targetByte, BitVec.ofNat 8 f.body.cls.payloadLength] ++ f.body.payload

/-- All bytes of a frame: header, payload, check high byte first (section 4.2, R70). -/
def encodeFrame (f : Frame) : List Byte := f.headed ++ bytes16 (crc16 f.headed)

/-- The priority is 1..3 when the point is in use (R83). -/
def priorityValid (inUse : Bool) (p : Priority) : Bool := !inUse || decide (0 < p.val)

/-- A STATE payload, if its field codes are valid: cause 0..5, state 0..4, priority 1..3 when in use, the zero bits
zero (R83). -/
def decodeState : List Byte → Option StateBody
  | [p0, p1, p2, s0, s1, s2, s3] =>
    match Cause.ofCode (lowThree p0), SeqState.ofCode (topThree p1) with
    | some cause, some state =>
      if (bitsOneZero p1).val = 0 ∧ p2.getLsbD 4 = false ∧ priorityValid (p0.getLsbD 3) (bitsThreeTwo p1) then
        some { point := highNibble p0, inUse := p0.getLsbD 3, cause := cause, state := state, condition := .ofBit (p1.getLsbD 4), priority := bitsThreeTwo p1, zone := topThree p2, count := lowNibble p2, stamp := word32 s0 s1 s2 s3 }
      else none
    | _, _ => none
  | _ => none

/-- The entry of seven bytes at a position, if its field codes are valid; a SNAPSHOT's copy status is 1 (R83). -/
def decodeEntry (snapshot : Bool) (p : Nat) (e0 e1 e2 s0 s1 s2 s3 : Byte) : Option Entry :=
  match SeqState.ofCode (topThree e1) with
  | some state =>
    if (highNibble e0).val = p ∧ (bitsOneZero e1).val = 0 ∧ e2.extractLsb' 0 5 = 0 ∧ priorityValid (e0.getLsbD 3) (bitsThreeTwo e1)
        ∧ (snapshot = false ∨ CopyStatus.ofCode (bitsOneZero e0) = .current) then
      some { inUse := e0.getLsbD 3, firstOut := e0.getLsbD 2, status := .ofCode (bitsOneZero e0), state := state, condition := .ofBit (e1.getLsbD 4), priority := bitsThreeTwo e1, zone := topThree e2, stamp := word32 s0 s1 s2 s3 }
    else none
  | none => none

/-- The entries from a position on, seven bytes each (class table). -/
def decodeEntriesFrom (snapshot : Bool) (p : Nat) : List Byte → Option (List Entry)
  | [] => some []
  | e0 :: e1 :: e2 :: s0 :: s1 :: s2 :: s3 :: rest =>
    match decodeEntry snapshot p e0 e1 e2 s0 s1 s2 s3, decodeEntriesFrom snapshot (p + 1) rest with
    | some e, some es => some (e :: es)
    | _, _ => none
  | _ => none

/-- The sixteen entries of a SNAPSHOT or REPLAY payload (R83). -/
def decodeEntries (snapshot : Bool) (payload : List Byte) : Option (Tab Entry) :=
  match decodeEntriesFrom snapshot 0 payload with
  | some es => Tab.ofList es
  | none => none

/-- A target byte 0..15 (R83). -/
def targetOf (b2 : Byte) : Option Addr := if h : b2.toNat < 16 then some ⟨b2.toNat, h⟩ else none

/-- The class of a code 1..9; 0 and 10..15 are not classes (class table). -/
def FrameClass.ofCode (c : Fin 16) : Option FrameClass :=
  match c.val with
  | 1 => some .timeMark
  | 2 => some .state
  | 3 => some .ack
  | 4 => some .reset
  | 5 => some .snapshot
  | 6 => some .replay
  | 7 => some .resyncRequest
  | 8 => some .join
  | 9 => some .heartbeat
  | _ => none

/-- The contents of a class from its target byte and payload, if their codes are valid (R83, tests 3 and 5). -/
def decodeBody (c : FrameClass) (b2 : Byte) (payload : List Byte) : Option Body :=
  match c with
  | .replay =>
    match targetOf b2, decodeEntries false payload with
    | some t, some es => some (.replay t es)
    | _, _ => none
  | .resyncRequest => (targetOf b2).map .resyncRequest
  | .timeMark =>
    match payload with
    | [a, b, c, d] => if b2 = 0xFF then some (.timeMark (word32 a b c d)) else none
    | _ => none
  | .state => if b2 = 0xFF then (decodeState payload).map .state else none
  | .ack =>
    match payload with
    | [m] => if b2 = 0xFF then some (.ack m) else none
    | _ => none
  | .reset =>
    match payload with
    | [m] => if b2 = 0xFF then some (.reset m) else none
    | _ => none
  | .snapshot => if b2 = 0xFF then (decodeEntries true payload).map .snapshot else none
  | .join =>
    match payload with
    | [hi, lo] => if b2 = 0xFF then some (.join (word16 hi lo)) else none
    | _ => none
  | .heartbeat =>
    match payload with
    | [m] => if b2 = 0xFF then (BusMode.ofCode m).map .heartbeat else none
    | _ => none

/-- The frame that a complete sequence of bytes is, if it passes the five tests of R83. -/
def decodeFrame (bytes : List Byte) : Option Frame :=
  match bytes with
  | b0 :: b1 :: b2 :: b3 :: rest =>
    match FrameClass.ofCode (highNibble b0) with
    | some c =>
      let payload := rest.take c.payloadLength
      if b3.toNat = c.payloadLength ∧ rest.length = c.payloadLength + 2
          ∧ rest.drop c.payloadLength = bytes16 (crc16 (b0 :: b1 :: b2 :: b3 :: payload)) then
        (decodeBody c b2 payload).map fun body => { src := lowNibble b0, seq := b1, body := body }
      else none
    | none => none
  | _ => none

/-- What a station may put in a frame: a STATE or entry in use has priority 1..3, and a SNAPSHOT entry's copy status is
CURRENT (R13, R83). -/
def Body.valid : Body → Bool
  | .state b => priorityValid b.inUse b.priority
  | .snapshot es => !es.any fun e => !(priorityValid e.inUse e.priority) || e.status != .current
  | .replay _ es => !es.any fun e => !(priorityValid e.inUse e.priority)
  | .timeMark _ => true
  | .ack _ => true
  | .reset _ => true
  | .resyncRequest _ => true
  | .join _ => true
  | .heartbeat _ => true

/-- The contention field: start-of-frame bit dominant (0), B0 most significant bit first, separator recessive (1)
(R66); a bit of value 0 is the dominant level (R65). -/
def contentionLevels (b0 : Byte) : List Bool := [false] ++ msbFirst b0 ++ [true]

/-- A character: start bit dominant, data bits least significant first, stop bit recessive (R65). -/
def characterLevels (b : Byte) : List Bool := [false] ++ lsbFirst b ++ [true]

/-- The levels of a whole frame on the line, one per bit time; true is recessive (R65, R66). -/
def frameLevels : List Byte → List Bool
  | [] => []
  | b0 :: rest => contentionLevels b0 ++ rest.flatMap characterLevels

end Sys2Proof.Machine
end

