-- ==== Sys2Proof/Machine/LoggerFormat.lean ====
section
/-! DEFINITION. The fifteen bytes of a logger record (section 9.4, R173) and the levels of LOGTX (R174). -/
namespace Sys2Proof.Machine

/-- The new-mode code of a MODE record (byte 4). -/
def RecordedMode.code : RecordedMode → Byte
  | .active => 1
  | .isolated => 2
  | .joining => 3
  | .halted => 4

/-- The cause code of a MODE record (byte 5, bits 2..0). -/
def ModeCause.code : ModeCause → Byte
  | .loadAccepted => 1
  | .configFault => 2
  | .joinComplete => 3
  | .transmitFailure => 4
  | .probeComplete => 5
  | .addressClash => 6

/-- The cause code of a TRANSITION record (byte 5, bits 2..0); a record that no STATE or SNAPSHOT has reached makes no
TRANSITION, and would send 7. -/
def LastCause.code : LastCause → Nat
  | .state c => c.code
  | .snapshot => 6
  | .none => 7

/-- The flags byte of a TRANSITION record (byte 5). -/
def transitionFlags (c : Condition) (firstOut : Bool) (st : CopyStatus) (cause : LastCause) : Byte :=
  BitVec.ofNat 8 (flag c.toBit 128 + flag firstOut 64 + st.code * 16 + cause.code)

/-- Bytes 1 to 13 of a record by kind: kind, station, point, state or mode, flags, zone, priority, count, stamp. -/
def recordFields : JournalRecord → List Byte
  | .transition s p st c fo cs cause z pr n stamp =>
    [1, BitVec.ofNat 8 s.val, BitVec.ofNat 8 p.val, BitVec.ofNat 8 st.code, transitionFlags c fo cs cause, BitVec.ofNat 8 z.val, BitVec.ofNat 8 pr.val]
      ++ bytes16 (BitVec.ofNat 16 n.val) ++ bytes32 stamp
  | .stationLost s stamp => [2, BitVec.ofNat 8 s.val, 0xFF, 0, 0, 0, 0, 0, 0] ++ bytes32 stamp
  | .stationStale s stamp => [3, BitVec.ofNat 8 s.val, 0xFF, 0, 0, 0, 0, 0, 0] ++ bytes32 stamp
  | .stationBack s stamp => [4, BitVec.ofNat 8 s.val, 0xFF, 0, 0, 0, 0, 0, 0] ++ bytes32 stamp
  | .mode s m c stamp => [5, BitVec.ofNat 8 s.val, 0xFF, m.code, c.code, 0, 0, 0, 0] ++ bytes32 stamp
  | .gap n stamp => [6, 0xFF, 0xFF, 0, 0, 0, 0] ++ bytes16 (BitVec.ofNat 16 n) ++ bytes32 stamp
  | .start => [7, 0xFF, 0xFF, 0, 0, 0, 0, 0, 0, 0, 0, 0, 0]

/-- The check: 256 minus the sum of the bytes before it, modulo 256 (R173). -/
def recordCheck (bytes : List Byte) : Byte := -(bytes.foldl (· + ·) 0)

/-- The fifteen bytes of a logger record (R173). -/
def recordBytes (r : JournalRecord) : List Byte :=
  let body := (0xA5 : Byte) :: recordFields r
  body ++ [recordCheck body]

/-- The levels of LOGTX for a record, one per bit time; true is high (R174). -/
def recordLevels (bytes : List Byte) : List Bool := bytes.flatMap fun b => [false] ++ lsbFirst b ++ [true]

/-- The rate of a code in baud (R174). -/
def LoggerRate.baud : LoggerRate → Nat
  | .b9600 => 9600
  | .b19200 => 19200
  | .b38400 => 38400
  | .b115200 => 115200

end Sys2Proof.Machine
end

