-- ==== Sys2Proof/Machine/Journal.lean ====
section
/-! DEFINITION. The Journal Unit: records offered and dropped, the beginning of a record on the logger line, its
departure and the GAP record (chapter 9). -/
namespace Sys2Proof.Machine

/-- The conditions under which the logger line takes a new record: it runs, none is in progress, the journal is not
empty, LOGRDY is low (R175). -/
def State.recordMayBegin (s : State) : Bool :=
  s.mbu.mode.loggerRuns && s.jnl.inProgress.isNone && !s.jnl.journal.isEmpty && !s.pins.logrdyHigh

/-- The head record begins when the conditions of R175 hold; its bytes are formed once, here (R173). -/
def beginRecord (s : State) : State :=
  if s.recordMayBegin then
    match s.jnl.journal with
    | [] => s
    | r :: _ => s.setJnl { s.jnl with inProgress := some (recordBytes r) }
  else s

/-- The journal after a record is offered: taken at the tail when fewer than 64 stand, else dropped and counted (R171). -/
def Jnl.offer (j : Jnl) (r : JournalRecord) : Jnl :=
  if j.journal.length < Config.journalSize then { j with journal := j.journal ++ [r] }
  else { j with dropped := min (j.dropped + 1) Config.droppedLimit }

/-- A notice is turned into a record, offered (R168, R171), and begins on the line if the conditions hold (R175). -/
def offerRecord (r : JournalRecord) (s : State) : State :=
  beginRecord (s.setJnl (s.jnl.offer r))

/-- The journal after its head leaves: a GAP record takes the place when records have been dropped (R172, R176). -/
def Jnl.depart (j : Jnl) (groupTime : Millis) : Jnl :=
  let rest := j.journal.tail
  if j.dropped = 0 then { j with journal := rest, inProgress := none }
  else { journal := rest ++ [.gap j.dropped groupTime], dropped := 0, inProgress := none }

/-- The record in progress leaves, the GAP rule is carried out, and the next record begins if it may (R176). -/
def departRecord (s : State) : State :=
  beginRecord (s.setJnl (s.jnl.depart s.tmb.groupTime))

/-- The mode a MODE record carries (R170). LOADING is entered only at cold start and makes no MODE record; the arm for
it is not reached. -/
def Mode.recorded : Mode → RecordedMode
  | .active => .active
  | .isolated => .isolated
  | .joining => .joining
  | .halted _ => .halted
  | .loading => .halted

/-- The mode changes, and one MODE notice with the new mode, the cause and the group time goes to the journal (R96). -/
def changeMode (m : Mode) (cause : ModeCause) (s : State) : State :=
  offerRecord (.mode s.own m.recorded cause s.tmb.groupTime) (s.setMode m)

end Sys2Proof.Machine
end

