-- ==== Sys2Proof/Machine/GroupTable.lean ====
section
/-! DEFINITION. The Group Table Unit: claims, STATE and SNAPSHOT applications, the first-out mark, the notices
(chapter 1). -/
namespace Sys2Proof.Machine

/-- The status after a LOST claim (R6). -/
def CopyStatus.afterLost : CopyStatus → CopyStatus
  | .empty => .empty
  | .current => .lost
  | .stale => .lost
  | .lost => .lost

/-- The status after a STALE claim or a JOIN marking (R7, R8). -/
def CopyStatus.afterStale : CopyStatus → CopyStatus
  | .empty => .empty
  | .current => .stale
  | .stale => .stale
  | .lost => .stale

/-- The status after a STATE for the record (R11). -/
def CopyStatus.afterState : CopyStatus → CopyStatus
  | .empty => .stale
  | .current => .current
  | .stale => .stale
  | .lost => .stale

/-- A block with every status changed; all else is kept (R6, R7, R8). -/
def restatus (f : CopyStatus → CopyStatus) (block : Tab GatRecord) : Tab GatRecord :=
  block.map fun r => { r with status := f r.status }

/-- Some record of a block changes its status. -/
def restatusChanges (f : CopyStatus → CopyStatus) (block : Tab GatRecord) : Bool :=
  block.any fun r => f r.status != r.status

/-- A claim on a station's block: the statuses change whole, and if one did, one review notice and one station notice
go out (R6, R7, R8, R24). -/
def claimStatus (f : CopyStatus → CopyStatus) (notice : JournalRecord) (st : Addr) (s : State) : State :=
  if restatusChanges f (s.gat.get st) then
    offerRecord notice (reviewHorn (s.setGat (s.gat.set st (restatus f (s.gat.get st)))))
  else s

/-- A LOST claim (R6). -/
def claimLost (st : Addr) (s : State) : State :=
  claimStatus .afterLost (.stationLost st s.tmb.groupTime) st s

/-- A STALE claim (R7); JOIN marking has the same effect and notices (R8). -/
def claimStale (st : Addr) (s : State) : State :=
  claimStatus .afterStale (.stationStale st s.tmb.groupTime) st s

/-- ALERT, HELD or RETURNED: the states that may carry the mark and that block it (R14, R17). -/
def SeqState.standing : SeqState → Bool
  | .alert => true
  | .held => true
  | .returned => true
  | .normal => false
  | .shelved => false

/-- A record of a zone holds the mark. -/
def marksZone (z : Zone) (r : GatRecord) : Bool := r.firstOut && r.zone == z

/-- A record blocks the reception of its zone's mark: non-EMPTY and in ALERT, HELD or RETURNED (R15, R17). -/
def blocksZone (z : Zone) (r : GatRecord) : Bool :=
  r.zone == z && r.status != .empty && r.state.standing

/-- Some record of the copy other than (station, point) satisfies a test. -/
def anyOther (st : Addr) (p : Point) (f : GatRecord → Bool) (g : Gat) : Bool :=
  indices.any fun st' => indices.any fun p' => !(st' == st && p' == p) && f (recordAt g st' p')

/-- The record after a STATE's carried fields, cause and status, before the mark is evaluated; the mark is lost in
NORMAL and SHELVED and at a change of zone (R10, R11, R16). -/
def carried (old : GatRecord) (b : StateBody) : GatRecord :=
  { inUse := b.inUse, zone := b.zone, priority := b.priority, state := b.state, condition := b.condition, stamp := b.stamp
    firstOut := old.firstOut && b.state.standing && b.zone == old.zone
    status := old.status.afterState
    lastCause := .state b.cause }

/-- The record receives the mark: it enters ALERT, its zone is otherwise quiet, and no record of the zone holds the
mark (R15). -/
def receivesMark (st : Addr) (p : Point) (old : GatRecord) (b : StateBody) (g : Gat) : Bool :=
  old.state != .alert && b.state == .alert
    && !anyOther st p (blocksZone b.zone) g && !anyRecord (marksZone b.zone) g

/-- The copy after a STATE from a station (R10): the record replaced, then the first-out evaluation. -/
def applyState (st : Addr) (b : StateBody) (g : Gat) : Gat :=
  let old := recordAt g st b.point
  let r := carried old b
  let g' := setRecord g st b.point r
  if receivesMark st b.point old b g' then setRecord g' st b.point { r with firstOut := true } else g'

/-- The record of an entry, its mark cleared (R13, R18 step 1). -/
def entryRecord (old : GatRecord) (e : Entry) : GatRecord :=
  { inUse := e.inUse, zone := e.zone, priority := e.priority, state := e.state, condition := e.condition, stamp := e.stamp, firstOut := false, status := .current, lastCause := old.lastCause }

/-- One entry of step 2 of R18: a flagged entry in ALERT, HELD or RETURNED receives the mark if no record of its zone
holds it at that moment. -/
def settleMark (st : Addr) (es : Tab Entry) (g : Gat) (p : Point) : Gat :=
  let e := es.get p
  if e.firstOut && e.state.standing && !anyRecord (marksZone e.zone) g then
    setRecord g st p { recordAt g st p with firstOut := true }
  else g

/-- A record is changed by an application (R19). -/
def recordChanged (old new : GatRecord) : Bool :=
  old.inUse != new.inUse || old.zone != new.zone || old.priority != new.priority || old.state != new.state
    || old.condition != new.condition || old.stamp != new.stamp || old.firstOut != new.firstOut

/-- The last cause of a SNAPSHOT's records: SNAPSHOT where the record changed (R13). -/
def snapshotCause (old new : GatRecord) : GatRecord :=
  if recordChanged old new then { new with lastCause := .snapshot } else new

/-- The copy after a SNAPSHOT from a station (R13, R18). -/
def applySnapshot (st : Addr) (es : Tab Entry) (g : Gat) : Gat :=
  let block := g.get st
  let replaced := g.set st (.ofFn fun p => entryRecord (block.get p) (es.get p))
  let settled := indices.foldl (settleMark st es) replaced
  settled.set st (.ofFn fun p => snapshotCause (block.get p) (recordAt settled st p))

/-- The application is reviewed: it changed a record's state, in use, zone, priority or copy status (R22). -/
def reviewDue (old new : GatRecord) : Bool :=
  old.state != new.state || old.inUse != new.inUse || old.zone != new.zone || old.priority != new.priority || old.status != new.status

/-- A TRANSITION notice is due: in use, state, condition or mark differs and the zone after the change lies in the
journal zone mask (R23). -/
def transitionDue (mask : ZoneMask) (old new : GatRecord) : Bool :=
  (old.inUse != new.inUse || old.state != new.state || old.condition != new.condition || old.firstOut != new.firstOut)
    && inMask mask new.zone

/-- The entered-ALERT or entered-RETURNED notice of one record (R20, R21). -/
def hornNotice (old : Gat) (st : Addr) (s : State) (p : Point) : State :=
  let o := recordAt old st p
  let n := recordAt s.gat st p
  if o.state != .alert && n.state == .alert then enteredAlert st p n.zone s
  else if o.state != .returned && n.state == .returned then enteredReturned n.zone s
  else s

/-- The TRANSITION notice of one record (R23). -/
def journalNotice (old : Gat) (st : Addr) (count : Count) (s : State) (p : Point) : State :=
  let n := recordAt s.gat st p
  if transitionDue s.conf.journalMask (recordAt old st p) n then
    offerRecord (.transition st p n.state n.condition n.firstOut n.status n.lastCause n.zone n.priority count n.stamp) s
  else s

/-- The notices of one application over the points it concerns, in ascending order: entered-ALERT and
entered-RETURNED, then the one review, then the journal's transitions (R19 to R23, R163). -/
def applicationNotices (old : Gat) (st : Addr) (points : List Point) (count : Count) (s : State) : State :=
  let horned := points.foldl (hornNotice old st) s
  let reviewed := if points.any fun p => reviewDue (recordAt old st p) (recordAt s.gat st p) then reviewHorn horned else horned
  points.foldl (journalNotice old st count) reviewed

/-- The GTU stage of a STATE frame (R10). -/
def gtuState (st : Addr) (b : StateBody) (s : State) : State :=
  applicationNotices s.gat st [b.point] b.count (s.setGat (applyState st b s.gat))

/-- The GTU stage of a SNAPSHOT frame (R13). -/
def gtuSnapshot (st : Addr) (es : Tab Entry) (s : State) : State :=
  applicationNotices s.gat st indices 0 (s.setGat (applySnapshot st es s.gat))

end Sys2Proof.Machine
end

