-- ==== Sys2Proof/Machine/TransmitQueue.lean ====
section
/-! DEFINITION. Claims on the transmit queue, the free-entry order, supersession and withdrawal (sections 4.3, 4.8). -/
namespace Sys2Proof.Machine

/-- The contents of the own SNAPSHOT, taken from the Point Table and the marks of the own copy (R41). -/
def snapshotEntries (s : State) : Tab Entry :=
  .ofFn fun p =>
    let r := s.point p
    { inUse := r.inUse, firstOut := (recordAt s.gat s.own p).firstOut, status := .current, state := r.state, condition := r.condition, priority := r.priority, zone := r.zone, stamp := r.stamp }

/-- The contents of a REPLAY for a target, taken from this station's copy of its block (R113). -/
def replayEntries (s : State) (t : Addr) : Tab Entry :=
  .ofFn fun p =>
    let r := recordAt s.gat t p
    { inUse := r.inUse, firstOut := r.firstOut, status := r.status, state := r.state, condition := r.condition, priority := r.priority, zone := r.zone, stamp := r.stamp }

/-- The announcement of a point with its record as it stands and a coalesced count (R36). The cause is that of the last
transition; a point that has made none is never announced, and ACTIVATE stands for none there. -/
def announcement (r : PointRecord) (p : Point) (count : Count) : StateBody :=
  { point := p, inUse := r.inUse, cause := r.cause.getD .activate, state := r.state, condition := r.condition, priority := r.priority, zone := r.zone, count := count, stamp := r.stamp }

/-- The owed flag and missed count cleared (R38). -/
def PointRecord.settled (r : PointRecord) : PointRecord := { r with owed := false, missed := 0 }

/-- SETTLING becomes RUNNING at the own SNAPSHOT's first win or loopback; the other phases stay (R43). -/
def Phase.afterSnapshot : Phase → Phase
  | .settling => .running
  | .holding => .holding
  | .running => .running

/-- Supersession: every unsent STATE entry leaves the queue, every owed flag and missed count is cleared, and a
SETTLING sequencer becomes RUNNING (R41, R43, R75). -/
def supersede (s : State) : State :=
  (s.setPsq { points := s.psq.points.map PointRecord.settled, phase := s.psq.phase.afterSnapshot }).setQueue
    (s.bus.queue.filter fun e => !e.unsentState)

/-- The sequence byte a looped-back entry carries: counter + 1 for a STATE (R81), the last ended number for the other
classes (R82). -/
def loopbackSeq (b : Bif) : TxBody → SeqNo
  | .state _ => b.counter + 1
  | .ack _ => b.lastEnded
  | .reset _ => b.lastEnded
  | .snapshot _ => b.lastEnded
  | .replay _ _ => b.lastEnded
  | .resyncRequest _ => b.lastEnded
  | .join _ => b.lastEnded

/-- A new entry: unsent, or looped back where the claim is one of ISOLATED (R73, R90). -/
def entryFor (isolated : Bool) (b : Bif) (body : TxBody) : TxEntry :=
  if isolated then { body := body, disposition := .loopedBack, attempts := 0, seq := some (loopbackSeq b body) }
  else { body := body, disposition := .unsent, attempts := 0, seq := none }

/-- A claim placed at the tail of a queue that has a free entry, by the present station mode (R73, R90). -/
def placeTail (body : TxBody) (s : State) : State := s.setQueue (s.bus.queue ++ [entryFor s.isolated s.bus body])

/-- A request of the panel placed at the tail of a queue that has a free entry: looped back when the tick of its press was
taken in ISOLATED, or the station has become so since (R88, R138, R151, log entry 4). -/
def placeRequest (body : TxBody) (s : State) : State :=
  s.setQueue (s.bus.queue ++ [entryFor (s.isolated || s.pnl.tickMode == .isolated) s.bus body])

/-- An own SNAPSHOT placed: unsent without contents, or, in ISOLATED, looped back with its contents taken and the
supersession made at placement (R73, R90). -/
def placeSnapshot (s : State) : State :=
  if s.isolated then placeTail (.snapshot (some (snapshotEntries s))) (supersede s) else placeTail (.snapshot none) s

/-- The in-use mask of the station's JOIN: bit n for point n (R117). -/
def State.inUseMask (s : State) : BitVec 16 :=
  BitVec.ofNat 16 (indices.foldl (fun n p => n + flag (s.conf.points.get p).inUse (2 ^ p.val)) 0)

/-- Service of an owed point from an offered entry (R39). -/
def serveOwed (p : Point) (s : State) : State :=
  placeTail (.state (announcement (s.point p) p (s.point p).missed)) (s.setPoint p (s.point p).settled)

/-- One offer of a free entry to the first waiting claim in the order of R74; JOIN, RESYNC REQUEST and REPLAY are passed
over in ISOLATED (R90). None when no claim takes it. -/
def offerOne (s : State) : Option State :=
  if !s.bus.hasFree then none
  else match s.psq.points.lowest (·.owed) with
  | some p => some (serveOwed p s)
  | none =>
    if s.bus.owedSnapshot then some (placeSnapshot (s.setBif { s.bus with owedSnapshot := false }))
    else if s.bus.owedJoin && !s.isolated then some (placeTail (.join s.inUseMask) (s.setBif { s.bus with owedJoin := false }))
    else if s.pnl.pendingAck then some (placeTail (.ack s.conf.panelMask) (s.setPnl { s.pnl with pendingAck := false }))
    else if s.pnl.pendingReset then some (placeTail (.reset s.conf.panelMask) (s.setPnl { s.pnl with pendingReset := false }))
    else if s.isolated then none
    else match s.mbu.members.lowest (·.resyncOwed) with
    | some t => some (placeTail (.resyncRequest t) (s.setMember t { s.member t with resyncOwed := false }))
    | none =>
      match s.mbu.members.lowest (·.replay == .due) with
      | some t => some (placeTail (.replay t none) (s.setMember t { s.member t with replay := .none }))
      | none => none

/-- Offers one after another while a free entry and a waiting claim both remain (R74), at most a given number. -/
def offerMany : Nat → State → State
  | 0, s => s
  | n + 1, s =>
    match offerOne s with
    | some s' => offerMany n s'
    | none => s

/-- The offers of R74: at most 52 claims can wait (16 owed points, SNAPSHOT, JOIN, ACK, RESET, 16 requests, 16 REPLAYs). -/
def offers (s : State) : State := offerMany 52 s

/-- A SNAPSHOT claim (R73): absorbed by an unsent SNAPSHOT or a set owed flag, else placed, else owed. In ISOLATED only
the owed flag absorbs, and the entries that the supersession at placement frees are offered (R74, R90). -/
def claimSnapshot (s : State) : State :=
  if s.bus.owedSnapshot || (!s.isolated && s.bus.queue.any TxEntry.unsentSnapshot) then s
  else if s.bus.hasFree then (if s.isolated then offers (placeSnapshot s) else placeSnapshot s)
  else s.setBif { s.bus with owedSnapshot := true }

/-- A JOIN claim (R73, R117): absorbed by an unsent JOIN or a set owed flag, else placed, else owed. -/
def claimJoin (s : State) : State :=
  if s.bus.owedJoin || s.bus.queue.any TxEntry.unsentJoin then s
  else if s.bus.hasFree then placeTail (.join s.inUseMask) s
  else s.setBif { s.bus with owedJoin := true }

/-- A resync claim for a target (R105): owed, and placed at once when an entry is free and the station is not ISOLATED. -/
def claimResync (t : Addr) (s : State) : State :=
  if s.bus.hasFree && !s.isolated then
    placeTail (.resyncRequest t) (s.setMember t { s.member t with resyncOwed := false })
  else s.setMember t { s.member t with resyncOwed := true }

/-- A REPLAY for a target becomes due (R112): placed at once when an entry is free and the station is not ISOLATED. -/
def claimReplay (t : Addr) (s : State) : State :=
  if s.bus.hasFree && !s.isolated then
    placeTail (.replay t none) (s.setMember t { s.member t with replay := .none, replayTimer := .stopped })
  else s.setMember t { s.member t with replay := .due, replayTimer := .stopped }

/-- An ACK request of the panel (R138, R139): absorbed by a set pending flag, else placed, else pending. -/
def claimAck (s : State) : State :=
  if s.pnl.pendingAck then s
  else if s.bus.hasFree then placeRequest (.ack s.conf.panelMask) s
  else s.setPnl { s.pnl with pendingAck := true }

/-- A RESET request of the panel (R138, R139). -/
def claimReset (s : State) : State :=
  if s.pnl.pendingReset then s
  else if s.bus.hasFree then placeRequest (.reset s.conf.panelMask) s
  else s.setPnl { s.pnl with pendingReset := true }

/-- The contention in progress ends with the frame it was made for, when that frame is withdrawn (log entry 9). -/
def Line.withdrawn (c : Candidate) : Line → Line
  | .contending c' => if c' = c then .receiving else .contending c'
  | .sending c' f => .sending c' f
  | .seeking => .seeking
  | .gap => .gap
  | .receiving => .receiving

/-- The head of the queue is an unsent REPLAY for a target. -/
def headReplayFor (t : Addr) : List TxEntry → Bool
  | [] => false
  | e :: _ => e.unsentReplayFor t

/-- Withdrawal of this station's REPLAY for a target (R75, R115): a scheduled or due one is cancelled, an unsent entry
is removed and its entry offered, a begun one stays. -/
def withdrawReplay (t : Addr) (s : State) : State :=
  let m := s.member t
  let s1 := s.setMember t { m with replay := .none, replayTimer := .stopped }
  if s.bus.queue.any (TxEntry.unsentReplayFor t) then
    let line := if headReplayFor t s.bus.queue then s.bus.line.withdrawn .queueHead else s.bus.line
    offers ((s1.setLine line).setQueue (s.bus.queue.filter fun e => !e.unsentReplayFor t))
  else s1

/-- Withdrawal of the TIME MARK slot: emptied when its frame is unsent, left when it is begun (R72, R131). -/
def withdrawMark (s : State) : State :=
  match s.bus.markSlot with
  | none => s
  | some m =>
    match m.time with
    | some _ => s
    | none => s.setBif { s.bus with markSlot := none, line := s.bus.line.withdrawn .markSlot }

end Sys2Proof.Machine
end

