-- ==== Sys2Proof/Machine/PointSequencer.lean ====
section
/-! DEFINITION. The Point Sequencer: the sequence grid, announcement, requests, adoption, reconciliation
(chapter 2). -/
namespace Sys2Proof.Machine

/-- The events of the sequence grid (R29). -/
inductive PointEvent where
  | activate | clear | ack | reset | shelve | unshelve (carried : Condition)
  deriving DecidableEq, Repr

/-- The four kinds of entry of the grid (R29 notes): an event that cannot arise, an ignored one, a silent change of
condition, and a transition. -/
inductive GridEntry where
  | dash
  | ignored
  | silent (c : Condition)
  | transition (st : SeqState) (c : Condition)
  deriving DecidableEq, Repr

/-- The grid of R29, for a record with a sequence state and a condition. -/
def grid : SeqState → Condition → PointEvent → GridEntry
  | .normal, _, .activate => .transition .alert .active
  | .normal, _, .clear => .dash
  | .normal, _, .ack => .ignored
  | .normal, _, .reset => .ignored
  | .normal, c, .shelve => .transition .shelved c
  | .normal, _, .unshelve _ => .dash
  | .alert, _, .activate => .transition .alert .active
  | .alert, _, .clear => .transition .alert .normal
  | .alert, .active, .ack => .transition .held .active
  | .alert, .normal, .ack => .transition .returned .normal
  | .alert, _, .reset => .ignored
  | .alert, c, .shelve => .transition .shelved c
  | .alert, _, .unshelve _ => .dash
  | .held, _, .activate => .dash
  | .held, _, .clear => .transition .returned .normal
  | .held, _, .ack => .ignored
  | .held, _, .reset => .ignored
  | .held, c, .shelve => .transition .shelved c
  | .held, _, .unshelve _ => .dash
  | .returned, _, .activate => .transition .alert .active
  | .returned, _, .clear => .dash
  | .returned, _, .ack => .ignored
  | .returned, _, .reset => .transition .normal .normal
  | .returned, c, .shelve => .transition .shelved c
  | .returned, _, .unshelve _ => .dash
  | .shelved, _, .activate => .silent .active
  | .shelved, _, .clear => .silent .normal
  | .shelved, _, .ack => .ignored
  | .shelved, _, .reset => .ignored
  | .shelved, _, .shelve => .dash
  | .shelved, _, .unshelve .active => .transition .alert .active
  | .shelved, _, .unshelve .normal => .transition .normal .normal

/-- The cause a transition takes from its event (R26). -/
def PointEvent.cause : PointEvent → Cause
  | .activate => .activate
  | .clear => .clear
  | .ack => .ack
  | .reset => .reset
  | .shelve => .shelve
  | .unshelve _ => .unshelve

/-- The field condition after an event: ACTIVATE, CLEAR and UNSHELVE set it (R27). -/
def PointEvent.field (old : Condition) : PointEvent → Condition
  | .activate => .active
  | .clear => .normal
  | .unshelve c => c
  | .ack => old
  | .reset => old
  | .shelve => old

/-- A record after an event by the grid, with a stamp for a transition, and whether a transition was made (R26, R29). -/
def PointRecord.byGrid (r : PointRecord) (ev : PointEvent) (stamp : Millis) : PointRecord × Bool :=
  let r' := { r with field := ev.field r.field }
  match grid r.state r.condition ev with
  | .dash => (r', false)
  | .ignored => (r', false)
  | .silent c => ({ r' with condition := c }, false)
  | .transition st c => ({ r' with state := st, condition := c, stamp := stamp, cause := some ev.cause }, true)

/-- A record after an event in HOLDING (R44); requests are ignored (R34). -/
def PointRecord.inHolding (r : PointRecord) (ev : PointEvent) (stamp : Millis) : PointRecord :=
  let r' := { r with field := ev.field r.field }
  match ev with
  | .activate => if r.state = .shelved then { r' with condition := .active } else r'
  | .clear => if r.state = .shelved then { r' with condition := .normal } else r'
  | .shelve => { r' with state := .shelved, condition := r.field, stamp := stamp, cause := some .shelve }
  | .unshelve _ => { r' with state := .normal, condition := .normal, stamp := stamp, cause := some .unshelve }
  | .ack => r'
  | .reset => r'

/-- A queue with the unsent STATE entry for a point rewritten in place, its count one more (R37, case 1). -/
def rewriteUnsent (p : Point) (b : StateBody) : List TxEntry → List TxEntry
  | [] => []
  | e :: rest =>
    if e.unsentStateFor p then
      match e.body with
      | .state old => { e with body := .state { b with count := satIncr old.count } } :: rest
      | .ack _ => e :: rest
      | .reset _ => e :: rest
      | .snapshot _ => e :: rest
      | .replay _ _ => e :: rest
      | .resyncRequest _ => e :: rest
      | .join _ => e :: rest
    else e :: rewriteUnsent p b rest

/-- An announcement of a point: rewritten in place, placed in a free entry, or owed (R37, R38); in ISOLATED the placed
entry is looped back and no unsent entry stands to be rewritten (R42, log entry 18). -/
def announce (p : Point) (s : State) : State :=
  let r := s.point p
  if s.bus.queue.any (TxEntry.unsentStateFor p) then
    s.setQueue (rewriteUnsent p (announcement r p 0) s.bus.queue)
  else if s.bus.hasFree then serveOwed p s
  else s.setPoint p { r with owed := true, missed := satIncr r.missed }

/-- The Point Sequencer takes an event for a point, with the stamp a transition gets: by R44 in HOLDING, by the grid in
SETTLING and RUNNING, announced in RUNNING (R29, R48). -/
def takeEvent (p : Point) (ev : PointEvent) (stamp : Millis) (s : State) : State :=
  match s.psq.phase with
  | .holding => s.setPoint p ((s.point p).inHolding ev stamp)
  | .settling => s.setPoint p ((s.point p).byGrid ev stamp).1
  | .running =>
    let (r, made) := (s.point p).byGrid ev stamp
    if made then announce p (s.setPoint p r) else s.setPoint p r

/-- A point is taken by a request: own, in use, its zone in the mask, and in the state the request acts on both in the
Point Table and in the own copy (R32, R33). -/
def requestApplies (mask : ZoneMask) (acts : SeqState) (s : State) (p : Point) : Bool :=
  let r := s.point p
  r.inUse && inMask mask r.zone && r.state == acts && (recordAt s.gat s.own p).state == acts

/-- A request at its PSQ stage, over the points in ascending order (R32, R33), in ACTIVE or ISOLATED with the sequencer
RUNNING (R34). -/
def takeRequest (mask : ZoneMask) (acts : SeqState) (ev : PointEvent) (s : State) : State :=
  if s.mbu.mode.takesRequests && s.psq.phase == .running then
    indices.foldl (fun s p => if requestApplies mask acts s p then takeEvent p ev s.tmb.groupTime s else s) s
  else s

/-- The state adopted for a replayed one: a replayed SHELVED is taken as NORMAL (R45). -/
def adoptedState : SeqState → SeqState
  | .shelved => .normal
  | .normal => .normal
  | .alert => .alert
  | .held => .held
  | .returned => .returned

/-- The condition set to agree with the adopted state (R45). -/
def adoptedCondition (st : SeqState) (replayed : Condition) : Condition :=
  match st with
  | .normal => .normal
  | .returned => .normal
  | .held => .active
  | .alert => replayed
  | .shelved => replayed

/-- A record after adoption of its REPLAY entry: in-use points that are not SHELVED take state, condition and stamp
(R45). -/
def PointRecord.adopt (r : PointRecord) (e : Entry) : PointRecord :=
  if r.inUse && r.state != .shelved then
    { r with state := adoptedState e.state, condition := adoptedCondition (adoptedState e.state) e.condition, stamp := e.stamp }
  else r

/-- A record after reconciliation: ACTIVATE or CLEAR through the grid where condition and field condition differ (R46). -/
def PointRecord.reconcile (stamp : Millis) (r : PointRecord) : PointRecord :=
  if r.inUse && r.state != .shelved then
    match r.condition, r.field with
    | .normal, .active => (r.byGrid .activate stamp).1
    | .active, .normal => (r.byGrid .clear stamp).1
    | .normal, .normal => r
    | .active, .active => r
  else r

/-- Reconciliation of all points, then SETTLING and the claim of the station's SNAPSHOT (R46). -/
def reconcileAll (s : State) : State :=
  claimSnapshot (s.setPsq { points := s.psq.points.map (PointRecord.reconcile s.tmb.groupTime), phase := .settling })

/-- Adoption of a REPLAY passed to the Point Sequencer, in HOLDING only (R45, R49). -/
def adoptReplay (es : Tab Entry) (s : State) : State :=
  match s.psq.phase with
  | .holding => reconcileAll (s.setPsq { s.psq with points := .ofFn fun p => (s.point p).adopt (es.get p) })
  | .settling => s
  | .running => s

/-- A fresh start claimed at the end of the join window, in HOLDING only (R47, R43). -/
def freshStart (s : State) : State :=
  match s.psq.phase with
  | .holding => reconcileAll s
  | .settling => s
  | .running => s

/-- A discarded STATE leaves its point owed unless an unsent STATE entry for it is in the queue (R40). -/
def oweDiscarded (p : Point) (s : State) : State :=
  if s.bus.queue.any (TxEntry.unsentStateFor p) then s
  else s.setPoint p { s.point p with owed := true }

end Sys2Proof.Machine
end

