-- ==== Sys2Proof/Machine/TimeBase.lean ====
section
/-! DEFINITION. The Time Base: milliseconds, the mark timer, delivered marks (chapter 6). -/
namespace Sys2Proof.Machine

/-- One millisecond: local count and group time increase by one, and a tick falls due at a multiple of 10 (R125, R127). At
the wrap, whose 2^32 is no multiple of 10, it falls due at count 0, 6 ms after that at 4294967290 (DESIGN CHOICE, log entry
25). -/
def Tmb.advance (t : Tmb) : Tmb :=
  { t with localCount := t.localCount + 1, groupTime := t.groupTime + 1, tickDue := t.tickDue || (t.localCount + 1).toNat % Config.tickMs == 0 }

/-- A move of group time is forward: the difference lies in 1..2^31-1 (R127). -/
def forward (old new : Millis) : Bool := decide (1 ≤ (new - old).toNat ∧ (new - old).toNat < 2 ^ 31)

/-- The transit allowance of a bit rate in milliseconds (R131). -/
def BitRate.allowance : BitRate → Millis
  | .k62_5 => 2
  | .k125 => 2
  | .k250 => 1
  | .k500 => 1

/-- The mark timer restarted toward M from RUNNING or WAITING (R129). -/
def MarkTimer.restart (now : Millis) : MarkTimer → MarkTimer
  | .running _ => .running now
  | .waiting => .running now
  | .stopped => .stopped

/-- The mark timer at a discard of the own mark or at the entry to ISOLATED: WAITING restarts, RUNNING runs on (R129). -/
def MarkTimer.release (now : Millis) : MarkTimer → MarkTimer
  | .waiting => .running now
  | .running start => .running start
  | .stopped => .stopped

/-- The mark timer is RUNNING and has reached M (R129). -/
def MarkTimer.reached (now : Millis) (m : Nat) : MarkTimer → Bool
  | .running start => decide (m ≤ (now - start).toNat)
  | .stopped => false
  | .waiting => false

/-- The mark period M in milliseconds (R129). -/
def State.markMs (s : State) : Nat := s.conf.markSeconds * 1000

/-- The TMB stage of a delivered TIME MARK (R131). -/
def applyMark (carriedTime : Millis) (s : State) : State :=
  let received := carriedTime + s.conf.bitRate.allowance
  let gt := if forward s.tmb.groupTime received then received else s.tmb.groupTime
  withdrawMark (s.setTmb { s.tmb with groupTime := gt, markTimer := s.tmb.markTimer.restart s.tmb.localCount })

/-- The Time Base is told that the own mark is gone: discarded, or its slot emptied at the entry to ISOLATED (R129). -/
def releaseMarkTimer (s : State) : State :=
  s.setTmb { s.tmb with markTimer := s.tmb.markTimer.release s.tmb.localCount }

end Sys2Proof.Machine
end

