-- ==== Sys2Proof/Machine/Modes.lean ====
section
/-! DEFINITION. The entries to ISOLATED and HALTED, the exit from ISOLATED, and the end of LOADING (R87, R88, R92, R188,
R189). -/
namespace Sys2Proof.Machine

/-- An entry looped back in place at the entry to ISOLATED, with a sequence byte and its contents (R88). -/
def TxEntry.loopBack (e : TxEntry) (seq : SeqNo) (body : TxBody) : TxEntry :=
  { body := body, disposition := .loopedBack, attempts := e.attempts, seq := some seq }

/-- The transmit queue at the entry to ISOLATED, in queue order, and the last ended number it leaves (R88 step 1): STATE,
ACK, RESET and SNAPSHOT entries are looped back, a begun STATE keeping its number and ending there (R82), an unsent
SNAPSHOT taking `entries` and removing the unsent STATE entries behind it; REPLAY, RESYNC REQUEST and JOIN are dropped. -/
def loopBackQueue (entries : Tab Entry) (counter : SeqNo) : (lastEnded : SeqNo) → (superseded : Bool) → List TxEntry → List TxEntry × SeqNo
  | ended, _, [] => ([], ended)
  | ended, sup, e :: rest =>
    match e.body with
    | .state b =>
      match e.seq with
      | some n =>
        let (q, ended') := loopBackQueue entries counter (if e.disposition = .begun then n else ended) sup rest
        (e.loopBack n (.state b) :: q, ended')
      | none =>
        let (q, ended') := loopBackQueue entries counter ended sup rest
        if sup then (q, ended') else (e.loopBack (counter + 1) (.state b) :: q, ended')
    | .ack m =>
      let (q, ended') := loopBackQueue entries counter ended sup rest
      (e.loopBack (e.seq.getD ended) (.ack m) :: q, ended')
    | .reset m =>
      let (q, ended') := loopBackQueue entries counter ended sup rest
      (e.loopBack (e.seq.getD ended) (.reset m) :: q, ended')
    | .snapshot (some es) =>
      let (q, ended') := loopBackQueue entries counter ended sup rest
      (e.loopBack (e.seq.getD ended) (.snapshot (some es)) :: q, ended')
    | .snapshot none =>
      let (q, ended') := loopBackQueue entries counter ended true rest
      (e.loopBack ended (.snapshot (some entries)) :: q, ended')
    | .replay _ _ => loopBackQueue entries counter ended sup rest
    | .resyncRequest _ => loopBackQueue entries counter ended sup rest
    | .join _ => loopBackQueue entries counter ended sup rest

/-- A member entry at the entry to ISOLATED: a SCHEDULED or DUE replay is cancelled and its timer stopped (R114). -/
def Member.cancelReplay (m : Member) : Member := { m with replay := .none, replayTimer := .stopped }

/-- The Point Sequencer at the loopback of an unsent SNAPSHOT: owed points cleared, SETTLING becomes RUNNING (R41, R43). -/
def Psq.superseded (q : Psq) : Psq := { points := q.points.map PointRecord.settled, phase := q.phase.afterSnapshot }

/-- The entry to ISOLATED (R88): the mode and its notice, the queue looped back or dropped, the owed JOIN cleared, both
slots emptied, replays cancelled, and the probe timer started. `afterDiscard` then offers the freed entries. -/
def enterIsolated (s : State) : State :=
  let s1 := releaseMarkTimer (changeMode .isolated .transmitFailure s)
  let (queue, ended) := loopBackQueue (snapshotEntries s) s.bus.counter s.bus.lastEnded false s.bus.queue
  let s2 := if s.bus.queue.any TxEntry.unsentSnapshot then s1.setPsq s1.psq.superseded else s1
  let s3 := s2.setMbu { s2.mbu with members := s2.mbu.members.map Member.cancelReplay }
  s3.setBif { s3.bus with queue := queue, lastEnded := ended, owedJoin := false, markSlot := none, heartbeatSlot := none, probe := s.timer s.heartbeatMs }

/-- The exit from ISOLATED at the completion of a probe (R92): the failure streak returns to 0 and the probe timer
stops; with the sequencer SETTLING or RUNNING the station is ACTIVE with a SNAPSHOT claim, in HOLDING it is JOINING with
a JOIN claim and the join afresh (R116); the waiting claims are then offered entries in full order. -/
def exitIsolated (s : State) : State :=
  let s1 := s.setBif { s.bus with streak := 0, probe := .stopped }
  match s.psq.phase with
  | .holding =>
    let s2 := changeMode .joining .probeComplete s1
    let s3 := match s2.mbu.joinState with
      | .opened => s2.setMbu { s2.mbu with joinState := .pending, joinWindow := .stopped }
      | .pending => s2
      | .closed => s2
    offers (claimJoin s3)
  | .settling => offers (claimSnapshot (changeMode .active .probeComplete s1))
  | .running => offers (claimSnapshot (changeMode .active .probeComplete s1))

/-- A member entry at the entry to HALTED: its timers stop where they stand (R124). -/
def Member.holdTimers (now : Millis) (m : Member) : Member :=
  { m with silence := m.silence.hold now, resync := m.resync.hold now, replayTimer := m.replayTimer.hold now }

/-- The Membership Unit at the entry to HALTED (R124). -/
def Mbu.holdTimers (now : Millis) (m : Mbu) : Mbu :=
  { m with members := m.members.map (Member.holdTimers now), heartbeat := m.heartbeat.hold now, joinWindow := m.joinWindow.hold now }

/-- The cause of the MODE record of a halt (R96). -/
def HaltCause.modeCause : HaltCause → ModeCause
  | .configFault => .configFault
  | .addressClash => .addressClash

/-- The entry to HALTED (R87, R188): membership timers stop where they stand (R124), idle-wait and probe timers and the
mark timer stop (R93, R129), the line is left recessive, the horn goes QUIET (R164), and the mode changes with its
notice (R96). All else is kept (R5, R28, R63, R151). -/
def enterHalted (cause : HaltCause) (s : State) : State :=
  let s1 := s.setMbu (s.mbu.holdTimers s.tmb.localCount)
  let s2 := s1.setBif { s1.bus with line := .seeking, idleWait := .stopped, probe := .stopped }
  let s3 := s2.setTmb { s2.tmb with markTimer := .stopped }
  changeMode (.halted cause) cause.modeCause (haltHorn s3)

/-- A point record at the end of LOADING: in use, zone and priority from the configuration (R28). -/
def PointRecord.configure (r : PointRecord) (c : PointConfig) : PointRecord :=
  { r with inUse := c.inUse, zone := c.zone, priority := c.priority }

/-- An accepted image (R189): the units take their configuration, the drain, heartbeat and mark timers start, the BIF
starts listening, the mode becomes JOINING with its notice, the join state PENDING, and the JOIN is claimed. -/
def loadAccepted (c : StationConfig) (s : State) : State :=
  let s1 := (s.setConfig (some c)).setLoader { s.loader with load := .accepted }
  let s2 := s1.setPsq { s1.psq with points := .ofFn fun p => (s1.point p).configure (c.points.get p) }
  let s3 := s2.setFiu { s2.fiu with drainRunning := true, drainCount := 0 }
  let s4 := s3.setTmb { s3.tmb with markTimer := .running s3.tmb.localCount }
  let s5 := s4.setMbu { s4.mbu with heartbeat := s4.timer s4.heartbeatMs, joinState := .pending }
  claimJoin (changeMode .joining .loadAccepted (s5.setLine .seeking))

/-- The third refusal (R188): the load is done, refused, and the station is HALTED with cause CONFIG FAULT. -/
def loadRefused (s : State) : State :=
  enterHalted .configFault (s.setLoader { s.loader with load := .refused })

end Sys2Proof.Machine
end

