-- ==== Sys2Proof/Machine/BusInterface.lean ====
section
/-! DEFINITION. The Bus Interface: the frame a candidate sends, its first won contention, failed attempts, discards,
completion, reception and loopback (chapter 4). -/
namespace Sys2Proof.Machine

/-- The contents a queue entry sends, once they are fixed (R71). -/
def TxBody.toBody : TxBody → Option Body
  | .state b => some (.state b)
  | .ack m => some (.ack m)
  | .reset m => some (.reset m)
  | .snapshot es => es.map .snapshot
  | .replay t es => es.map (.replay t)
  | .resyncRequest t => some (.resyncRequest t)
  | .join m => some (.join m)

/-- The first won contention of the head entry (R75): a STATE takes counter + 1 (R81), a SNAPSHOT its contents with the
supersession of R41 and the freed entries offered, a REPLAY its contents (R113); the others change disposition alone. -/
def beginHead (e : TxEntry) (rest : List TxEntry) (s : State) : State :=
  match e.body with
  | .state b =>
    s.setBif { s.bus with counter := s.bus.counter + 1, queue := { e with body := .state b, disposition := .begun, seq := some (s.bus.counter + 1) } :: rest }
  | .snapshot _ =>
    offers (supersede (s.setQueue ({ e with body := .snapshot (some (snapshotEntries s)), disposition := .begun } :: rest)))
  | .replay t _ => s.setQueue ({ e with body := .replay t (some (replayEntries s t)), disposition := .begun } :: rest)
  | .ack _ => s.setQueue ({ e with disposition := .begun } :: rest)
  | .reset _ => s.setQueue ({ e with disposition := .begun } :: rest)
  | .resyncRequest _ => s.setQueue ({ e with disposition := .begun } :: rest)
  | .join _ => s.setQueue ({ e with disposition := .begun } :: rest)

/-- The candidate's contents are fixed at its first won contention (R72, R75); a frame won again keeps them. -/
def beginCandidate (c : Candidate) (s : State) : State :=
  match c with
  | .markSlot =>
    match s.bus.markSlot with
    | none => s
    | some m =>
      match m.time with
      | some _ => s
      | none => s.setBif { s.bus with markSlot := some { m with time := some s.tmb.groupTime } }
  | .heartbeatSlot =>
    match s.bus.heartbeatSlot with
    | none => s
    | some h =>
      match h.mode with
      | some _ => s
      | none => s.setBif { s.bus with heartbeatSlot := some { h with mode := s.mbu.mode.bus } }
  | .queueHead =>
    match s.bus.queue with
    | [] => s
    | e :: rest => if e.disposition = .unsent then beginHead e rest s else s

/-- The frame a begun candidate puts on the line: a STATE keeps its number, every other class takes the last ended
number at this attempt (R81, R82). -/
def candidateFrame (c : Candidate) (s : State) : Option Frame :=
  match c with
  | .markSlot =>
    match s.bus.markSlot with
    | none => none
    | some m => m.time.map fun t => { src := s.own, seq := s.bus.lastEnded, body := .timeMark t }
  | .heartbeatSlot =>
    match s.bus.heartbeatSlot with
    | none => none
    | some h => h.mode.map fun m => { src := s.own, seq := s.bus.lastEnded, body := .heartbeat m }
  | .queueHead =>
    match s.bus.queue with
    | [] => none
    | e :: _ => e.body.toBody.map fun b => { src := s.own, seq := e.seq.getD s.bus.lastEnded, body := b }

/-- The candidate has won contention: its contents are fixed if this is its first win, and the rest of the frame is
sent (R67, R75). -/
def winContention (c : Candidate) (s : State) : State :=
  let s1 := beginCandidate c s
  match candidateFrame c s1 with
  | some f => s1.setLine (.sending c f)
  | none => s1

/-- The failure streak after a discard (R80). -/
def countDiscard (s : State) : State := s.setBif { s.bus with streak := min (s.bus.streak + 1) Config.streakLimit }

/-- The entry to ISOLATED when a discard has brought the streak to 3 in JOINING or ACTIVE (R80), then the offer of the
freed entries, in ISOLATED under the limits of R90 (R74, R88 step 4). -/
def afterDiscard (s : State) : State :=
  let s1 := countDiscard s
  offers (if s1.bus.streak == Config.streakLimit && s1.mbu.mode.onBus then enterIsolated s1 else s1)

/-- The effect of the discard of a queue entry on the unit concerned, the entry already gone (R79). A STATE that had
begun ends here (R82). -/
def settleDiscard (e : TxEntry) (s : State) : State :=
  match e.body with
  | .state b => oweDiscarded b.point (s.setBif { s.bus with lastEnded := e.seq.getD s.bus.lastEnded })
  | .snapshot _ => s.setBif { s.bus with owedSnapshot := s.bus.owedSnapshot || !s.bus.queue.any TxEntry.unsentSnapshot }
  | .join _ => s.setBif { s.bus with owedJoin := s.bus.owedJoin || !s.bus.queue.any TxEntry.unsentJoin }
  | .ack _ => s
  | .reset _ => s
  | .replay _ _ => s
  | .resyncRequest _ => s

/-- A failed attempt of a candidate: its count increases, at 8 the frame is discarded and settled by class (R77, R79);
a probe is removed from its slot with no discard effect (R91). -/
def chargeAttempt (c : Candidate) (s : State) : State :=
  match c with
  | .markSlot =>
    match s.bus.markSlot with
    | none => s
    | some m =>
      if m.attempts + 1 < Config.attemptLimit then s.setBif { s.bus with markSlot := some { m with attempts := m.attempts + 1 } }
      else afterDiscard (releaseMarkTimer (s.setBif { s.bus with markSlot := none }))
  | .heartbeatSlot =>
    match s.bus.heartbeatSlot with
    | none => s
    | some h =>
      if h.probe then s.setBif { s.bus with heartbeatSlot := none }
      else if h.attempts + 1 < Config.attemptLimit then s.setBif { s.bus with heartbeatSlot := some { h with attempts := h.attempts + 1 } }
      else afterDiscard (s.setBif { s.bus with heartbeatSlot := none })
  | .queueHead =>
    match s.bus.queue with
    | [] => s
    | e :: rest =>
      if e.attempts + 1 < Config.attemptLimit then s.setQueue ({ e with attempts := e.attempts + 1 } :: rest)
      else afterDiscard (settleDiscard e (s.setQueue rest))

/-- The candidate's frame leaves its entry or slot at its completion; a completed STATE is the last to have ended
(R68, R82). -/
def releaseCandidate (c : Candidate) (f : Frame) (s : State) : State :=
  match c with
  | .markSlot => s.setBif { s.bus with markSlot := none }
  | .heartbeatSlot => s.setBif { s.bus with heartbeatSlot := none }
  | .queueHead =>
    s.setBif { s.bus with queue := s.bus.queue.tail, lastEnded := if f.body.cls = .state then f.seq else s.bus.lastEnded }

/-- The frame in the HEARTBEAT slot is a probe (R91). -/
def Bif.probing (b : Bif) : Bool :=
  match b.heartbeatSlot with
  | none => false
  | some h => h.probe

/-- A frame enters the receive queue at its tail (R84). -/
def receive (f : Frame) (o : Origin) (s : State) : State :=
  s.setBif { s.bus with rx := s.bus.rx ++ [{ frame := f, origin := o }] }

/-- The completion of an own frame (R68): it enters the own receive queue, leaves its entry or slot, the streak returns
to 0, the freed entry is offered; a completed probe ends the isolation (R92). -/
def completeFrame (c : Candidate) (f : Frame) (s : State) : State :=
  let probe := c == .heartbeatSlot && s.bus.probing
  let s1 := releaseCandidate c f (receive f .line (s.setLine .seeking))
  let s2 := s1.setBif { s1.bus with streak := 0 }
  if probe then exitIsolated s2 else offers s2

/-- An address clash (R87): sending and receiving stop, the idle-wait and probe timers stop; the station halts at once
when no frame waits for delivery (log entry 11). -/
def clashFound (s : State) : State :=
  let s1 := s.setBif { s.bus with line := .seeking, idleWait := .stopped, probe := .stopped, clash := true }
  if s.bus.rx.isEmpty then enterHalted .addressClash s1 else s1

/-- A complete frame of another sender (R83, R84, R87): discarded when invalid or when the queue is full, an address
clash when it carries the own address, else entered in the receive queue. -/
def receiveFrame (bytes : List Byte) (s : State) : State :=
  let s1 := s.setLine .seeking
  match decodeFrame bytes with
  | none => s1
  | some f =>
    if f.src = s.own then clashFound s1
    else if s1.bus.heldOff then s1
    else receive f .peer s1

/-- The frame of a looped-back entry, with the sequence byte it took (R89). -/
def loopedFrame (s : State) (e : TxEntry) : Option Frame :=
  e.body.toBody.map fun b => { src := s.own, seq := e.seq.getD s.bus.lastEnded, body := b }

/-- The looped-back head entry that can pass: the receive queue has a free place and no own attempt is in progress (R89). -/
def State.passing (s : State) : Option (TxEntry × List TxEntry) :=
  match s.bus.queue with
  | [] => none
  | e :: rest =>
    if e.disposition == .loopedBack && !s.bus.heldOff && s.bus.line.own.isNone && s.onLine then some (e, rest) else none

/-- The head passes to the receive queue as the station's own frame and its entry is offered (R89). -/
def passLooped (s : State) : State :=
  match s.passing with
  | none => s
  | some (e, rest) =>
    match loopedFrame s e with
    | none => s
    | some f => offers (receive f .loopback (s.setQueue rest))

end Sys2Proof.Machine
end

