-- ==== Sys2Proof/WellFormed.lean ====
section
/-! DEFINITION. Which commands are well formed: a read brings 136 bytes (R184), and a frame that completes on
the line has at least its header and exactly the length its B3 gives, B3 not above 112 (R69). -/
namespace Sys2Proof

/-- A read takes 136 bytes (R184). -/
def imageComplete (image : List Byte) : Bool := image.length == Config.imageSize

/-- A frame is complete at four header bytes, B3 payload bytes and two check bytes; B3 above 112 is abandoned (R69). -/
def frameComplete : List Byte → Bool
  | _b0 :: _b1 :: _b2 :: b3 :: rest => decide (b3.toNat ≤ Config.maxPayload) && rest.length == b3.toNat + 2
  | _ => false

/-- A command is well formed when the bytes it brings are a whole image or a whole frame. -/
def Instr.wellFormed : Instr → Bool
  | .readComplete image => imageComplete image
  | .frameReceived bytes => frameComplete bytes
  | .coldStart _ => true
  | .readStart => true
  | .tick _ _ => true
  | .countdownExpiry _ => true
  | .drainTimerExpiry => true
  | .debounce _ => true
  | .beginFrame => true
  | .loseContention => true
  | .winContention => true
  | .transmitError => true
  | .idleWaitExpiry => true
  | .frameCompletion => true
  | .frameAbandoned _ => true
  | .addressClashHalt => true
  | .loopbackPassage => true
  | .deliverTimeMark => true
  | .deliverState => true
  | .deliverAck => true
  | .deliverReset => true
  | .deliverSnapshot => true
  | .deliverReplay => true
  | .deliverResyncRequest => true
  | .deliverJoin => true
  | .deliverHeartbeat => true
  | .heartbeatTimerExpiry => true
  | .silenceTimerExpiry _ => true
  | .resyncTimerExpiry _ => true
  | .replayTimerExpiry _ => true
  | .joinWindowExpiry => true
  | .probeTimerExpiry => true
  | .markTimerExpiry => true
  | .stageTimerExpiry => true
  | .chimeTimerExpiry => true
  | .logrdyChange _ => true
  | .recordDeparture => true
  | .resetRelease _ => true
  | .millisecond => true
  | .idleGap => true

end Sys2Proof
end

