-- ==== Sys2Proof/Machine/BusCommands.lean ====
section
/-! DEFINITION. The events of the line: the meanings of IDLE_GAP, BEGIN_FRAME, LOSE_CONTENTION, WIN_CONTENTION,
TRANSMIT_ERROR, IDLE_WAIT_EXPIRY, FRAME_COMPLETION, FRAME_RECEIVED, FRAME_ABANDONED, ADDRESS_CLASH_HALT and
LOOPBACK_PASSAGE (chapter 4). -/
namespace Sys2Proof.Machine

/-- No own attempt occupies the line, so that an idle gap can complete on it. -/
def State.gapMayComplete (s : State) : Bool := s.onLine && s.bus.line.own.isNone

/-- An idle gap completes: the receiver has its footing, a frame being received is given up, and the idle-wait timer
restarts (R66, R69, R78). -/
def completeGap (s : State) : State := restartIdleWait (s.setLine .gap)

/-- IDLE_GAP (R66). -/
def execIdleGap (s : State) : Host.Outcome State Fault Refusal :=
  arise s.gapMayComplete completeGap s

/-- The candidate with which the station begins: the idle gap is complete, there is a frame to offer, and the station is
not held off (R66, R76). -/
def State.beginsWith (s : State) : Option Candidate :=
  if s.onLine && s.bus.line == .gap && !s.bus.heldOff then s.bus.candidate else none

/-- BEGIN_FRAME (R66). -/
def execBeginFrame (s : State) : Host.Outcome State Fault Refusal :=
  match s.beginsWith with
  | some c => .next (settleIdleWait (s.setLine (.contending c)))
  | none => .next s

/-- The candidate in its contention field, if one is (R67). -/
def State.contender (s : State) : Option Candidate :=
  match s.bus.line with
  | .contending c => some c
  | .sending _ _ => none
  | .seeking => none
  | .gap => none
  | .receiving => none

/-- LOSE_CONTENTION (R67): the frame keeps its place and its attempt count, and the winner's frame is received. -/
def execLoseContention (s : State) : Host.Outcome State Fault Refusal :=
  match s.contender with
  | some _ => .next (settleIdleWait (s.setLine .receiving))
  | none => .next s

/-- WIN_CONTENTION (R67, R75). -/
def execWinContention (s : State) : Host.Outcome State Fault Refusal :=
  match s.contender with
  | some c => .next (settleIdleWait (winContention c s))
  | none => .next s

/-- A transmit error ends the attempt: the line is left, the frame is charged, and the idle-wait timer restarts (R68, R77,
R78). -/
def failAttempt (c : Candidate) (s : State) : State :=
  restartIdleWait (chargeAttempt c (s.setLine .receiving))

/-- TRANSMIT_ERROR (R67, R68). -/
def execTransmitError (s : State) : Host.Outcome State Fault Refusal :=
  match s.bus.line.own with
  | some c => .next (failAttempt c s)
  | none => .next s

/-- The candidate that an expiry of the idle-wait timer charges: the timer has reached 20 ms while its conditions hold
(R78). -/
def State.idleWaitCharges (s : State) : Option Candidate :=
  if s.idleWaitRuns && s.expired s.bus.idleWait then s.bus.candidate else none

/-- IDLE_WAIT_EXPIRY (R78). -/
def execIdleWaitExpiry (s : State) : Host.Outcome State Fault Refusal :=
  match s.idleWaitCharges with
  | some c => .next (restartIdleWait (chargeAttempt c s))
  | none => .next s

/-- FRAME_COMPLETION (R68). -/
def execFrameCompletion (s : State) : Host.Outcome State Fault Refusal :=
  match s.bus.line with
  | .sending c f => .next (restartIdleWait (completeFrame c f s))
  | .contending _ => .next s
  | .seeking => .next s
  | .gap => .next s
  | .receiving => .next s

/-- The receiver has gained its footing at an idle gap and no own attempt is in progress, so that another's frame can be
taken (R69). -/
def State.receives (s : State) : Bool := s.onLine && (s.bus.line == .gap || s.bus.line == .receiving)

/-- FRAME_RECEIVED (R83, R84, R87). -/
def execFrameReceived (bytes : List Byte) (s : State) : Host.Outcome State Fault Refusal :=
  if frameComplete bytes then arise s.receives (fun s => settleIdleWait (receiveFrame bytes s)) s else .refused .illFormed

/-- The frame under reception is abandoned, with no effect on any unit (R69). The line that has stayed recessive for an idle
gap has completed that gap (R66); after the other reasons the receiver waits for the next one. -/
def abandonFrame (reason : AbandonReason) (s : State) : State :=
  match reason with
  | .idleGapBeforeEnd => completeGap s
  | .dominantSeparator => settleIdleWait (s.setLine .seeking)
  | .dominantStopBit => settleIdleWait (s.setLine .seeking)
  | .lengthAbove112 => settleIdleWait (s.setLine .seeking)

/-- FRAME_ABANDONED (R69). -/
def execFrameAbandoned (reason : AbandonReason) (s : State) : Host.Outcome State Fault Refusal :=
  arise s.receives (abandonFrame reason) s

/-- The station halts on an address clash: one has been found and the receive queue is empty (R87). -/
def State.clashHalts (s : State) : Bool := s.runs && s.bus.clash && s.bus.rx.isEmpty

/-- ADDRESS_CLASH_HALT (R87). -/
def execAddressClashHalt (s : State) : Host.Outcome State Fault Refusal :=
  arise s.clashHalts (enterHalted .addressClash) s

/-- LOOPBACK_PASSAGE (R89). -/
def execLoopbackPassage (s : State) : Host.Outcome State Fault Refusal :=
  arise s.passing.isSome (fun s => settleIdleWait (passLooped s)) s

end Sys2Proof.Machine
end

