-- ==== Sys2Proof/Machine/Membership.lean ====
section
/-! DEFINITION. The Membership Unit's part of a delivery and of its timers: presence, sequence, waits, joins and replays
(chapter 5). -/
namespace Sys2Proof.Machine

/-- A multiple of H as a timer started now (R94). -/
def State.timerH (s : State) (n : Nat) : Timer := s.timer (n * s.heartbeatMs)

/-- The reported mode after a frame (R101). -/
def reportedBy (old : Option BusMode) : Body → Option BusMode
  | .heartbeat m => some m
  | .join _ => some .joining
  | .snapshot _ => some .active
  | .timeMark _ => old
  | .state _ => old
  | .ack _ => old
  | .reset _ => old
  | .replay _ _ => old
  | .resyncRequest _ => old

/-- A frame with sequence byte c shows a gap in a stream that expects e (R102). -/
def gapShown (e c : SeqNo) : Body → Bool
  | .state _ => c != e
  | .heartbeat m => c != e - 1 || m == .isolated
  | .timeMark _ => c != e - 1
  | .ack _ => c != e - 1
  | .reset _ => c != e - 1
  | .replay _ _ => c != e - 1
  | .resyncRequest _ => c != e - 1
  | .snapshot _ => false
  | .join _ => false

/-- A resync wait begins: AWAITING, attempts 1, the timer toward 2H, the resync claim owed or placed, and STALE claimed
(R100, R102, R105). -/
def beginWait (st : Addr) (s : State) : State :=
  claimStale st (claimResync st (s.setMember st { s.member st with sync := .awaiting, attempts := 1, resync := s.timerH 2 }))

/-- A REPLAY for a joiner may be scheduled (R111). -/
def State.replayMayBeScheduled (s : State) (st : Addr) (inUseMask : BitVec 16) : Bool :=
  (s.gat.get st).any (·.status != .empty) && inUseMask != 0 && (s.member st).replay == .none
    && !s.bus.queue.any (TxEntry.unsentReplayFor st)

/-- The replay wait of this station in milliseconds (R111). -/
def State.replayWaitMs (s : State) : Nat := (s.own.val + 1) * 10

/-- A REPLAY for a joiner is considered (R111). -/
def considerReplay (st : Addr) (inUseMask : BitVec 16) (s : State) : State :=
  if s.replayMayBeScheduled st inUseMask then
    s.setMember st { s.member st with replay := .scheduled, replayTimer := s.timer s.replayWaitMs }
  else s

/-- A peer's JOIN (R108, R109, R110): PRESENT, JOINING, AWAITING with attempts 0 toward 4H; at an ACTIVE station STALE is
claimed, a SNAPSHOT claimed and a REPLAY considered. -/
def joinHeard (st : Addr) (c : SeqNo) (inUseMask : BitVec 16) (s : State) : State :=
  let s1 := s.setMember st { s.member st with presence := .present, reported := some .joining, expected := c + 1, sync := .awaiting, attempts := 0, resyncOwed := false, resync := s.timerH 4 }
  if s.mbu.mode = .active then considerReplay st inUseMask (claimSnapshot (claimStale st s1)) else s1

/-- A peer's SNAPSHOT (R100, R104): IN STEP, ACTIVE; it ends a wait of a PRESENT peer with a STATION BACK notice. -/
def snapshotHeard (st : Addr) (c : SeqNo) (s : State) : State :=
  let m := s.member st
  if m.presence = .present ∧ m.sync = .awaiting then
    offerRecord (.stationBack st s.tmb.groupTime)
      (s.setMember st { m with reported := some .active, expected := c + 1, sync := .inStep, attempts := 0, resync := .stopped, resyncOwed := false })
  else s.setMember st { m with presence := .present, reported := some .active, expected := c + 1, sync := .inStep }

/-- A peer's frame of a class other than JOIN and SNAPSHOT (R100 to R103): an ABSENT peer returns and is awaited, a PRESENT
peer IN STEP is tested for a gap. -/
def streamHeard (st : Addr) (c : SeqNo) (b : Body) (s : State) : State :=
  let m := s.member st
  let s1 := s.setMember st { m with presence := .present, reported := reportedBy m.reported b, expected := c + 1 }
  if m.presence = .absent ∨ (m.sync = .inStep ∧ gapShown m.expected c b) then beginWait st s1 else s1

/-- The silence timer of a peer restarts toward 3H (R98 step 2). -/
def restartSilence (st : Addr) (s : State) : State := s.setMember st { s.member st with silence := s.timerH 3 }

/-- Steps 2 and 3 of R98 with the join handling, for a frame of a peer; the own entry uses none of the fields (R94
note 2). -/
def peerHeard (f : Frame) (s : State) : State :=
  if (s.member f.src).presence = .self then s
  else
    let s1 := restartSilence f.src s
    match f.body with
    | .join mask => joinHeard f.src f.seq mask s1
    | .snapshot _ => snapshotHeard f.src f.seq s1
    | .timeMark _ => streamHeard f.src f.seq f.body s1
    | .state _ => streamHeard f.src f.seq f.body s1
    | .ack _ => streamHeard f.src f.seq f.body s1
    | .reset _ => streamHeard f.src f.seq f.body s1
    | .replay _ _ => streamHeard f.src f.seq f.body s1
    | .resyncRequest _ => streamHeard f.src f.seq f.body s1
    | .heartbeat _ => streamHeard f.src f.seq f.body s1

/-- The own JOIN is self-delivered (R118). -/
def openJoinWindow (s : State) : State :=
  match s.mbu.joinState with
  | .pending => s.setMbu { s.mbu with joinState := .opened, joinWindow := s.timerH 3 }
  | .closed => s
  | .opened => s

/-- A REPLAY is passed to the Point Sequencer: it comes from the bus, for this station, in an open join (R119). -/
def State.replayPassed (s : State) (e : RxEntry) : Bool :=
  match e.frame.body with
  | .replay t _ => e.origin == .peer && t == s.own && s.mbu.joinState == .opened
  | .timeMark _ => false
  | .state _ => false
  | .ack _ => false
  | .reset _ => false
  | .snapshot _ => false
  | .resyncRequest _ => false
  | .join _ => false
  | .heartbeat _ => false

/-- The join ends with a REPLAY: CLOSED, the window timer stopped (R119). -/
def closeJoin (s : State) : State := s.setMbu { s.mbu with joinState := .closed, joinWindow := .stopped }

/-- Own-frame handling (R98 step 1): JOIN by R118, SNAPSHOT by R121, REPLAY by R115, nothing for other classes. A SNAPSHOT
completes the join only when it completed on the bus. -/
def ownHeard (e : RxEntry) (s : State) : State :=
  match e.frame.body with
  | .join _ => openJoinWindow s
  | .snapshot _ => if e.origin = .line ∧ s.mbu.mode = .joining then changeMode .active .joinComplete s else s
  | .replay t _ => withdrawReplay t s
  | .timeMark _ => s
  | .state _ => s
  | .ack _ => s
  | .reset _ => s
  | .resyncRequest _ => s
  | .heartbeat _ => s

/-- Step 4 of R98 for a peer's frame: a RESYNC REQUEST aimed here in ACTIVE claims a SNAPSHOT (R107), a REPLAY withdraws
this station's own (R115) and closes an open join of this station (R119). -/
def peerClassHandling (e : RxEntry) (s : State) : State :=
  match e.frame.body with
  | .resyncRequest t => if t = s.own ∧ s.mbu.mode = .active then claimSnapshot s else s
  | .replay t _ => if s.replayPassed e then closeJoin (withdrawReplay t s) else withdrawReplay t s
  | .join _ => s
  | .snapshot _ => s
  | .timeMark _ => s
  | .state _ => s
  | .ack _ => s
  | .reset _ => s
  | .heartbeat _ => s

/-- The Membership Unit stage of a delivery (R98). -/
def mbuStage (e : RxEntry) (s : State) : State :=
  if e.origin = .peer then peerClassHandling e (peerHeard e.frame s) else ownHeard e s

/-- A peer's entry after it is declared absent (R99). -/
def Member.gone (m : Member) : Member :=
  { m with presence := .absent, reported := none, sync := .inStep, attempts := 0, resync := .stopped, resyncOwed := false, replay := .none, replayTimer := .stopped, silence := .stopped }

/-- A peer is declared absent, and LOST is claimed for it (R99). -/
def declareAbsent (st : Addr) (s : State) : State := claimLost st (s.setMember st (s.member st).gone)

/-- A resync wait is renewed (R106): one attempt more, the claim, the timer toward 2H. -/
def renewWait (st : Addr) (s : State) : State :=
  claimResync st (s.setMember st { s.member st with attempts := (s.member st).attempts + 1, resync := s.timerH 2 })

end Sys2Proof.Machine
end

