-- ==== Sys2Proof/Machine/Deliveries.lean ====
section
/-! DEFINITION. The delivery of the frame at the head of the receive queue, in four stages: the meanings of the nine
DELIVER commands (R86). -/
namespace Sys2Proof.Machine

/-- The Group Table Unit stage (R9). -/
def gtuStage (f : Frame) (s : State) : State :=
  match f.body with
  | .state b => gtuState f.src b s
  | .snapshot es => gtuSnapshot f.src es s
  | .join _ => claimStale f.src s
  | .timeMark _ => s
  | .ack _ => s
  | .reset _ => s
  | .replay _ _ => s
  | .resyncRequest _ => s
  | .heartbeat _ => s

/-- The Point Sequencer stage: ACK (R32), RESET (R33), and a REPLAY passed to it (R45). -/
def psqStage (passed : Bool) (f : Frame) (s : State) : State :=
  match f.body with
  | .ack mask => takeRequest mask .alert .ack s
  | .reset mask => takeRequest mask .returned .reset s
  | .replay _ es => if passed then adoptReplay es s else s
  | .timeMark _ => s
  | .state _ => s
  | .snapshot _ => s
  | .resyncRequest _ => s
  | .join _ => s
  | .heartbeat _ => s

/-- The Time Base stage (R131). -/
def tmbStage (f : Frame) (s : State) : State :=
  match f.body with
  | .timeMark t => applyMark t s
  | .state _ => s
  | .ack _ => s
  | .reset _ => s
  | .snapshot _ => s
  | .replay _ _ => s
  | .resyncRequest _ => s
  | .join _ => s
  | .heartbeat _ => s

/-- The four stages, each whole before the next (R86). -/
def deliverStages (e : RxEntry) (s : State) : State :=
  tmbStage e.frame (psqStage (s.replayPassed e) e.frame (gtuStage e.frame (mbuStage e s)))

/-- The delivery ends: the frame's place is freed (R84, R86). -/
def endDelivery (s : State) : State := settleIdleWait (s.setBif { s.bus with rx := s.bus.rx.tail })

/-- The frame at the head of the receive queue, when deliveries run (R86) and it is of the class. -/
def State.deliverable (cls : FrameClass) (s : State) : Option RxEntry :=
  match s.bus.rx with
  | [] => none
  | e :: _ => if s.runs && e.frame.body.cls == cls then some e else none

/-- The delivery of the head frame when it is of the class; nothing arises otherwise. -/
def deliver (cls : FrameClass) (s : State) : Host.Outcome State Fault Refusal :=
  match s.deliverable cls with
  | some e => .next (endDelivery (deliverStages e s))
  | none => .next s

/-- DELIVER_TIME_MARK (R131). -/
def execDeliverTimeMark (s : State) : Host.Outcome State Fault Refusal := deliver .timeMark s
/-- DELIVER_STATE (R10). -/
def execDeliverState (s : State) : Host.Outcome State Fault Refusal := deliver .state s
/-- DELIVER_ACK (R32). -/
def execDeliverAck (s : State) : Host.Outcome State Fault Refusal := deliver .ack s
/-- DELIVER_RESET (R33). -/
def execDeliverReset (s : State) : Host.Outcome State Fault Refusal := deliver .reset s
/-- DELIVER_SNAPSHOT (R13). -/
def execDeliverSnapshot (s : State) : Host.Outcome State Fault Refusal := deliver .snapshot s
/-- DELIVER_REPLAY (R115). -/
def execDeliverReplay (s : State) : Host.Outcome State Fault Refusal := deliver .replay s
/-- DELIVER_RESYNC_REQUEST (R107). -/
def execDeliverResyncRequest (s : State) : Host.Outcome State Fault Refusal := deliver .resyncRequest s
/-- DELIVER_JOIN (R108). -/
def execDeliverJoin (s : State) : Host.Outcome State Fault Refusal := deliver .join s
/-- DELIVER_HEARTBEAT (R101). -/
def execDeliverHeartbeat (s : State) : Host.Outcome State Fault Refusal := deliver .heartbeat s

end Sys2Proof.Machine
end

