-- ==== Sys2Proof/Machine/LoggerCommands.lean ====
section
/-! DEFINITION. The logger's side: the meanings of LOGRDY_CHANGE and RECORD_DEPARTURE (R175, R176). -/
namespace Sys2Proof.Machine

/-- LOGRDY_CHANGE (R175): the pin takes the level; a change to low begins the head record when the other conditions
hold. -/
def execLogrdyChange (high : Bool) (s : State) : Host.Outcome State Fault Refusal :=
  .next (beginRecord (s.setPins { s.pins with logrdyHigh := high }))

/-- RECORD_DEPARTURE (R176). -/
def execRecordDeparture (s : State) : Host.Outcome State Fault Refusal :=
  arise s.jnl.inProgress.isSome departRecord s

end Sys2Proof.Machine
end

