-- ==== Sys2Proof/Machine/FieldInputs.lean ====
section
/-! DEFINITION. Ticks, qualification, chatter and draining: the meanings of TICK, COUNTDOWN_EXPIRY and
DRAIN_TIMER_EXPIRY (chapter 3), with the debouncers' part of a tick (R136). -/
namespace Sys2Proof.Machine

/-- The qualification delay for a change to a condition (R53). -/
def PointConfig.delay (c : PointConfig) : Condition → Nat
  | .active => c.onDelay
  | .normal => c.offDelay

/-- One in-use point at a tick with its raw condition, by the cases of R53. Where the change is qualified at this tick,
`due` is set and COUNTDOWN_EXPIRY carries the change out (log entry 4). -/
def FieldPoint.compare (f : FieldPoint) (r : Condition) (delay : Nat) : FieldPoint :=
  if r = f.qualified then { f with raw := r, countdown := none, due := false }
  else match f.countdown with
  | none => if delay = 0 then { f with raw := r, due := true } else { f with raw := r, countdown := some delay }
  | some n => if n ≤ 1 then { f with raw := r, countdown := none, due := true } else { f with raw := r, countdown := some (n - 1) }

/-- One point at a tick; a point that is not in use is not sampled (R51, R52). -/
def FieldPoint.sample (c : PointConfig) (high : Bool) (f : FieldPoint) : FieldPoint :=
  if c.inUse then f.compare (rawCondition c.polarity high) (c.delay (rawCondition c.polarity high)) else f

/-- The Field Input Unit at a tick: every point sampled, the drain timer one tick on, and the group time of the tick kept
for the stamps of its events (R51, R55, R59). -/
def Fiu.sample (cfg : Tab PointConfig) (levels : BitVec 16) (groupTime : Millis) (f : Fiu) : Fiu :=
  { f with
    points := .ofFn fun p => (f.points.get p).sample (cfg.get p) (levels.getLsbD p.val)
    drainCount := if f.drainRunning then f.drainCount + 1 else f.drainCount
    tickStamp := groupTime }

/-- One button at a tick (R136). At the third differing tick `due` is set and DEBOUNCE carries the change out (log
entry 4). -/
def Debouncer.sample (pressed : Bool) (d : Debouncer) : Debouncer :=
  if pressed = d.pressed then { d with count := 0, due := false }
  else if d.count < 2 then { d with count := d.count + 1 } else { d with due := true }

/-- The four buttons at a tick (R136). -/
def Pnl.sample (l : ButtonLevels) (p : Pnl) : Pnl :=
  { p with ack := p.ack.sample (pinPressed l .ack), reset := p.reset.sample (pinPressed l .reset)
           silence := p.silence.sample (pinPressed l .silence), test := p.test.sample (pinPressed l .test) }

/-- Some point's change of the last tick waits for its COUNTDOWN_EXPIRY. -/
def Fiu.anyDue (f : Fiu) : Bool := f.points.any (·.due)

/-- The drain interval in ticks (R59). -/
def State.drainTicks (s : State) : Nat := s.conf.drainSeconds * 100

/-- The drain timer has reached D × 100 ticks (R59). -/
def State.drainReached (s : State) : Bool := s.fiu.drainRunning && decide (s.drainTicks ≤ s.fiu.drainCount)

/-- Some button's change of the last tick waits for its DEBOUNCE. -/
def Pnl.anyDue (p : Pnl) : Bool := p.ack.due || p.reset.due || p.silence.due || p.test.due

/-- Everything the last tick brought about has been carried out, so that the next may be taken (log entry 4). -/
def State.tickSettled (s : State) : Bool := !s.fiu.anyDue && !s.drainReached && !s.pnl.anyDue

/-- A tick can be taken: the local count has reached a multiple of 10 (R125) and, in a running mode, the changes of the
tick before have been carried out. -/
def State.tickMayBeTaken (s : State) : Bool := s.tmb.tickDue && (!s.runs || s.tickSettled)

/-- The tick as the FIU and the PNL take it in JOINING, ACTIVE and ISOLATED (R51, R136). The mode of the tick is kept: the
requests of its presses go by it (R151). -/
def sampleInputs (points : BitVec 16) (buttons : ButtonLevels) (s : State) : State :=
  (s.setFiu (s.fiu.sample s.conf.points points s.tmb.groupTime)).setPnl { s.pnl.sample buttons with tickMode := s.mbu.mode }

/-- A tick is taken in every mode; the FIU and the PNL act on it in the running modes alone (R125, R63, R136). -/
def takeTick (points : BitVec 16) (buttons : ButtonLevels) (s : State) : State :=
  let s1 := s.setTmb { s.tmb with tickDue := false }
  let s2 := s1.setPins { s1.pins with points := points, buttons := buttons }
  if s2.runs then sampleInputs points buttons s2 else s2

/-- TICK (R125). -/
def execTick (points : BitVec 16) (buttons : ButtonLevels) (s : State) : Host.Outcome State Fault Refusal :=
  arise s.tickMayBeTaken (takeTick points buttons) s

/-- The chatter count after a qualified ACTIVATE, and the SHELVE claim it brings about (R57, R58). -/
def countActivation (p : Point) (s : State) : State :=
  let f := s.fieldPoint p
  let threshold := (s.conf.points.get p).threshold
  if threshold.val = 0 then s
  else
    let s1 := s.setFieldPoint p { f with chatter := satIncr f.chatter }
    if f.chatter.val + 1 = threshold.val ∧ (s.point p).state ≠ .shelved then takeEvent p .shelve s.tmb.groupTime s1 else s1

/-- The qualification of a point's change (R53, R55): Q takes R, the event goes to the Point Sequencer with the group time
of the tick, and an ACTIVATE is counted for chatter. -/
def qualify (p : Point) (s : State) : State :=
  let f := s.fieldPoint p
  let s1 := s.setFieldPoint p { f with qualified := f.raw, due := false }
  match f.raw with
  | .active => countActivation p (takeEvent p .activate s.fiu.tickStamp s1)
  | .normal => takeEvent p .clear s.fiu.tickStamp s1

/-- The points are qualified in ascending order (R51): the lowest point whose change is due. -/
def State.qualifiesNext (s : State) (p : Point) : Bool := s.runs && s.fiu.points.lowest (·.due) == some p

/-- COUNTDOWN_EXPIRY (R53). -/
def execCountdownExpiry (p : Point) (s : State) : Host.Outcome State Fault Refusal :=
  arise (s.qualifiesNext p) (fun s => settleIdleWait (qualify p s)) s

/-- A point's chatter count at the drain step (R60). -/
def FieldPoint.drain (c : PointConfig) (f : FieldPoint) : FieldPoint :=
  if c.inUse && f.chatter.val != 0 then { f with chatter := decr f.chatter } else f

/-- A point's count becomes 0 at this drain step (R60). -/
def FieldPoint.empties (c : PointConfig) (f : FieldPoint) : Bool := c.inUse && f.chatter.val == 1

/-- The UNSHELVE claim of one point at the drain step, with the point's qualified condition (R60). -/
def releasePoint (before : Tab FieldPoint) (s : State) (p : Point) : State :=
  if (before.get p).empties (s.conf.points.get p) && (s.point p).state == .shelved then
    takeEvent p (.unshelve (s.fieldPoint p).qualified) s.tmb.groupTime s
  else s

/-- The drain step: all counts first, then the UNSHELVE claims in ascending point order; the timer restarts from 0 (R59,
R60). -/
def drainStep (s : State) : State :=
  indices.foldl (releasePoint s.fiu.points)
    (s.setFiu { s.fiu with points := .ofFn fun p => (s.fieldPoint p).drain (s.conf.points.get p), drainCount := 0 })

/-- The drain timer expires after the qualifications of the same tick (R59). -/
def State.drainDue (s : State) : Bool := s.runs && s.drainReached && !s.fiu.anyDue

/-- DRAIN_TIMER_EXPIRY (R59). -/
def execDrainTimerExpiry (s : State) : Host.Outcome State Fault Refusal :=
  arise s.drainDue (fun s => settleIdleWait (drainStep s)) s

end Sys2Proof.Machine
end

