-- ==== Sys2Proof/Machine/Panel.lean ====
section
/-! DEFINITION. Presses and releases: the meaning of DEBOUNCE (R136 to R140). -/
namespace Sys2Proof.Machine

/-- A request of ACK or RESET may be made: the mode at the tick of the press is ACTIVE or ISOLATED, and the panel zone mask
is not zero (R138, R151). -/
def State.mayRequest (s : State) : Bool := s.pnl.tickMode.takesRequests && s.conf.panelMask != 0

/-- A press of a button (R137, R138, R140). -/
def press (b : Button) (s : State) : State :=
  match b with
  | .ack => if s.mayRequest then claimAck s else s
  | .reset => if s.mayRequest then claimReset s else s
  | .silence => silenceClaim s
  | .test => chimeClaim (s.setPnl { s.pnl with lampTest := true })

/-- A release of a button: that of TEST turns lamp test off, the others have no effect (R137, R140). -/
def release (b : Button) (s : State) : State :=
  match b with
  | .test => s.setPnl { s.pnl with lampTest := false }
  | .ack => s
  | .reset => s
  | .silence => s

/-- A button's debounced state takes the pin level, a press or a release (R136, R137). -/
def debounce (b : Button) (s : State) : State :=
  let d := s.pnl.button b
  let s1 := s.setPnl (s.pnl.setButton b { pressed := !d.pressed, count := 0, due := false })
  if d.pressed then release b s1 else press b s1

/-- A button's change is due, and no button that is acted on before it changes at the same tick (R137). -/
def State.debouncesNext (s : State) (b : Button) : Bool :=
  s.runs && (s.pnl.button b).due && (actedBefore b).all fun b' => !(s.pnl.button b').due

/-- DEBOUNCE (R136). -/
def execDebounce (b : Button) (s : State) : Host.Outcome State Fault Refusal :=
  arise (s.debouncesNext b) (fun s => settleIdleWait (debounce b s)) s

end Sys2Proof.Machine
end

