-- ==== Sys2Proof/Machine/StartUp.lean ====
section
/-! DEFINITION. Cold start, the straps, the reads of the configuration image and the milliseconds: the meanings of
COLD_START, RESET_RELEASE, READ_START, READ_COMPLETE and MILLISECOND (chapter 10, R125). -/
namespace Sys2Proof.Machine

/-- Every unit at its cold-start values (R180); the waiting commands are the sender's, and the pins, RESET apart, are the
outside's, so both stay. -/
def coldState (resetLow : Bool) (s : State) : State :=
  (State.reset.setPending s.pending).setPins { s.pins with resetLow := resetLow }

/-- LOADING begins: the straps are sampled once, and the entry at the strapped address becomes SELF (R183, R95). -/
def beginLoading (straps : BitVec 4) (s : State) : State :=
  let a := strapAddress straps
  let s1 := s.setPins { s.pins with resetLow := false, straps := straps }
  let s2 := s1.setLoader { s1.loader with address := a }
  s2.setMember a { s2.member a with presence := .self }

/-- COLD_START (R180): a low level on RESET holds the part in cold start; power-on with RESET high begins LOADING at once. -/
def execColdStart (cause : ColdStartCause) (s : State) : Host.Outcome State Fault Refusal :=
  match cause with
  | .resetLow => .next (coldState true s)
  | .powerOn straps => .next (beginLoading straps (coldState false s))

/-- RESET_RELEASE (R180, R183): LOADING begins at the release of a RESET line that was held low. -/
def execResetRelease (straps : BitVec 4) (s : State) : Host.Outcome State Fault Refusal :=
  arise s.pins.resetLow (beginLoading straps) s

/-- The start time of read k in milliseconds of local time (R182). -/
def readStartTime (k : Nat) : Nat := 50 + 400 * (k - 1)

/-- LOADING is under way: RESET is high and the mode is LOADING (R180). -/
def State.loadingRuns (s : State) : Bool := !s.pins.resetLow && s.mbu.mode == .loading

/-- A read may start: LOADING, the loader WAITING, and the start time of its read reached (R182). -/
def State.readMayStart (s : State) : Bool :=
  s.loadingRuns && s.loader.load == .waiting && decide (readStartTime s.loader.readNumber ≤ s.tmb.localCount.toNat)

/-- READ_START (R182). -/
def execReadStart (s : State) : Host.Outcome State Fault Refusal :=
  arise s.readMayStart (fun s => s.setLoader { s.loader with load := .reading }) s

/-- The end of a read (R182, R185): accepted, with the idle-wait timer running for the JOIN just claimed (R78), retried, or
refused for the third time. -/
def finishRead (image : List Byte) (s : State) : State :=
  match decodeImage image with
  | some c => settleIdleWait (loadAccepted c s)
  | none =>
    if s.loader.readNumber < Config.maxReads then
      s.setLoader { s.loader with load := .waiting, readNumber := s.loader.readNumber + 1 }
    else loadRefused s

/-- A read is in progress (R182). -/
def State.reading (s : State) : Bool := s.loadingRuns && s.loader.load == .reading

/-- READ_COMPLETE (R185 to R189). -/
def execReadComplete (image : List Byte) (s : State) : Host.Outcome State Fault Refusal :=
  if imageComplete image then arise s.reading (finishRead image) s else .refused .illFormed

/-- MILLISECOND (R125, R127): the local count and group time stay at 0 while RESET is low and count otherwise. -/
def execMillisecond (s : State) : Host.Outcome State Fault Refusal :=
  arise (!s.pins.resetLow) (fun s => s.setTmb s.tmb.advance) s

end Sys2Proof.Machine
end

