-- ==== Sys2Proof/Machine/TimerCommands.lean ====
section
/-! DEFINITION. The expiries of the timers of R126 given in milliseconds: the meanings of the HEARTBEAT, SILENCE, RESYNC,
REPLAY, JOIN_WINDOW, PROBE, MARK, STAGE and CHIME timer commands. -/
namespace Sys2Proof.Machine

/-- The HEARTBEAT slot filled; a full slot is left as it is (R72). -/
def fillHeartbeat (probe : Bool) (s : State) : State :=
  match s.bus.heartbeatSlot with
  | some _ => s
  | none => s.setBif { s.bus with heartbeatSlot := some { attempts := 0, mode := none, probe := probe } }

/-- The TIME MARK slot filled; a full slot is left as it is (R72, R130). -/
def fillMark (s : State) : State :=
  match s.bus.markSlot with
  | some _ => s
  | none => s.setBif { s.bus with markSlot := some { attempts := 0, time := none } }

/-- The heartbeat timer restarts, and the slot is filled in JOINING or ACTIVE (R97). -/
def beatHeart (s : State) : State :=
  let s1 := s.setMbu { s.mbu with heartbeat := s.timerH 1 }
  if s.mbu.mode.onBus then fillHeartbeat false s1 else s1

/-- The heartbeat timer expires (R97). -/
def State.heartbeatExpires (s : State) : Bool := s.runs && s.expired s.mbu.heartbeat

/-- HEARTBEAT_TIMER_EXPIRY (R97). -/
def execHeartbeatTimerExpiry (s : State) : Host.Outcome State Fault Refusal :=
  arise s.heartbeatExpires (fun s => settleIdleWait (beatHeart s)) s

/-- The silence timer of a PRESENT peer reaches 3H (R99). -/
def State.silenceExpires (s : State) (st : Addr) : Bool :=
  s.runs && (s.member st).presence == .present && s.expired (s.member st).silence

/-- SILENCE_TIMER_EXPIRY (R99). -/
def execSilenceTimerExpiry (st : Addr) (s : State) : Host.Outcome State Fault Refusal :=
  arise (s.silenceExpires st) (declareAbsent st) s

/-- The resync timer of an AWAITING entry expires (R106). -/
def State.resyncExpires (s : State) (st : Addr) : Bool :=
  s.runs && (s.member st).sync == .awaiting && s.expired (s.member st).resync

/-- The outcome by the attempts at the expiry (R106). -/
def resyncExpired (st : Addr) (s : State) : State :=
  if (s.member st).attempts < Config.resyncLimit then renewWait st s else declareAbsent st s

/-- RESYNC_TIMER_EXPIRY (R106). -/
def execResyncTimerExpiry (st : Addr) (s : State) : Host.Outcome State Fault Refusal :=
  arise (s.resyncExpires st) (fun s => settleIdleWait (resyncExpired st s)) s

/-- The replay timer of a SCHEDULED replay expires (R112). -/
def State.replayExpires (s : State) (st : Addr) : Bool :=
  s.runs && (s.member st).replay == .scheduled && s.expired (s.member st).replayTimer

/-- REPLAY_TIMER_EXPIRY (R112). -/
def execReplayTimerExpiry (st : Addr) (s : State) : Host.Outcome State Fault Refusal :=
  arise (s.replayExpires st) (fun s => settleIdleWait (claimReplay st s)) s

/-- The join window of an OPEN join expires (R120). -/
def State.joinWindowExpires (s : State) : Bool :=
  s.runs && s.mbu.joinState == .opened && s.expired s.mbu.joinWindow

/-- JOIN_WINDOW_EXPIRY (R120). -/
def execJoinWindowExpiry (s : State) : Host.Outcome State Fault Refusal :=
  arise s.joinWindowExpires (fun s => settleIdleWait (freshStart (closeJoin s))) s

/-- The probe timer restarts, and a probe is placed in an empty HEARTBEAT slot (R91). -/
def placeProbe (s : State) : State := fillHeartbeat true (s.setBif { s.bus with probe := s.timerH 1 })

/-- The probe timer expires in ISOLATED (R91). -/
def State.probeExpires (s : State) : Bool := s.isolated && s.expired s.bus.probe

/-- PROBE_TIMER_EXPIRY (R91). -/
def execProbeTimerExpiry (s : State) : Host.Outcome State Fault Refusal :=
  arise s.probeExpires (fun s => settleIdleWait (placeProbe s)) s

/-- The mark timer's expiry by mode: WAITING with the slot filled in JOINING or ACTIVE, restarted in ISOLATED (R129,
R130). -/
def markExpired (s : State) : State :=
  if s.mbu.mode.onBus then fillMark (s.setTmb { s.tmb with markTimer := .waiting })
  else s.setTmb { s.tmb with markTimer := .running s.tmb.localCount }

/-- The mark timer reaches M (R129). -/
def State.markExpires (s : State) : Bool := s.runs && s.tmb.markTimer.reached s.tmb.localCount s.markMs

/-- MARK_TIMER_EXPIRY (R129, R130). -/
def execMarkTimerExpiry (s : State) : Host.Outcome State Fault Refusal :=
  arise s.markExpires (fun s => settleIdleWait (markExpired s)) s

/-- The stage timer expires in SOUNDING (R162). -/
def State.stageExpires (s : State) : Bool := s.runs && s.hrn.horn == .sounding && s.expired s.hrn.stage

/-- STAGE_TIMER_EXPIRY (R162). -/
def execStageTimerExpiry (s : State) : Host.Outcome State Fault Refusal := arise s.stageExpires fadeHorn s

/-- The chime timer expires in CHIMING (R158). -/
def State.chimeExpires (s : State) : Bool := s.runs && s.hrn.horn == .chiming && s.expired s.hrn.chime

/-- CHIME_TIMER_EXPIRY (R158). -/
def execChimeTimerExpiry (s : State) : Host.Outcome State Fault Refusal := arise s.chimeExpires endChime s

end Sys2Proof.Machine
end

