-- ==== Sys2Proof/Machine/Dispatch.lean ====
section
/-! DEFINITION. The meaning of each command, one arm per constructor. -/
namespace Sys2Proof.Machine

def exec (i : Instr) (s : State) : Host.Outcome State Fault Refusal :=
  match i with
  | .coldStart cause => Sys2Proof.Machine.execColdStart cause s
  | .readStart => Sys2Proof.Machine.execReadStart s
  | .readComplete image => Sys2Proof.Machine.execReadComplete image s
  | .tick points buttons => Sys2Proof.Machine.execTick points buttons s
  | .countdownExpiry p => Sys2Proof.Machine.execCountdownExpiry p s
  | .drainTimerExpiry => Sys2Proof.Machine.execDrainTimerExpiry s
  | .debounce b => Sys2Proof.Machine.execDebounce b s
  | .beginFrame => Sys2Proof.Machine.execBeginFrame s
  | .loseContention => Sys2Proof.Machine.execLoseContention s
  | .winContention => Sys2Proof.Machine.execWinContention s
  | .transmitError => Sys2Proof.Machine.execTransmitError s
  | .idleWaitExpiry => Sys2Proof.Machine.execIdleWaitExpiry s
  | .frameCompletion => Sys2Proof.Machine.execFrameCompletion s
  | .frameReceived bytes => Sys2Proof.Machine.execFrameReceived bytes s
  | .frameAbandoned reason => Sys2Proof.Machine.execFrameAbandoned reason s
  | .addressClashHalt => Sys2Proof.Machine.execAddressClashHalt s
  | .loopbackPassage => Sys2Proof.Machine.execLoopbackPassage s
  | .deliverTimeMark => Sys2Proof.Machine.execDeliverTimeMark s
  | .deliverState => Sys2Proof.Machine.execDeliverState s
  | .deliverAck => Sys2Proof.Machine.execDeliverAck s
  | .deliverReset => Sys2Proof.Machine.execDeliverReset s
  | .deliverSnapshot => Sys2Proof.Machine.execDeliverSnapshot s
  | .deliverReplay => Sys2Proof.Machine.execDeliverReplay s
  | .deliverResyncRequest => Sys2Proof.Machine.execDeliverResyncRequest s
  | .deliverJoin => Sys2Proof.Machine.execDeliverJoin s
  | .deliverHeartbeat => Sys2Proof.Machine.execDeliverHeartbeat s
  | .heartbeatTimerExpiry => Sys2Proof.Machine.execHeartbeatTimerExpiry s
  | .silenceTimerExpiry station => Sys2Proof.Machine.execSilenceTimerExpiry station s
  | .resyncTimerExpiry station => Sys2Proof.Machine.execResyncTimerExpiry station s
  | .replayTimerExpiry station => Sys2Proof.Machine.execReplayTimerExpiry station s
  | .joinWindowExpiry => Sys2Proof.Machine.execJoinWindowExpiry s
  | .probeTimerExpiry => Sys2Proof.Machine.execProbeTimerExpiry s
  | .markTimerExpiry => Sys2Proof.Machine.execMarkTimerExpiry s
  | .stageTimerExpiry => Sys2Proof.Machine.execStageTimerExpiry s
  | .chimeTimerExpiry => Sys2Proof.Machine.execChimeTimerExpiry s
  | .logrdyChange high => Sys2Proof.Machine.execLogrdyChange high s
  | .recordDeparture => Sys2Proof.Machine.execRecordDeparture s
  | .resetRelease straps => Sys2Proof.Machine.execResetRelease straps s
  | .millisecond => Sys2Proof.Machine.execMillisecond s
  | .idleGap => Sys2Proof.Machine.execIdleGap s

end Sys2Proof.Machine
end

