-- ==== Sys2Proof/Machine/Outputs.lean ====
section
/-! DEFINITION. The output pins as functions of the state: lamps and STATUS (chapter 7), HORN (R155), the bus, the logger
line and the serial memory port (R65, R174, R181, R184). -/
namespace Sys2Proof.Machine

/-- The seven patterns (R142). -/
inductive Pattern where
  | off | steady | fast | first | slow | wink | unknown
  deriving DecidableEq, Repr

/-- A pattern is on at a clock value (R142). -/
def Pattern.on (p : Pattern) (c : Nat) : Bool :=
  match p with
  | .off => false
  | .steady => true
  | .fast => decide (c % 500 < 250)
  | .first => decide (c % 1000 < 100) || (decide (200 ≤ c % 1000) && decide (c % 1000 < 300))
  | .slow => decide (c % 2000 < 1000)
  | .wink => decide (c % 2000 < 100)
  | .unknown => decide (c % 4000 < 500)

/-- The clock of the patterns: group time in the running modes, the local count in LOADING and HALTED (R142). -/
def State.patternClock (s : State) : Nat := if s.runs then s.tmb.groupTime.toNat else s.tmb.localCount.toNat

/-- The pattern of a record for a POINT entry (R144). -/
def pointPattern (r : GatRecord) : Pattern :=
  if !r.inUse then .off
  else if r.status ≠ .current then .unknown
  else match r.state with
  | .normal => .off
  | .alert => if r.firstOut then .first else .fast
  | .held => .steady
  | .returned => .slow
  | .shelved => .wink

/-- A record is in use, CURRENT, of a zone and in a state (R145). -/
def zoneShows (z : Zone) (st : SeqState) (r : GatRecord) : Bool := r.inUse && r.status == .current && r.zone == z && r.state == st

/-- A record is in use, of a zone, and STALE or LOST (R145). -/
def zoneDoubtful (z : Zone) (r : GatRecord) : Bool := r.inUse && r.zone == z && (r.status == .stale || r.status == .lost)

/-- The pattern of a zone (R145). -/
def zonePattern (z : Zone) (g : Gat) : Pattern :=
  if anyRecord (zoneShows z .alert) g then .fast
  else if anyRecord (zoneShows z .returned) g then .slow
  else if anyRecord (zoneShows z .held) g then .steady
  else if anyRecord (zoneShows z .shelved) g then .wink
  else if anyRecord (zoneDoubtful z) g then .unknown
  else .off

/-- The pattern of the own station's lamp by mode (R146); LOADING and HALTED are R149's. -/
def ownPattern : Mode → Pattern
  | .active => .steady
  | .joining => .fast
  | .isolated => .slow
  | .loading => .off
  | .halted _ => .off

/-- The pattern of a peer's lamp (R147). -/
def peerPattern (m : Member) (block : Tab GatRecord) : Pattern :=
  match m.presence with
  | .present =>
    if m.reported = some .isolated then .slow
    else if m.sync = .awaiting ∨ m.reported = some .joining then .fast
    else if m.reported = some .active then .steady
    else .fast
  | .absent => if block.any (·.status == .lost) then .unknown else .off
  | .self => .off

/-- The pattern of a lamp entry in the running modes (R144 to R147). -/
def State.entryPattern (s : State) : LampEntry → Pattern
  | .off => .off
  | .point st p => pointPattern (recordAt s.gat st p)
  | .zone z => zonePattern z s.gat
  | .station st => if st = s.own then ownPattern s.mbu.mode else peerPattern (s.member st) (s.gat.get st)

/-- The pattern of a lamp by station mode (R148, R149). -/
def State.lampPattern (s : State) (lamp : Fin 16) : Pattern :=
  match s.mbu.mode with
  | .loading => .off
  | .halted .configFault => if lamp = 0 then .slow else .off
  | .halted .addressClash => .unknown
  | .joining => if s.pnl.lampTest then .steady else s.entryPattern (s.conf.lamps.get lamp)
  | .active => if s.pnl.lampTest then .steady else s.entryPattern (s.conf.lamps.get lamp)
  | .isolated => if s.pnl.lampTest then .steady else s.entryPattern (s.conf.lamps.get lamp)

/-- The level of a lamp output: high while its pattern is on (R143). -/
def State.lampHigh (s : State) (lamp : Fin 16) : Bool := (s.lampPattern lamp).on s.patternClock

/-- The pattern of STATUS (R150). -/
def State.statusPattern (s : State) : Pattern :=
  match s.mbu.mode with
  | .loading => .off
  | .joining => .fast
  | .active => .steady
  | .isolated => .slow
  | .halted .configFault => .wink
  | .halted .addressClash => .unknown

/-- The level of STATUS (R143, R150). -/
def State.statusHigh (s : State) : Bool := s.statusPattern.on s.patternClock

/-- The frequency of a tone code in hertz (R153). -/
def toneHertz (t : Fin 8) : Nat := 3200 - 400 * t.val

/-- The sixteenths of a tone cycle in which the output is high at a level (R155). -/
def dutySixteenths (level : Nat) : Nat := 9 - level

/-- The tone on HORN with its duty in sixteenths, if one is driven (R155). -/
def State.hornTone (s : State) : Option (Fin 8 × Nat) :=
  match s.hrn.horn with
  | .quiet => none
  | .silenced => none
  | .sounding => some (s.hrn.tone, dutySixteenths s.hrn.level)
  | .chiming => some (s.conf.chimeTone, dutySixteenths 1)

/-- The contention class of a candidate: the two slots are of one class each, the queue's head of its own (R76). -/
def State.candidateClass (s : State) : Candidate → Option FrameClass
  | .markSlot => some .timeMark
  | .heartbeatSlot => some .heartbeat
  | .queueHead =>
    match s.bus.queue with
    | [] => none
    | e :: _ =>
      match e.body with
      | .state _ => some .state
      | .ack _ => some .ack
      | .reset _ => some .reset
      | .snapshot _ => some .snapshot
      | .replay _ _ => some .replay
      | .resyncRequest _ => some .resyncRequest
      | .join _ => some .join

/-- The levels that BTX puts on the line for what the station is sending, one per bit time; true is recessive. Nothing is
driven otherwise: BTX leaves the line recessive (R65, R66). -/
def State.busLevels (s : State) : List Bool :=
  match s.bus.line with
  | .contending c =>
    match s.candidateClass c with
    | some cls => contentionLevels (contentionByte cls s.own)
    | none => []
  | .sending _ f => frameLevels (encodeFrame f)
  | .seeking => []
  | .gap => []
  | .receiving => []

/-- The level of BTX in a bit time of what the station is sending; true is recessive, and BTX is recessive past the last
and while nothing is sent (R65, R66). -/
def State.btxHigh (s : State) (bit : Nat) : Bool := s.busLevels.getD bit true

/-- The levels of LOGTX for the record in progress, one per bit time; the line rests high otherwise (R174). -/
def State.loggerLevels (s : State) : List Bool :=
  match s.jnl.inProgress with
  | some bytes => recordLevels bytes
  | none => []

/-- The level of LOGTX in a bit time of the record in progress; it is high past the last, between records, in LOADING and
from a cold start on (R174, R177, R178). -/
def State.logtxHigh (s : State) (bit : Nat) : Bool := s.loggerLevels.getD bit true

/-- The rate of the logger line: stopped in LOADING, 9600 baud after a configuration fault, else as configured (R177). -/
def State.loggerBaud (s : State) : Option Nat :=
  match s.mbu.mode with
  | .loading => none
  | .halted .configFault => some 9600
  | .halted .addressClash => some s.conf.loggerRate.baud
  | .joining => some s.conf.loggerRate.baud
  | .active => some s.conf.loggerRate.baud
  | .isolated => some s.conf.loggerRate.baud

/-- SCS is low during a read (R181, R184). -/
def State.scsHigh (s : State) : Bool := s.loader.load != .reading

/-- The level of SDO in a period of SCK, counted from the fall of SCS: the command levels in a read, then low; low outside
a read (R181, R184). -/
def State.sdoHigh (s : State) (period : Nat) : Bool := s.loader.load == .reading && readCommandLevels.getD period false

/-- The periods of SCK in a read: 24 of the command, and eight for each of the 136 bytes (R184). -/
def readPeriods : Nat := 24 + 8 * Config.imageSize

/-- The level of SCK in a half period, counted from the fall of SCS: it rests low, and goes high in the second half of
each period of a read (R181, R184; which half is the high one is log entry 21). -/
def State.sckHigh (s : State) (half : Nat) : Bool := s.loader.load == .reading && decide (half < 2 * readPeriods) && half % 2 == 1

end Sys2Proof.Machine
end

