-- ==== Sys2Proof/Safety.lean ====
section
/-! DEFINITION. What a station's state keeps to at every step: the invariants that the rules state of the collections and
that the statements over every step are made of. -/
namespace Sys2Proof.Machine

/-- At most one record of each zone carries the first-out mark, and a record carrying it is in ALERT, HELD or RETURNED
(R14). -/
abbrev MarksHold (g : Gat) : Prop :=
  (∀ st p, (recordAt g st p).firstOut = true →
    (recordAt g st p).state = .alert ∨ (recordAt g st p).state = .held ∨ (recordAt g st p).state = .returned)
  ∧ ∀ st p st' p', (recordAt g st p).firstOut = true → (recordAt g st' p').firstOut = true →
    (recordAt g st p).zone = (recordAt g st' p').zone → st = st' ∧ p = p'

/-- A point in HELD has condition ACTIVE, and a point in NORMAL or RETURNED has condition NORMAL (R26). -/
abbrev PointsAgree (q : Psq) : Prop :=
  ∀ p, ((q.points.get p).state = .held → (q.points.get p).condition = .active)
    ∧ ((q.points.get p).state = .normal → (q.points.get p).condition = .normal)
    ∧ ((q.points.get p).state = .returned → (q.points.get p).condition = .normal)

/-- The transmit queue holds at most 24 entries and at most one unsent STATE for a point (R71), and a point's owed flag is
clear while one stands (R38). -/
abbrev QueueHolds (s : State) : Prop :=
  s.bus.queue.length ≤ 24
  ∧ ∀ p, (s.bus.queue.filter (TxEntry.unsentStateFor p)).length ≤ 1
    ∧ ((s.point p).owed = true → s.bus.queue.any (TxEntry.unsentStateFor p) = false)

/-- The receive queue holds at most six frames (R84), and an own attempt has its place still free (R85). -/
abbrev ReceiveQueueHolds (b : Bif) : Prop :=
  b.rx.length ≤ 6 ∧ (b.line.own.isSome = true → b.rx.length < 6)

/-- The journal holds at most 64 records, its dropped count is non-zero only while it is full (R166), and never above
65535 (R171); the record in progress is one of the journal's (R166). -/
abbrev JournalHolds (j : Jnl) : Prop :=
  j.journal.length ≤ 64 ∧ (j.dropped ≠ 0 → j.journal.length = 64) ∧ j.dropped ≤ 65535
    ∧ (j.inProgress.isSome = true → j.journal ≠ [])

/-- SHELVED against the chatter count by the threshold of the point (R58). -/
abbrev ShelvingHolds (threshold chatter : Nat) (st : SeqState) : Prop :=
  if threshold = 0 then chatter = 0 ∧ st ≠ .shelved
  else (st = .shelved → 1 ≤ chatter) ∧ (st ≠ .shelved → chatter < threshold)

/-- R58 at every point, with the configuration that is in force; in LOADING none is (R64), and every point has count 0. -/
abbrev ChatterHolds (s : State) : Prop :=
  (∀ p, ShelvingHolds (s.conf.points.get p).threshold.val (s.fieldPoint p).chatter.val (s.point p).state)
  ∧ (s.mbu.mode = .loading → s.config = none)

/-- Claims that wait: some point owed, an owed SNAPSHOT, a pending ACK or RESET (R73). -/
def State.claimWaits (s : State) : Bool :=
  s.psq.points.any (·.owed) || s.bus.owedSnapshot || s.pnl.pendingAck || s.pnl.pendingReset

/-- Claims that ISOLATED passes over and that wait: an owed JOIN, an owed RESYNC REQUEST, a DUE REPLAY (R74, R90). -/
def State.heldBackWaits (s : State) : Bool :=
  s.bus.owedJoin || s.mbu.members.any fun m => m.resyncOwed || m.replay == .due

/-- A claim waits only while the transmit queue is full (R73, R74, R105, R112, R139): those that R90 passes over outside ISOLATED,
and outside HALTED, which keeps what an ISOLATED station held (R124). -/
abbrev WaitsOnlyWhenFull (s : State) : Prop :=
  s.bus.queue.length ≤ 24 ∧ (s.claimWaits = true → s.bus.queue.length = 24)
  ∧ (s.mbu.mode = .loading ∨ s.mbu.mode = .joining ∨ s.mbu.mode = .active → s.heldBackWaits = true → s.bus.queue.length = 24)

/-- An entry's sequence byte and contents by its disposition: open while unsent, fixed when begun (R71, R75, R81), and with
contents and byte of its own when looped back, in one of the four classes that are (R88, R90). -/
def TxEntry.agrees (e : TxEntry) : Bool :=
  match e.disposition, e.body with
  | .unsent, .snapshot c => c.isNone && e.seq.isNone
  | .unsent, .replay _ c => c.isNone && e.seq.isNone
  | .unsent, _ => e.seq.isNone
  | .begun, .state _ => e.seq.isSome
  | .begun, .snapshot c => c.isSome && e.seq.isNone
  | .begun, .replay _ c => c.isSome && e.seq.isNone
  | .begun, _ => e.seq.isNone
  | .loopedBack, .snapshot c => c.isSome && e.seq.isSome
  | .loopedBack, .replay _ _ => false
  | .loopedBack, .resyncRequest _ => false
  | .loopedBack, .join _ => false
  | .loopedBack, _ => e.seq.isSome

/-- The number of the latest STATE to have ended against the counter: one behind while the head is a begun STATE that
carries the counter, equal otherwise (R82). -/
def Bif.numbersAgree (b : Bif) : Bool :=
  match b.queue with
  | [] => b.lastEnded == b.counter
  | e :: _ =>
    match e.disposition, e.body with
    | .begun, .state _ => e.seq == some b.counter && b.lastEnded == b.counter - 1
    | _, _ => b.lastEnded == b.counter

/-- The contents that a candidate has fixed at its first win (R72, R75). -/
def Bif.fixedContents (b : Bif) : Candidate → Option Body
  | .markSlot => b.markSlot.bind fun m => m.time.map .timeMark
  | .heartbeatSlot => b.heartbeatSlot.bind fun h => h.mode.map .heartbeat
  | .queueHead => b.queue.head?.bind fun e => if e.disposition = .begun then e.body.toBody else none

/-- What the station does on the line has its frame: a contending candidate is there, and a frame being sent is the
candidate's own, a STATE under the number of its entry (R67, R68, R81). -/
def Bif.lineAgrees (b : Bif) : Bool :=
  match b.line with
  | .contending .markSlot => b.markSlot.isSome
  | .contending .heartbeatSlot => b.heartbeatSlot.isSome
  | .contending .queueHead => b.headOffered
  | .sending c f =>
    b.fixedContents c == some f.body && (f.body.cls != .state || b.queue.head?.bind (·.seq) == some f.seq)
  | .seeking => true
  | .gap => true
  | .receiving => true

/-- The Bus Interface's entries, numbers and line agree; only the head of the queue can have begun (R76, R81, R82), while the
station is ISOLATED every entry is looped back (R88, R90), a probe stands only in ISOLATED or where HALTED has kept it
(R91), and an attempt is in progress only on a line that is sent on (R65, R87). -/
abbrev BusAgrees (s : State) : Prop :=
  (∀ e ∈ s.bus.queue, e.agrees = true) ∧ (∀ e ∈ s.bus.queue.tail, e.disposition ≠ .begun)
    ∧ (s.mbu.mode = .isolated → ∀ e ∈ s.bus.queue, e.disposition = .loopedBack)
    ∧ s.bus.numbersAgree = true ∧ s.bus.lineAgrees = true
    ∧ (s.bus.probing = true → s.mbu.mode = .isolated ∨ s.mbu.mode = .halted .addressClash)
    ∧ (s.bus.line.own.isSome = true → s.onLine = true)

/-- The continuous tone is given only while a record stands in the alert set (R155), and a silence, or a chime that returns
to one, does not outlast it (R158, R159); outside JOINING, ACTIVE and ISOLATED the horn is QUIET (R164). -/
abbrev HornHolds (s : State) : Prop :=
  ((s.hrn.horn = .sounding ∨ s.hrn.horn = .silenced ∨ (s.hrn.horn = .chiming ∧ s.hrn.ret = .silenced)) → s.alertStands = true)
  ∧ (s.mbu.mode.runs = false → s.hrn.horn = .quiet)

/-- Lamp test is on exactly while the debounced state of TEST is PRESSED (R140). -/
abbrev LampTestHolds (p : Pnl) : Prop := p.lampTest = p.test.pressed

/-- The qualified condition of a point equals the field condition that the Point Sequencer holds for it (R50). -/
abbrev FieldConditionsAgree (s : State) : Prop := ∀ p, (s.fieldPoint p).qualified = (s.point p).field

/-- The idle-wait timer runs exactly while there is a candidate to offer, the station is not held off and no attempt of its
own is in progress, on a line that is sent on and received from (R78, R87, R93). -/
abbrev IdleWaitHolds (s : State) : Prop := (∃ start toward, s.bus.idleWait = .running start toward) ↔ s.idleWaitRuns = true

/-- Before LOADING ends nothing but the loader, the own entry's presence and the counts has moved (R5, R28, R64, R93, R95,
R135, R152, R165, R167), and while RESET is held low those stand at their cold-start values too (R125, R180). -/
abbrev LoadingHolds (s : State) : Prop :=
  (s.pins.resetLow = true → s.mbu = .cold ∧ s.tmb = .cold ∧ s.loader = .cold)
  ∧ (s.mbu.mode = .loading →
      s.config = none ∧ s.fiu = .cold ∧ s.psq = .cold ∧ s.gat = .fill (.fill .cold) ∧ s.bus = .cold ∧ s.pnl = .cold
      ∧ s.hrn = .cold ∧ s.jnl = .cold ∧ s.tmb.markTimer = .stopped
      ∧ s.mbu.heartbeat = .stopped ∧ s.mbu.joinState = .closed ∧ s.mbu.joinWindow = .stopped
      ∧ ∀ a, s.member a = { Member.cold with presence := (s.member a).presence })

/-- No claim waits for an entry of the transmit queue (R74). -/
abbrev NothingWaits (s : State) : Prop :=
  s.claimWaits = false ∧ s.bus.owedJoin = false ∧ ∀ a, (s.member a).resyncOwed = false ∧ (s.member a).replay ≠ .due

/-- The attempt count of the frame that a candidate offers, if that frame is one to be discarded at eight (R77, R91). -/
def Bif.attemptsOf (b : Bif) : Candidate → Option Nat
  | .markSlot => b.markSlot.map (·.attempts)
  | .heartbeatSlot => b.heartbeatSlot.bind fun h => if h.probe then none else some h.attempts
  | .queueHead => b.queue.head?.map (·.attempts)

/-- The count after one more failed attempt of the frame a candidate offers, all else kept (R77). -/
def Bif.withOneMore (b : Bif) : Candidate → Bif
  | .markSlot => { b with markSlot := b.markSlot.map fun m => { m with attempts := m.attempts + 1 } }
  | .heartbeatSlot => { b with heartbeatSlot := b.heartbeatSlot.map fun h => { h with attempts := h.attempts + 1 } }
  | .queueHead =>
    { b with queue := match b.queue with
                      | [] => []
                      | e :: rest => { e with attempts := e.attempts + 1 } :: rest }

/-- The frame a candidate offers leaves its slot or entry (R68, R79). -/
def Bif.without (b : Bif) : Candidate → Bif
  | .markSlot => { b with markSlot := none }
  | .heartbeatSlot => { b with heartbeatSlot := none }
  | .queueHead => { b with queue := b.queue.tail }

/-- The command that delivers a frame of a class. -/
def FrameClass.delivery : FrameClass → Instr
  | .timeMark => .deliverTimeMark
  | .state => .deliverState
  | .ack => .deliverAck
  | .reset => .deliverReset
  | .snapshot => .deliverSnapshot
  | .replay => .deliverReplay
  | .resyncRequest => .deliverResyncRequest
  | .join => .deliverJoin
  | .heartbeat => .deliverHeartbeat

/-! ## What the rules say of one event

The words of the statements: each says what a rule gives for the state after an event (`t`, `h'`) over the one before
(`s`, `h`). -/

/-- The record (station, point) of a copy is in the alert set (R154). -/
abbrev InAlertSet (c : StationConfig) (g : Gat) (a : Addr) (p : Point) : Prop :=
  c.hornMask.getLsbD (recordAt g a p).zone.val = true ∧ (recordAt g a p).inUse = true ∧ (recordAt g a p).state = .alert
    ∧ ((recordAt g a p).status = .current ∨ (recordAt g a p).status = .stale)

/-- The alert set holds a record of a priority. -/
abbrev PriorityStands (c : StationConfig) (g : Gat) (k : Nat) : Prop :=
  ∃ a p, InAlertSet c g a p ∧ (recordAt g a p).priority.val = k

/-- The tone is the configured one for the highest priority in the alert set (R161). -/
abbrev ToneChosen (c : StationConfig) (g : Gat) (tone : Fin 8) : Prop :=
  (PriorityStands c g 1 → tone = c.tone1)
  ∧ (¬ PriorityStands c g 1 → PriorityStands c g 2 → tone = c.tone2)
  ∧ (¬ PriorityStands c g 1 → ¬ PriorityStands c g 2 → PriorityStands c g 3 → tone = c.tone3)

/-- The horn after a review notice over a copy (R159). -/
abbrev Reviewed (c : StationConfig) (g : Gat) (h h' : Hrn) : Prop :=
  (h.horn = .quiet → h' = h)
  ∧ (h.horn = .sounding →
      ((∃ a p, InAlertSet c g a p) → h' = { h with tone := h'.tone } ∧ ToneChosen c g h'.tone)
      ∧ ((∀ a p, ¬ InAlertSet c g a p) → h' = { h with horn := .quiet, stage := .stopped }))
  ∧ (h.horn = .silenced → ((∃ a p, InAlertSet c g a p) → h' = h) ∧ ((∀ a p, ¬ InAlertSet c g a p) → h' = { h with horn := .quiet }))
  ∧ (h.horn = .chiming → ((∃ a p, InAlertSet c g a p) → h' = h) ∧ ((∀ a p, ¬ InAlertSet c g a p) → h' = { h with ret := .quiet }))

/-- The horn after the entered-ALERT notice of a record in the alert set, from whatever state: SOUNDING at level 1 with the
tone of R161, no chime, the stage timer restarted toward S when S is not none and level 1 lies below the floor (R156, R162). -/
abbrev Sounded (c : StationConfig) (g : Gat) (now : Millis) (h' : Hrn) : Prop :=
  h'.horn = .sounding ∧ h'.ret = .none ∧ h'.level = 1 ∧ h'.chime = .stopped ∧ ToneChosen c g h'.tone
  ∧ h'.stage = if 1 < c.floor then
                 match c.stage with
                 | .none => .stopped
                 | .s1 => .running now 1000
                 | .s2 => .running now 2000
                 | .s4 => .running now 4000
               else .stopped

/-- The horn after a chime claim (R157). -/
abbrev ChimeClaimed (c : StationConfig) (now : Millis) (h h' : Hrn) : Prop :=
  (h.horn = .quiet → h' = { h with horn := .chiming, ret := .quiet, chime := .running now (if c.chime = .ms125 then 125 else 500) })
  ∧ (h.horn = .silenced → h' = { h with horn := .chiming, ret := .silenced, chime := .running now (if c.chime = .ms125 then 125 else 500) })
  ∧ (h.horn = .sounding ∨ h.horn = .chiming → h' = h)

/-- Records were offered to the journal, in order: those that find room among the 64 are at its tail, the others counted as
dropped up to 65535; an idle line with LOGRDY low begins the head at the first of them (R168, R171, R175). -/
abbrev Offered (s t : State) (records : List JournalRecord) : Prop :=
  t.jnl.journal = s.jnl.journal ++ records.take (64 - s.jnl.journal.length)
  ∧ t.jnl.dropped = (if s.jnl.journal.length + records.length ≤ 64 ∨ records = [] then s.jnl.dropped
                     else min 65535 (s.jnl.dropped + (records.length - (64 - s.jnl.journal.length))))
  ∧ t.jnl.inProgress = if records = [] ∨ s.jnl.inProgress ≠ none ∨ s.pins.logrdyHigh = true then s.jnl.inProgress
                       else t.jnl.journal.head?.map recordBytes

/-- The application of a STATE or SNAPSHOT to a record is followed by a review (R22). -/
abbrev ReviewDue (old new : GatRecord) : Prop :=
  old.state ≠ new.state ∨ old.inUse ≠ new.inUse ∨ old.zone ≠ new.zone ∨ old.priority ≠ new.priority ∨ old.status ≠ new.status

/-- The change of a record is to be journaled (R23). -/
abbrev TransitionDue (c : StationConfig) (old new : GatRecord) : Prop :=
  (old.inUse ≠ new.inUse ∨ old.state ≠ new.state ∨ old.condition ≠ new.condition ∨ old.firstOut ≠ new.firstOut)
    ∧ c.journalMask.getLsbD new.zone.val = true

/-- The TRANSITION record of a record of the copy as the change has left it (R23, R169). -/
def transitionOf (a : Addr) (p : Point) (r : GatRecord) (count : Count) : JournalRecord :=
  .transition a p r.state r.condition r.firstOut r.status r.lastCause r.zone r.priority count r.stamp

/-- The conditions under which the idle-wait timer runs (R78): a running mode without a clash, a free place, no attempt of
the station's own, and a frame to offer (R76). -/
abbrev IdleWaitDue (s : State) : Prop :=
  s.runs = true ∧ s.bus.clash = false ∧ s.bus.rx.length < 6 ∧ s.bus.line.own = none
    ∧ (s.bus.markSlot.isSome = true ∨ s.bus.heartbeatSlot.isSome = true ∨ s.bus.queue.head?.any (fun e => e.disposition != .loopedBack) = true)

/-- The idle-wait timer has restarted from 0, where its conditions hold (R78). -/
abbrev IdleWaitRestarted (t : State) : Prop :=
  (IdleWaitDue t → t.bus.idleWait = .running t.tmb.localCount 20) ∧ (¬ IdleWaitDue t → t.bus.idleWait = .stopped)

/-- The idle-wait timer has run on, started from 0 or stopped, as its conditions hold (R78). -/
abbrev IdleWaitSettled (s t : State) : Prop :=
  (IdleWaitDue t → t.bus.idleWait = match s.bus.idleWait with
                                    | .running start toward => .running start toward
                                    | .stopped => .running t.tmb.localCount 20
                                    | .held _ _ => .running t.tmb.localCount 20)
  ∧ (¬ IdleWaitDue t → t.bus.idleWait = .stopped)

/-- A command that fails an attempt of a candidate, and what it leaves of the line: TRANSMIT_ERROR in the attempt, or
IDLE_WAIT_EXPIRY at 20 ms with the frame the candidate (R67, R68, R77, R78). -/
abbrev ChargesAttempt (s : State) (c : Candidate) (command : Instr) (line : Line) : Prop :=
  (command = .transmitError ∧ s.bus.line.own = some c ∧ line = .receiving)
  ∨ (command = .idleWaitExpiry ∧ IdleWaitDue s ∧ s.bus.candidate = some c ∧ line = s.bus.line
      ∧ ∃ start : Millis, s.bus.idleWait = .running start 20 ∧ 20 ≤ (s.tmb.localCount - start).toNat)

/-- The entry that a claim makes when it is placed: unsent, or in ISOLATED looped back under a sequence byte (R73, R90). -/
def State.entryOf (s : State) (body : TxBody) (byte : SeqNo) : TxEntry :=
  if s.mbu.mode = .isolated then { body := body, disposition := .loopedBack, attempts := 0, seq := some byte }
  else { body := body, disposition := .unsent, attempts := 0, seq := none }

/-- The announcement of a point as its record stands, with the cause of its last transition and a coalesced count (R36). -/
def toldOf (r : PointRecord) (p : Point) (cause : Cause) (count : Count) : StateBody :=
  { point := p, inUse := r.inUse, cause := cause, state := r.state, condition := r.condition, priority := r.priority, zone := r.zone, count := count, stamp := r.stamp }

/-- Points have made transitions of one cause in RUNNING, in ascending order, and each was announced on a queue: in its
unsent STATE entry in place, at a count one more; by a new entry at the tail, with its missed count; or by owing it, the
missed count one more (R36, R37, R38, R42). -/
abbrev Announced (queue : List TxEntry) (s t : State) (points : List Point) (cause : Cause) : Prop :=
  let fresh := points.filter fun p => !queue.any (TxEntry.unsentStateFor p)
  let room := 24 - queue.length
  t.bus.queue = (queue.map fun e =>
      match e.disposition, e.body with
      | .unsent, .state b => if b.point ∈ points then { e with body := .state (toldOf (t.point b.point) b.point cause (satIncr b.count)) } else e
      | _, _ => e)
    ++ ((fresh.take room).map fun p => s.entryOf (.state (toldOf (t.point p) p cause (s.point p).missed)) (s.bus.counter + 1))
  ∧ ∀ p, (p ∈ fresh.take room → (t.point p).owed = false ∧ (t.point p).missed = 0)
    ∧ (p ∈ fresh.drop room → (t.point p).owed = true ∧ (t.point p).missed = satIncr (s.point p).missed)
    ∧ (p ∉ fresh → (t.point p).owed = (s.point p).owed ∧ (t.point p).missed = (s.point p).missed)

/-- An ACTIVATE and the SHELVE that it brings about, announced one after the other in RUNNING (R36, R58): the SHELVE rewrites
the entry that the ACTIVATE stands in, and in ISOLATED, where that entry is looped back, takes another or is owed (R42). -/
abbrev ShelvedAtOnce (s t : State) (p : Point) : Prop :=
  let r := s.point p
  let unsent := s.bus.queue.any (TxEntry.unsentStateFor p)
  let activated := s.entryOf (.state (toldOf { r with state := .alert, condition := .active, stamp := s.fiu.tickStamp } p .activate r.missed)) (s.bus.counter + 1)
  let shelved := fun n => TxBody.state (toldOf (t.point p) p .shelve n)
  let owes := fun (flag : Bool) (n : Count) => (t.point p).owed = flag ∧ (t.point p).missed = n
  (unsent = true → owes r.owed r.missed
    ∧ t.bus.queue = s.bus.queue.map fun e =>
        match e.disposition, e.body with
        | .unsent, .state b => if b.point = p then { e with body := shelved (satIncr (satIncr b.count)) } else e
        | _, _ => e)
  ∧ (unsent = false → 24 ≤ s.bus.queue.length → t.bus.queue = s.bus.queue ∧ owes true (satIncr (satIncr r.missed)))
  ∧ (unsent = false → s.bus.queue.length < 24 → s.mbu.mode ≠ .isolated →
      t.bus.queue = s.bus.queue ++ [s.entryOf (shelved (satIncr r.missed)) (s.bus.counter + 1)] ∧ owes false 0)
  ∧ (unsent = false → s.bus.queue.length = 23 → s.mbu.mode = .isolated → t.bus.queue = s.bus.queue ++ [activated] ∧ owes true 1)
  ∧ (unsent = false → s.bus.queue.length < 23 → s.mbu.mode = .isolated →
      t.bus.queue = s.bus.queue ++ [activated, s.entryOf (shelved 0) (s.bus.counter + 1)] ∧ owes false 0)

/-- A claim on the transmit queue that may have to wait (R73). -/
inductive Claim where
  | state (p : Point) | snapshot | join | ack | reset | resyncRequest (target : Addr) | replay (target : Addr)
  deriving DecidableEq, Repr

/-- The claims in the order in which a free entry is offered to them (R74). -/
def Claim.order : List Claim :=
  indices.map .state ++ [.snapshot, .join, .ack, .reset] ++ indices.map .resyncRequest ++ indices.map .replay

/-- A claim waits, where its unit holds it (R73). -/
def State.holds (s : State) : Claim → Bool
  | .state p => (s.point p).owed
  | .snapshot => s.bus.owedSnapshot
  | .join => s.bus.owedJoin
  | .ack => s.pnl.pendingAck
  | .reset => s.pnl.pendingReset
  | .resyncRequest target => (s.member target).resyncOwed
  | .replay target => (s.member target).replay == .due

/-- The claims that are passed over while the station is ISOLATED (R74, R90). -/
def Claim.passedOver : Claim → Bool
  | .join => true
  | .resyncRequest _ => true
  | .replay _ => true
  | .state _ => false
  | .snapshot => false
  | .ack => false
  | .reset => false

/-- The first waiting claim that a free entry is offered to (R74). -/
def State.firstClaim (s : State) : Option Claim :=
  Claim.order.find? fun c => s.holds c && !(s.mbu.mode == .isolated && c.passedOver)

/-- A claim placed at the tail of the queue, and cleared where it waited: an owed point with its missed count (R39), a
SNAPSHOT in ISOLATED with its contents and the supersession (R41, R90), the others as R73 and R75 leave them. -/
def Claim.placed (s : State) : Claim → State
  | .state p =>
    let r := s.point p
    { s with psq := { s.psq with points := s.psq.points.set p { r with owed := false, missed := 0 } }
             bus := { s.bus with queue := s.bus.queue ++ [s.entryOf (.state (toldOf r p (r.cause.getD .activate) r.missed)) (s.bus.counter + 1)] } }
  | .snapshot =>
    if s.mbu.mode = .isolated then
      { s with psq := { points := s.psq.points.map fun r => { r with owed := false, missed := 0 }
                        phase := if s.psq.phase = .settling then .running else s.psq.phase }
               bus := { s.bus with owedSnapshot := false
                                   queue := (s.bus.queue.filter fun e => !e.unsentState) ++ [s.entryOf (.snapshot (some (snapshotEntries s))) s.bus.lastEnded] } }
    else { s with bus := { s.bus with owedSnapshot := false, queue := s.bus.queue ++ [s.entryOf (.snapshot none) s.bus.lastEnded] } }
  | .join => { s with bus := { s.bus with owedJoin := false, queue := s.bus.queue ++ [s.entryOf (.join s.inUseMask) s.bus.lastEnded] } }
  | .ack => { s with pnl := { s.pnl with pendingAck := false }, bus := { s.bus with queue := s.bus.queue ++ [s.entryOf (.ack s.conf.panelMask) s.bus.lastEnded] } }
  | .reset => { s with pnl := { s.pnl with pendingReset := false }, bus := { s.bus with queue := s.bus.queue ++ [s.entryOf (.reset s.conf.panelMask) s.bus.lastEnded] } }
  | .resyncRequest target =>
    { s with mbu := { s.mbu with members := s.mbu.members.set target { s.member target with resyncOwed := false } }
             bus := { s.bus with queue := s.bus.queue ++ [s.entryOf (.resyncRequest target) s.bus.lastEnded] } }
  | .replay target =>
    { s with mbu := { s.mbu with members := s.mbu.members.set target { s.member target with replay := .none } }
             bus := { s.bus with queue := s.bus.queue ++ [s.entryOf (.replay target none) s.bus.lastEnded] } }

/-- One freed entry offered: to the first waiting claim, or kept free when none waits (R74). -/
def State.offered (s : State) : State :=
  match s.firstClaim with
  | some c => c.placed s
  | none => s

/-- Entries offered one after another while an entry is free and a claim waits (R74), at most a given number. -/
def State.offeredTimes : Nat → State → State
  | 0, s => s
  | n + 1, s =>
    if s.bus.queue.length < 24 then
      match s.firstClaim with
      | some c => State.offeredTimes n (c.placed s)
      | none => s
    else s

/-- The free entries have gone to the waiting claims in their order, as far as both reach (R74, R90). -/
def State.served (s : State) : State := s.offeredTimes Claim.order.length

/-- A SNAPSHOT claim: absorbed by the owed flag, and outside ISOLATED by an unsent SNAPSHOT; else placed in a free entry, in
ISOLATED with the entries that its supersession frees offered; or owed (R73, R74, R90). -/
def State.snapshotClaimed (s : State) : State :=
  if s.bus.owedSnapshot = true ∨ (s.mbu.mode ≠ .isolated ∧ s.bus.queue.any TxEntry.unsentSnapshot = true) then s
  else if s.bus.queue.length < 24 then
    if s.mbu.mode = .isolated then (Claim.placed s .snapshot).served else Claim.placed s .snapshot
  else { s with bus := { s.bus with owedSnapshot := true } }

/-- A JOIN claim outside ISOLATED: absorbed by an unsent JOIN or the owed flag, placed in a free entry, or owed (R73,
R117). -/
def State.joinClaimed (s : State) : State :=
  if s.bus.owedJoin = true ∨ s.bus.queue.any TxEntry.unsentJoin = true then s
  else if s.bus.queue.length < 24 then Claim.placed s .join
  else { s with bus := { s.bus with owedJoin := true } }

/-- An entry at the entry to ISOLATED, in its place (R88 step 1): STATE, ACK, RESET and SNAPSHOT are looped back, a STATE
under the number it took or counter + 1 (R81), the others under the last number to have ended (R82), a SNAPSHOT without
contents taking those of that instant; REPLAY, RESYNC REQUEST and JOIN are dropped. -/
def TxEntry.loopedIn (s : State) (ended : SeqNo) (e : TxEntry) : Option TxEntry :=
  match e.body with
  | .state _ => some { e with disposition := .loopedBack, seq := some (e.seq.getD (s.bus.counter + 1)) }
  | .ack _ => some { e with disposition := .loopedBack, seq := some (e.seq.getD ended) }
  | .reset _ => some { e with disposition := .loopedBack, seq := some (e.seq.getD ended) }
  | .snapshot contents => some { e with body := .snapshot (some (contents.getD (snapshotEntries s))), disposition := .loopedBack, seq := some (e.seq.getD ended) }
  | .replay _ _ => none
  | .resyncRequest _ => none
  | .join _ => none

/-- A queue at the entry to ISOLATED (R88 step 1): from the first unsent SNAPSHOT on, the unsent STATE entries are removed
and not looped back. -/
def loopedQueue (s : State) (ended : SeqNo) (queue : List TxEntry) : List TxEntry :=
  let before := queue.takeWhile fun e => !e.unsentSnapshot
  let after := queue.dropWhile fun e => !e.unsentSnapshot
  (before ++ after.filter fun e => !e.unsentState).filterMap (TxEntry.loopedIn s ended)

/-- A timer at the entry to HALTED: a running one stops where it stands, any other is as it was (R124). -/
abbrev HeldIn (now : Millis) (before after : Timer) : Prop :=
  after = match before with
          | .running start toward => .held (now - start) toward
          | .stopped => .stopped
          | .held elapsed toward => .held elapsed toward

/-- The station has halted on an address clash (R87): HALTED with its MODE record, the line left, the bus and mark timers
stopped (R129), the horn QUIET (R164), every membership timer stopped where it stands, the member entries otherwise as they
were (R124), and nothing else changed. -/
abbrev HaltedByClash (s t : State) : Prop :=
  t = { s with mbu := { members := t.mbu.members, mode := .halted .addressClash, heartbeat := t.mbu.heartbeat, joinState := s.mbu.joinState, joinWindow := t.mbu.joinWindow }
               bus := { s.bus with line := .seeking, clash := true, idleWait := .stopped, probe := .stopped }
               tmb := { s.tmb with markTimer := .stopped }
               hrn := { s.hrn with horn := .quiet, ret := .none, level := 1, stage := .stopped, chime := .stopped }
               jnl := t.jnl }
  ∧ (∀ a, t.member a = { s.member a with silence := (t.member a).silence, resync := (t.member a).resync, replayTimer := (t.member a).replayTimer }
      ∧ HeldIn s.tmb.localCount (s.member a).silence (t.member a).silence ∧ HeldIn s.tmb.localCount (s.member a).resync (t.member a).resync
      ∧ HeldIn s.tmb.localCount (s.member a).replayTimer (t.member a).replayTimer)
  ∧ HeldIn s.tmb.localCount s.mbu.heartbeat t.mbu.heartbeat ∧ HeldIn s.tmb.localCount s.mbu.joinWindow t.mbu.joinWindow
  ∧ Offered s t [.mode s.own .halted .addressClash s.tmb.groupTime]

end Sys2Proof.Machine
end

