-- ==== Sys2Proof/Certificates/Slice0/Obligations.lean ====
section
/-! DEFINITION. The statements for the provers: what each command does and leaves alone, what the outputs show, and what
every step keeps. A command whose own event cannot arise in a state is not spoken of there, but where a statement says so. -/

section
open Sys2Proof Sys2Proof.Machine

/-! ## The queue of commands -/

/-- A step carries out the front command on the state with the queue's rest; an empty queue idles (log entry 1). -/
def Obligations.StepTakesTheFrontCommand : Prop :=
  ∀ s : State,
    (∀ (c : Instr) (rest : List Instr), step (s.setPending (c :: rest)) = exec c (s.setPending rest))
    ∧ (s.pending = [] → step s = .next s)

/-- Every well-formed command answers a next state, also where its event cannot arise (log entry 2), none faults (log entry
24), and none touches the queue of commands (log entry 1); an ill-formed one is refused (log entry 12). -/
def Obligations.WellFormedCommandsComplete : Prop :=
  ∀ (c : Instr) (s : State),
    (c.wellFormed = true → ∃ t, exec c s = .next t ∧ t.pending = s.pending)
    ∧ (c.wellFormed = false → exec c s = .refused .illFormed)

/-! ## Start-up -/

/-- COLD_START: every unit stands at its cold-start values, written out (R5, R28, R64, R93, R95, R135, R152, R165, R167,
R180, R182); power-on with RESET high is the held cold start and its release in one. RESET_RELEASE: the straps are the
address, bit i of the number being ADDRi, and the entry there becomes SELF (R183, R95). The model's own choices among them:
address 0 until the straps are read (log entry 16), `due`, `tickDue`, `tickStamp` and `tickMode` (log entry 4), the input pins
as they stood (log entry 6), the line seeking (log entry 7), and a RESET_RELEASE without a held RESET changing nothing (log entry 2). -/
def Obligations.ColdStartAndReleaseBeginLoading : Prop :=
  (∀ s : State, ∃ t, exec (.coldStart .resetLow) s = .next t
    ∧ t.pending = s.pending ∧ t.pins = { s.pins with resetLow := true }
    ∧ t.tmb = { localCount := 0, groupTime := 0, markTimer := .stopped, tickDue := false }
    ∧ t.loader = { load := .waiting, readNumber := 1, address := 0 } ∧ t.config = none
    ∧ (∀ p, t.fieldPoint p = { raw := .normal, qualified := .normal, countdown := none, chatter := 0, due := false })
    ∧ t.fiu.drainRunning = false ∧ t.fiu.drainCount = 0 ∧ t.fiu.tickStamp = 0
    ∧ (∀ p, t.point p = { inUse := false, zone := 0, priority := 0, state := .normal, condition := .normal, field := .normal, stamp := 0, cause := none, owed := false, missed := 0 })
    ∧ t.psq.phase = .holding
    ∧ (∀ st p, recordAt t.gat st p = { inUse := false, zone := 0, priority := 0, state := .normal, condition := .normal, stamp := 0, firstOut := false, status := .empty, lastCause := .none })
    ∧ t.bus = { line := .seeking, queue := [], markSlot := none, heartbeatSlot := none, owedSnapshot := false, owedJoin := false, counter := 0, lastEnded := 0, streak := 0, rx := [], idleWait := .stopped, probe := .stopped, clash := false }
    ∧ (∀ a, t.member a = { presence := .absent, reported := none, expected := 0, sync := .inStep, attempts := 0, resyncOwed := false, replay := .none, silence := .stopped, resync := .stopped, replayTimer := .stopped })
    ∧ t.mbu.mode = .loading ∧ t.mbu.heartbeat = .stopped ∧ t.mbu.joinState = .closed ∧ t.mbu.joinWindow = .stopped
    ∧ (∀ b, t.pnl.button b = { pressed := false, count := 0, due := false })
    ∧ t.pnl.lampTest = false ∧ t.pnl.pendingAck = false ∧ t.pnl.pendingReset = false ∧ t.pnl.tickMode = .loading
    ∧ t.hrn = { horn := .quiet, ret := .none, level := 1, tone := 0, stage := .stopped, chime := .stopped }
    ∧ t.jnl = { journal := [.start], dropped := 0, inProgress := none }
    ∧ ∀ straps, exec (.coldStart (.powerOn straps)) s = exec (.resetRelease straps) t)
  ∧ ∀ (s : State) (straps : BitVec 4) (a : Addr), a.val = straps.toNat →
    (s.pins.resetLow = true → ∃ t, exec (.resetRelease straps) s = .next t
      ∧ t = { s with pins := { s.pins with resetLow := false, straps := straps }, loader := { s.loader with address := a }, mbu := { s.mbu with members := t.mbu.members } }
      ∧ t.own = a ∧ t.member a = { s.member a with presence := .self } ∧ ∀ b, b ≠ a → t.member b = s.member b)
    ∧ (s.pins.resetLow = false → exec (.resetRelease straps) s = .next s)

/-- MILLISECOND: local count and group time increase by one, the tick falls due at a multiple of 10, and nothing moves
while RESET is held low (R125, R127). -/
def Obligations.MillisecondAdvancesBothCounts : Prop :=
  ∀ s : State,
    (s.pins.resetLow = false → exec .millisecond s = .next
      { s with tmb := { localCount := s.tmb.localCount + 1, groupTime := s.tmb.groupTime + 1, markTimer := s.tmb.markTimer
                        tickDue := s.tmb.tickDue || decide ((s.tmb.localCount + 1).toNat % 10 = 0) } })
    ∧ (s.pins.resetLow = true → exec .millisecond s = .next s)

/-- READ_START: in LOADING a read starts once its start time, 50, 450 or 850 ms, is reached, and not before (R182; log
entry 3 for a command that comes later). The serial memory port: SCS is low in a read and high otherwise; SDO sends 03H, 00H,
00H, most significant bit first, and is low after them and outside a read; SCK, in 1112 periods, rests low (R181, R184; that
a period begins with its low half is log entry 21). -/
def Obligations.ReadsStartAtTheirTimes : Prop :=
  (∀ (s : State) (k start : Nat), (k, start) ∈ [(1, 50), (2, 450), (3, 850)] →
    s.pins.resetLow = false → s.mbu.mode = .loading → s.loader.load = .waiting → s.loader.readNumber = k →
    (start ≤ s.tmb.localCount.toNat → exec .readStart s = .next { s with loader := { s.loader with load := .reading } })
    ∧ (s.tmb.localCount.toNat < start → exec .readStart s = .next s))
  ∧ ∀ s : State,
    (s.loader.load = .reading → s.scsHigh = false
      ∧ (∀ period < 24, s.sdoHigh period = decide (period = 6 ∨ period = 7)) ∧ (∀ period, 24 ≤ period → s.sdoHigh period = false)
      ∧ (∀ period < 1112, s.sckHigh (2 * period) = false ∧ s.sckHigh (2 * period + 1) = true) ∧ ∀ half, 2224 ≤ half → s.sckHigh half = false)
    ∧ (s.loader.load ≠ .reading → s.scsHigh = true ∧ ∀ n, s.sdoHigh n = false ∧ s.sckHigh n = false)

/-- An image is accepted exactly when it passes the tests of R185 and every field of it those of R186, and the configuration
of an accepted one is what its bytes say by the layouts of section 10.3. -/
def Obligations.ImageAcceptedByItsTests : Prop :=
  ∀ image : List Byte, image.length = 136 →
    let b := fun i => imageByte image i
    ((decodeImage image).isSome = true ↔
      b 0 = 0x5A ∧ b 1 = 0x01 ∧ crc16 (image.take 134) = b 134 ++ b 135
      ∧ (b 2).toNat ≤ 3 ∧ (1 ≤ (b 3).toNat ∧ (b 3).toNat ≤ 20) ∧ (1 ≤ (b 4).toNat ∧ (b 4).toNat ≤ 16) ∧ 1 ≤ (b 5).toNat ∧ (b 6).toNat ≤ 3
      ∧ (∀ i ∈ [10, 11, 12, 13], (b i).toNat ≤ 7) ∧ (b 14).toNat ≤ 3 ∧ (1 ≤ (b 15).toNat ∧ (b 15).toNat ≤ 8) ∧ (b 16).toNat ≤ 1
      ∧ (∀ i ∈ [17, 18, 19, 132, 133], b i = 0)
      ∧ (∀ n < 16, b (20 + 5 * n) &&& 0x3F = 0 ∧ b (20 + 5 * n + 1) &&& 0x13 = 0
          ∧ (b (20 + 5 * n) &&& 0x80 ≠ 0 → b (20 + 5 * n + 1) &&& 0x0C ≠ 0)
          ∧ (b (20 + 5 * n + 4)).toNat ≤ 15 ∧ b (20 + 5 * n + 4) ≠ 1)
      ∧ ∀ n < 16, (b (100 + 2 * n)).toNat ≤ 3 ∧ (b (100 + 2 * n) = 0 → b (101 + 2 * n) = 0)
          ∧ (b (100 + 2 * n) = 2 → (b (101 + 2 * n)).toNat ≤ 7) ∧ (b (100 + 2 * n) = 3 → (b (101 + 2 * n)).toNat ≤ 15))
    ∧ ∀ c, decodeImage image = some c →
        (b 2).toNat = (match c.bitRate with
                       | .k62_5 => 0
                       | .k125 => 1
                       | .k250 => 2
                       | .k500 => 3)
        ∧ c.hCode = (b 3).toNat ∧ c.markSeconds = (b 4).toNat ∧ c.drainSeconds = (b 5).toNat
        ∧ (b 6).toNat = (match c.loggerRate with
                         | .b9600 => 0
                         | .b19200 => 1
                         | .b38400 => 2
                         | .b115200 => 3)
        ∧ c.panelMask = b 7 ∧ c.hornMask = b 8 ∧ c.journalMask = b 9
        ∧ c.tone1.val = (b 10).toNat ∧ c.tone2.val = (b 11).toNat ∧ c.tone3.val = (b 12).toNat ∧ c.chimeTone.val = (b 13).toNat
        ∧ (b 14).toNat = (match c.stage with
                          | .none => 0
                          | .s1 => 1
                          | .s2 => 2
                          | .s4 => 3)
        ∧ c.floor = (b 15).toNat
        ∧ (b 16).toNat = (match c.chime with
                          | .ms125 => 0
                          | .ms500 => 1)
        ∧ (∀ n : Point, let p := c.points.get n
            let block := fun k => b (20 + 5 * n.val + k)
            p.inUse = (block 0).getLsbD 7 ∧ p.polarity = (if (block 0).getLsbD 6 then .activeOpen else .activeClosed)
            ∧ p.zone.val = (block 1).toNat / 32 ∧ p.priority.val = (block 1).toNat / 4 % 4
            ∧ p.onDelay = (block 2).toNat ∧ p.offDelay = (block 3).toNat ∧ p.threshold.val = (block 4).toNat)
        ∧ ∀ n : Fin 16, let code := (b (100 + 2 * n.val)).toNat
            let argument := (b (101 + 2 * n.val)).toNat
            match c.lamps.get n with
            | .off => code = 0 ∧ argument = 0
            | .point st p => code = 1 ∧ argument = 16 * st.val + p.val
            | .zone z => code = 2 ∧ argument = z.val
            | .station st => code = 3 ∧ argument = st.val

/-- READ_COMPLETE with an accepted image, from LOADING as every run reaches it: the units take their configuration and
start, the station is JOINING with its MODE record, and its JOIN is the first entry of the transmit queue (R189). -/
def Obligations.AcceptedImageStartsTheUnits : Prop :=
  ∀ (s : State) (image : List Byte) (c : StationConfig), LoadingHolds s →
    image.length = 136 → decodeImage image = some c → s.pins.resetLow = false → s.mbu.mode = .loading → s.loader.load = .reading →
    ∃ t, exec (.readComplete image) s = .next t
      ∧ t = { s with loader := { s.loader with load := .accepted }, config := some c
                     fiu := { s.fiu with drainRunning := true, drainCount := 0 }
                     psq := { s.psq with points := t.psq.points }
                     tmb := { s.tmb with markTimer := .running s.tmb.localCount }
                     mbu := { s.mbu with mode := .joining, heartbeat := .running s.tmb.localCount (c.hCode * 100), joinState := .pending }
                     bus := { s.bus with queue := t.bus.queue, idleWait := .running s.tmb.localCount 20 }
                     jnl := t.jnl }
      ∧ (∀ p, t.point p = { s.point p with inUse := (c.points.get p).inUse, zone := (c.points.get p).zone, priority := (c.points.get p).priority })
      ∧ (∃ mask : BitVec 16, (∀ p : Point, mask.getLsbD p.val = (c.points.get p).inUse)
          ∧ t.bus.queue = [{ body := .join mask, disposition := .unsent, attempts := 0, seq := none }])
      ∧ t.jnl.journal = [.start, .mode s.own .joining .loadAccepted s.tmb.groupTime] ∧ t.jnl.dropped = 0
      ∧ t.jnl.inProgress = if s.pins.logrdyHigh then none else some (recordBytes .start)

/-- READ_COMPLETE with a refused image: the first two reads are followed by the next, and nothing else changes (R187); the
third halts the station with cause CONFIG FAULT, its units at their cold-start values (R188). -/
def Obligations.RefusedImageRetriesThenHalts : Prop :=
  ∀ (s : State) (image : List Byte), LoadingHolds s →
    image.length = 136 → decodeImage image = none → s.pins.resetLow = false → s.mbu.mode = .loading → s.loader.load = .reading →
    (s.loader.readNumber < 3 → exec (.readComplete image) s = .next
      { s with loader := { s.loader with load := .waiting, readNumber := s.loader.readNumber + 1 } })
    ∧ (s.loader.readNumber = 3 → exec (.readComplete image) s = .next
      { s with loader := { s.loader with load := .refused }, mbu := { s.mbu with mode := .halted .configFault }
               jnl := { journal := [.start, .mode s.own .halted .configFault s.tmb.groupTime], dropped := 0
                        inProgress := if s.pins.logrdyHigh then none else some (recordBytes .start) } })

/-! ## Ticks, field inputs and pushbuttons

At the commands that may reach the transmit queue the idle-wait timer runs on, starts or stops, as its conditions hold; none
restarts it (R78). -/

/-- TICK: in JOINING, ACTIVE and ISOLATED every in-use point is compared by the cases of R53, every button by those of
R136, a low pin reading as pressed, and the drain timer counts (R59); in the other modes no unit acts on the tick (R63,
R136). Where R53 or R136 changes a qualified condition or a debounced state, the mark `due` stands for it until
COUNTDOWN_EXPIRY or DEBOUNCE, and the mode and the group time of the tick are kept for them (R55, R151; log entry 4). -/
def Obligations.TickSamplesPointsAndButtons : Prop :=
  ∀ (s : State) (levels : BitVec 16) (l : ButtonLevels), s.tmb.tickDue = true →
    (s.runs = false → exec (.tick levels l) s = .next
      { s with tmb := { s.tmb with tickDue := false }, pins := { s.pins with points := levels, buttons := l } })
    ∧ (s.runs = true → (∀ p, (s.fieldPoint p).due = false) → s.drainReached = false → (∀ b, (s.pnl.button b).due = false) →
      ∃ t, exec (.tick levels l) s = .next t
        ∧ t = { s with tmb := { s.tmb with tickDue := false }, pins := { s.pins with points := levels, buttons := l }
                       fiu := { points := t.fiu.points, drainRunning := s.fiu.drainRunning
                                drainCount := if s.fiu.drainRunning then s.fiu.drainCount + 1 else s.fiu.drainCount
                                tickStamp := s.tmb.groupTime }
                       pnl := { s.pnl with ack := t.pnl.ack, reset := t.pnl.reset, silence := t.pnl.silence, test := t.pnl.test, tickMode := s.mbu.mode } }
        ∧ (∀ p, let c := s.conf.points.get p
                let f := s.fieldPoint p
                let closed := !levels.getLsbD p.val
                let r : Condition := if closed = (c.polarity == .activeClosed) then .active else .normal
                let d := if r = .active then c.onDelay else c.offDelay
                (c.inUse = false → t.fieldPoint p = f)
                ∧ (c.inUse = true →
                    (r = f.qualified → t.fieldPoint p = { f with raw := r, countdown := none })
                    ∧ (r ≠ f.qualified → f.countdown = none → d = 0 → t.fieldPoint p = { f with raw := r, due := true })
                    ∧ (r ≠ f.qualified → f.countdown = none → d ≠ 0 → t.fieldPoint p = { f with raw := r, countdown := some d })
                    ∧ (∀ n, 2 ≤ n → r ≠ f.qualified → f.countdown = some n → t.fieldPoint p = { f with raw := r, countdown := some (n - 1) })
                    ∧ (r ≠ f.qualified → f.countdown = some 1 → t.fieldPoint p = { f with raw := r, countdown := none, due := true })))
        ∧ ∀ b, let d := s.pnl.button b
               let pressed := match b with
                              | .ack => !l.ack
                              | .reset => !l.reset
                              | .silence => !l.silence
                              | .test => !l.test
               (pressed = d.pressed → t.pnl.button b = { d with count := 0 })
               ∧ (pressed ≠ d.pressed → d.count < 2 → t.pnl.button b = { d with count := d.count + 1 })
               ∧ (pressed ≠ d.pressed → 2 ≤ d.count → t.pnl.button b = { d with due := true }))

/-- COUNTDOWN_EXPIRY: the lowest point whose change is due is qualified, its field condition follows, and an ACTIVATE is
counted where the point has a threshold (R51, R53, R57); no other point and no other unit but the transmit queue changes. The
point moves by the grid of R29 in SETTLING and RUNNING and by R44 in HOLDING, and is SHELVED by the ACTIVATE that brings its
count to the threshold (R58). In RUNNING each transition is announced, and nothing else is (R36, R37, R38, R42, R48). -/
def Obligations.QualifiedChangeMovesThePoint : Prop :=
  ∀ (s : State) (p : Point), PointsAgree s.psq → s.runs = true → (s.fieldPoint p).due = true → (∀ q, q < p → (s.fieldPoint q).due = false) →
    let f := s.fieldPoint p
    let r := s.point p
    let threshold := (s.conf.points.get p).threshold.val
    let shelves := f.raw = .active ∧ threshold ≠ 0 ∧ f.chatter.val + 1 = threshold ∧ r.state ≠ .shelved
    ∃ t, exec (.countdownExpiry p) s = .next t ∧ IdleWaitSettled s t
      ∧ t = { s with fiu := { s.fiu with points := t.fiu.points }, psq := { s.psq with points := t.psq.points }, bus := { s.bus with queue := t.bus.queue, idleWait := t.bus.idleWait } }
      ∧ t.fieldPoint p = { f with qualified := f.raw, due := false, chatter := (t.fieldPoint p).chatter }
      ∧ (t.fieldPoint p).chatter.val = (if f.raw = .active ∧ threshold ≠ 0 then min 15 (f.chatter.val + 1) else f.chatter.val)
      ∧ (t.point p).field = f.raw
      ∧ (∀ q, q ≠ p → t.fieldPoint q = s.fieldPoint q ∧ t.point q = s.point q)
      ∧ (shelves → (t.point p).state = .shelved ∧ (t.point p).condition = .active ∧ (t.point p).stamp = s.tmb.groupTime ∧ (t.point p).cause = some .shelve)
      ∧ (¬ shelves → s.psq.phase ≠ .holding →
          (f.raw = .active → r.state = .normal ∨ r.state = .alert ∨ r.state = .returned →
            (t.point p).state = .alert ∧ (t.point p).condition = .active ∧ (t.point p).stamp = s.fiu.tickStamp ∧ (t.point p).cause = some .activate)
          ∧ (f.raw = .normal → r.state = .alert →
            (t.point p).state = .alert ∧ (t.point p).condition = .normal ∧ (t.point p).stamp = s.fiu.tickStamp ∧ (t.point p).cause = some .clear)
          ∧ (f.raw = .normal → r.state = .held →
            (t.point p).state = .returned ∧ (t.point p).condition = .normal ∧ (t.point p).stamp = s.fiu.tickStamp ∧ (t.point p).cause = some .clear)
          ∧ (r.state = .shelved → t.point p = { r with field := f.raw, condition := f.raw }))
      ∧ (¬ shelves → s.psq.phase = .holding →
          t.point p = { r with field := f.raw, condition := if r.state = .shelved then f.raw else r.condition })
      ∧ (s.psq.phase ≠ .running → t.bus.queue = s.bus.queue ∧ (t.point p).owed = r.owed ∧ (t.point p).missed = r.missed)
      ∧ (QueueHolds s → s.psq.phase = .running →
          (shelves → r.state = .held → Announced s.bus.queue s t [p] .shelve)
          ∧ (shelves → r.state ≠ .held → ShelvedAtOnce s t p)
          ∧ (¬ shelves → f.raw = .active → r.state = .normal ∨ r.state = .alert ∨ r.state = .returned → Announced s.bus.queue s t [p] .activate)
          ∧ (¬ shelves → f.raw = .normal → r.state = .alert ∨ r.state = .held → Announced s.bus.queue s t [p] .clear)
          ∧ (¬ shelves → (f.raw = .active ∧ (r.state = .held ∨ r.state = .shelved)) ∨ (f.raw = .normal ∧ (r.state = .normal ∨ r.state = .returned ∨ r.state = .shelved)) →
              t.bus.queue = s.bus.queue ∧ (t.point p).owed = r.owed ∧ (t.point p).missed = r.missed))

/-- A CLEAR that is a transition in RUNNING is announced (R36): in place of an unsent STATE of the point, in a new entry, or
by owing the point when the queue is full (R37, R38); in ISOLATED the new entry is looped back under counter + 1 (R42). -/
def Obligations.ClearIsAnnounced : Prop :=
  ∀ (s : State) (p : Point), s.runs = true → s.psq.phase = .running → (s.fieldPoint p).due = true → (∀ q, q < p → (s.fieldPoint q).due = false) →
    (s.fieldPoint p).raw = .normal → (s.point p).state = .alert ∨ (s.point p).state = .held →
    let r := s.point p
    let told := fun n : Count => ({ point := p, inUse := r.inUse, cause := .clear, state := if r.state = .alert then .alert else .returned, condition := .normal
                                    priority := r.priority, zone := r.zone, count := n, stamp := s.fiu.tickStamp } : StateBody)
    ∃ t, exec (.countdownExpiry p) s = .next t
      ∧ (∀ pre e post b n, s.bus.queue = pre ++ e :: post → (∀ x ∈ pre, x.unsentStateFor p = false) → e.unsentStateFor p = true → e.body = .state b → n.val = min 15 (b.count.val + 1) →
          t.bus.queue = pre ++ { e with body := .state (told n) } :: post ∧ (t.point p).owed = r.owed ∧ (t.point p).missed = r.missed)
      ∧ ((∀ x ∈ s.bus.queue, x.unsentStateFor p = false) → s.bus.queue.length < 24 →
          (t.point p).owed = false ∧ (t.point p).missed = 0
          ∧ t.bus.queue = s.bus.queue ++ [if s.mbu.mode = .isolated
              then { body := .state (told r.missed), disposition := .loopedBack, attempts := 0, seq := some (s.bus.counter + 1) }
              else { body := .state (told r.missed), disposition := .unsent, attempts := 0, seq := none }])
      ∧ ((∀ x ∈ s.bus.queue, x.unsentStateFor p = false) → 24 ≤ s.bus.queue.length →
          t.bus.queue = s.bus.queue ∧ (t.point p).owed = true ∧ (t.point p).missed.val = min 15 (r.missed.val + 1))

/-- DRAIN_TIMER_EXPIRY: every non-zero chatter count of an in-use point falls by one, the timer restarts, and a SHELVED
point whose count has become 0 is released by its qualified condition, announced in RUNNING, in ascending point order (R59,
R60, R44, R36). -/
def Obligations.DrainStepReleasesShelvedPoints : Prop :=
  ∀ s : State, s.runs = true → s.fiu.drainRunning = true → s.conf.drainSeconds * 100 ≤ s.fiu.drainCount → (∀ p, (s.fieldPoint p).due = false) →
    ∃ t, exec .drainTimerExpiry s = .next t ∧ IdleWaitSettled s t
      ∧ t = { s with fiu := { s.fiu with points := t.fiu.points, drainCount := 0 }, psq := { s.psq with points := t.psq.points }, bus := { s.bus with queue := t.bus.queue, idleWait := t.bus.idleWait } }
      ∧ (s.psq.phase ≠ .running → t.bus.queue = s.bus.queue)
      ∧ (QueueHolds s → s.psq.phase = .running →
          Announced s.bus.queue s t (indices.filter fun p => (s.conf.points.get p).inUse && (s.fieldPoint p).chatter == 1 && (s.point p).state == .shelved) .unshelve)
      ∧ ∀ p, let f := s.fieldPoint p
             let inUse := (s.conf.points.get p).inUse
             t.fieldPoint p = { f with chatter := (t.fieldPoint p).chatter }
             ∧ (t.fieldPoint p).chatter.val = (if inUse then f.chatter.val - 1 else f.chatter.val)
             ∧ (inUse = true ∧ f.chatter.val = 1 ∧ (s.point p).state = .shelved →
                 (t.point p).state = (if f.qualified = .active ∧ s.psq.phase ≠ .holding then .alert else .normal)
                 ∧ (t.point p).condition = (if s.psq.phase ≠ .holding then f.qualified else .normal)
                 ∧ (t.point p).field = f.qualified ∧ (t.point p).stamp = s.tmb.groupTime ∧ (t.point p).cause = some .unshelve)
             ∧ (¬ (inUse = true ∧ f.chatter.val = 1 ∧ (s.point p).state = .shelved) → t.point p = s.point p)

/-- DEBOUNCE: the debounced state takes the pin level and the count returns to 0; lamp test follows TEST; a release, TEST's
apart, does nothing more (R136, R137, R140). A pending flag changes at most at its own button (R139), and the mode kept from
the tick stays for the buttons due after this one (log entry 4). -/
def Obligations.DebounceTakesThePinLevel : Prop :=
  ∀ (s : State) (b : Button), s.runs = true → (s.pnl.button b).due = true → (∀ b' ∈ actedBefore b, (s.pnl.button b').due = false) →
    ∃ t, exec (.debounce b) s = .next t ∧ IdleWaitSettled s t
      ∧ t = { s with pnl := t.pnl, hrn := t.hrn, bus := { s.bus with queue := t.bus.queue, idleWait := t.bus.idleWait } }
      ∧ t.pnl.button b = { pressed := !(s.pnl.button b).pressed, count := 0, due := false }
      ∧ (∀ b', b' ≠ b → t.pnl.button b' = s.pnl.button b')
      ∧ t.pnl.tickMode = s.pnl.tickMode ∧ (b ≠ .ack → t.pnl.pendingAck = s.pnl.pendingAck) ∧ (b ≠ .reset → t.pnl.pendingReset = s.pnl.pendingReset)
      ∧ t.pnl.lampTest = (if b = .test then !(s.pnl.button b).pressed else s.pnl.lampTest)
      ∧ ((s.pnl.button b).pressed = true → t.hrn = s.hrn ∧ t.bus.queue = s.bus.queue ∧ t.pnl.pendingAck = s.pnl.pendingAck ∧ t.pnl.pendingReset = s.pnl.pendingReset)

/-- Presses. ACK or RESET: at a tick in ACTIVE or ISOLATED, with a panel mask, one frame is queued, or waits when the queue
is full; a set pending flag absorbs it, and at a tick in JOINING or with a mask of zero nothing is made (R138, R139, R151). The
entry is looped back at a tick in ISOLATED, whatever the mode has become since, and in ISOLATED (R90, R88); the mode of the tick
is kept by log entry 4. SILENCE is a silence claim and TEST a chime claim, settled by the horn's state, and neither reaches
the transmit queue or a pending flag (R140, R157, R160). -/
def Obligations.PressesReachTheirUnits : Prop :=
  (∀ (s : State) (b : Button) (body : TxBody) (pend other : Pnl → Bool),
    (b = .ack ∧ body = .ack s.conf.panelMask ∧ pend = Pnl.pendingAck ∧ other = Pnl.pendingReset)
      ∨ (b = .reset ∧ body = .reset s.conf.panelMask ∧ pend = Pnl.pendingReset ∧ other = Pnl.pendingAck) →
    s.runs = true → (s.pnl.button b).due = true → (∀ b' ∈ actedBefore b, (s.pnl.button b').due = false) → (s.pnl.button b).pressed = false →
    let asked := (s.pnl.tickMode = .active ∨ s.pnl.tickMode = .isolated) ∧ s.conf.panelMask ≠ 0
    ∃ t, exec (.debounce b) s = .next t ∧ t.hrn = s.hrn ∧ other t.pnl = other s.pnl ∧ t.pnl.tickMode = s.pnl.tickMode
      ∧ (¬ asked ∨ pend s.pnl = true → t.bus.queue = s.bus.queue ∧ pend t.pnl = pend s.pnl)
      ∧ (asked → pend s.pnl = false → s.bus.queue.length < 24 → pend t.pnl = false
          ∧ (s.pnl.tickMode = .isolated ∨ s.mbu.mode = .isolated →
              t.bus.queue = s.bus.queue ++ [{ body := body, disposition := .loopedBack, attempts := 0, seq := some s.bus.lastEnded }])
          ∧ (s.pnl.tickMode = .active → s.mbu.mode ≠ .isolated →
              t.bus.queue = s.bus.queue ++ [{ body := body, disposition := .unsent, attempts := 0, seq := none }]))
      ∧ (asked → pend s.pnl = false → 24 ≤ s.bus.queue.length → pend t.pnl = true ∧ t.bus.queue = s.bus.queue))
  ∧ ∀ (s : State) (b : Button), b = .silence ∨ b = .test →
    s.runs = true → (s.pnl.button b).due = true → (∀ b' ∈ actedBefore b, (s.pnl.button b').due = false) → (s.pnl.button b).pressed = false →
    ∃ t, exec (.debounce b) s = .next t ∧ t.bus.queue = s.bus.queue
      ∧ t.pnl.pendingAck = s.pnl.pendingAck ∧ t.pnl.pendingReset = s.pnl.pendingReset ∧ t.pnl.tickMode = s.pnl.tickMode
      ∧ (b = .silence → t.hrn = if s.hrn.horn = .sounding then { s.hrn with horn := .silenced, stage := .stopped } else s.hrn)
      ∧ (b = .test → ChimeClaimed s.conf s.tmb.localCount s.hrn t.hrn)

/-! ## The line -/

/-- BEGIN_FRAME: after a complete idle gap a station that is not held off offers the TIME MARK, else a head that is not
looped back, else the HEARTBEAT (R66, R76, R85), and the idle-wait timer stops: the contention field is an attempt in progress
(R78, log entry 8). With no candidate, or held off, it does not begin. -/
def Obligations.FrameOfLowestClassBegins : Prop :=
  ∀ (s : State) (c : Candidate), s.runs = true → s.bus.clash = false → s.bus.line = .gap →
    let headOffered := ∃ e, s.bus.queue.head? = some e ∧ e.disposition ≠ .loopedBack
    (s.bus.rx.length < 6 →
      (c = .markSlot ∧ s.bus.markSlot ≠ none)
      ∨ (c = .queueHead ∧ s.bus.markSlot = none ∧ headOffered)
      ∨ (c = .heartbeatSlot ∧ s.bus.markSlot = none ∧ ¬ headOffered ∧ s.bus.heartbeatSlot ≠ none) →
      exec .beginFrame s = .next { s with bus := { s.bus with line := .contending c, idleWait := .stopped } })
    ∧ (6 ≤ s.bus.rx.length ∨ (s.bus.markSlot = none ∧ ¬ headOffered ∧ s.bus.heartbeatSlot = none) → exec .beginFrame s = .next s)

/-- LOSE_CONTENTION, FRAME_ABANDONED and IDLE_GAP move the line and the idle-wait timer alone: queue, slots, attempts and
receive queue stay (R66, R67, R69, R78). A frame abandoned at an idle gap before its end leaves that gap complete, so that the
station may begin at it; in either order with IDLE_GAP it comes to the same (log entry 7). -/
def Obligations.LineEventsMoveTheLine : Prop :=
  ∀ s : State,
    (∀ c, s.bus.line = .contending c → ∃ t, exec .loseContention s = .next t
        ∧ t = { s with bus := { s.bus with line := .receiving, idleWait := t.bus.idleWait } } ∧ IdleWaitSettled s t)
    ∧ (∀ reason, reason = .dominantSeparator ∨ reason = .dominantStopBit ∨ reason = .lengthAbove112 →
        s.runs = true → s.bus.clash = false → s.bus.line = .gap ∨ s.bus.line = .receiving → ∃ t, exec (.frameAbandoned reason) s = .next t
        ∧ t = { s with bus := { s.bus with line := .seeking, idleWait := t.bus.idleWait } } ∧ IdleWaitSettled s t)
    ∧ (s.runs = true → s.bus.clash = false → s.bus.line = .gap ∨ s.bus.line = .receiving → ∃ t, exec (.frameAbandoned .idleGapBeforeEnd) s = .next t
        ∧ t = { s with bus := { s.bus with line := .gap, idleWait := t.bus.idleWait } } ∧ IdleWaitRestarted t ∧ exec .idleGap t = .next t)
    ∧ (s.runs = true → s.bus.clash = false → s.bus.line.own = none → ∃ t, exec .idleGap s = .next t
        ∧ t = { s with bus := { s.bus with line := .gap, idleWait := t.bus.idleWait } } ∧ IdleWaitRestarted t
        ∧ exec (.frameAbandoned .idleGapBeforeEnd) t = .next t)

/-- WIN_CONTENTION, an unsent STATE: it takes counter + 1 and its contents are fixed (R75, R81). -/
def Obligations.WonStateTakesItsNumber : Prop :=
  ∀ (s : State) (e : TxEntry) (rest : List TxEntry) (b : StateBody), s.bus.line = .contending .queueHead →
    s.bus.queue = e :: rest → e.body = .state b → e.disposition = .unsent →
    let n := s.bus.counter + 1
    exec .winContention s = .next
      { s with bus := { s.bus with counter := n, queue := { e with disposition := .begun, seq := some n } :: rest
                                   line := .sending .queueHead { src := s.own, seq := n, body := .state b }, idleWait := .stopped } }

/-- WIN_CONTENTION, an unsent SNAPSHOT: its contents are taken from the Point Table and the own marks, the unsent STATE
entries leave, every owed flag and missed count is cleared, and SETTLING becomes RUNNING; the entries freed go to the waiting
claims in the order of R74 (R41, R43, R75). -/
def Obligations.WonSnapshotSupersedes : Prop :=
  ∀ (s : State) (e : TxEntry) (rest : List TxEntry), s.bus.line = .contending .queueHead →
    s.bus.queue = e :: rest → e.body = .snapshot none → e.disposition = .unsent → e.seq = none →
    ∃ t es more, exec .winContention s = .next t
      ∧ (∀ p, es.get p = { inUse := (s.point p).inUse, firstOut := (recordAt s.gat s.own p).firstOut, status := .current, state := (s.point p).state
                           condition := (s.point p).condition, priority := (s.point p).priority, zone := (s.point p).zone, stamp := (s.point p).stamp })
      ∧ t.bus.queue = { e with body := .snapshot (some es), disposition := .begun } :: (rest.filter fun x => !x.unsentState) ++ more
      ∧ (∀ x ∈ more, x.unsentState = false)
      ∧ t.bus.line = .sending .queueHead { src := s.own, seq := s.bus.lastEnded, body := .snapshot es }
      ∧ (∀ p, t.point p = { s.point p with owed := false, missed := 0 })
      ∧ t.psq.phase = (if s.psq.phase = .settling then .running else s.psq.phase)
      ∧ (let freed : State :=
           { s with psq := { points := s.psq.points.map fun r => { r with owed := false, missed := 0 }, phase := t.psq.phase }
                    bus := { s.bus with line := t.bus.line, queue := { e with body := .snapshot (some es), disposition := .begun } :: rest.filter fun x => !x.unsentState } }
         t = { freed.served with bus := { freed.served.bus with idleWait := .stopped } })
      ∧ (NothingWaits s → more = [])

/-- WIN_CONTENTION, the other frames: a mark's time, a heartbeat's mode and a REPLAY's entries are fixed at the first win,
and the other classes change disposition alone (R72, R75, R97, R113, R130); a frame won again keeps its contents and a STATE
its number, while every other class takes the number of the latest STATE to have ended (R81, R82). -/
def Obligations.WonFrameFixesItsContents : Prop :=
  ∀ s : State,
    (∀ m, s.bus.line = .contending .markSlot → s.bus.markSlot = some m → m.time = none →
      exec .winContention s = .next
        { s with bus := { s.bus with markSlot := some { m with time := some s.tmb.groupTime }, idleWait := .stopped
                                     line := .sending .markSlot { src := s.own, seq := s.bus.lastEnded, body := .timeMark s.tmb.groupTime } } })
    ∧ (∀ h mode, s.bus.line = .contending .heartbeatSlot → s.bus.heartbeatSlot = some h → h.mode = none →
        (s.mbu.mode = .active ∧ mode = .active) ∨ (s.mbu.mode = .isolated ∧ mode = .isolated) ∨ (s.mbu.mode = .joining ∧ mode = .joining) →
        exec .winContention s = .next
          { s with bus := { s.bus with heartbeatSlot := some { h with mode := some mode }, idleWait := .stopped
                                       line := .sending .heartbeatSlot { src := s.own, seq := s.bus.lastEnded, body := .heartbeat mode } } })
    ∧ (∀ e rest target, s.bus.line = .contending .queueHead → s.bus.queue = e :: rest → e.body = .replay target none → e.disposition = .unsent → e.seq = none →
        ∃ es, exec .winContention s = .next
            { s with bus := { s.bus with queue := { e with body := .replay target (some es), disposition := .begun } :: rest, idleWait := .stopped
                                         line := .sending .queueHead { src := s.own, seq := s.bus.lastEnded, body := .replay target es } } }
          ∧ ∀ p, let r := recordAt s.gat target p
                 es.get p = { inUse := r.inUse, firstOut := r.firstOut, status := r.status, state := r.state, condition := r.condition, priority := r.priority, zone := r.zone, stamp := r.stamp })
    ∧ (∀ e rest body, s.bus.line = .contending .queueHead → s.bus.queue = e :: rest → e.disposition = .unsent → e.seq = none →
        (∃ mask, e.body = .ack mask ∧ body = .ack mask) ∨ (∃ mask, e.body = .reset mask ∧ body = .reset mask)
          ∨ (∃ target, e.body = .resyncRequest target ∧ body = .resyncRequest target) ∨ (∃ mask, e.body = .join mask ∧ body = .join mask) →
        exec .winContention s = .next
          { s with bus := { s.bus with queue := { e with disposition := .begun } :: rest, idleWait := .stopped
                                       line := .sending .queueHead { src := s.own, seq := s.bus.lastEnded, body := body } } })
    ∧ (∀ m time, s.bus.line = .contending .markSlot → s.bus.markSlot = some m → m.time = some time →
      exec .winContention s = .next
        { s with bus := { s.bus with idleWait := .stopped, line := .sending .markSlot { src := s.own, seq := s.bus.lastEnded, body := .timeMark time } } })
    ∧ (∀ h mode, s.bus.line = .contending .heartbeatSlot → s.bus.heartbeatSlot = some h → h.mode = some mode →
        exec .winContention s = .next
          { s with bus := { s.bus with idleWait := .stopped, line := .sending .heartbeatSlot { src := s.own, seq := s.bus.lastEnded, body := .heartbeat mode } } })
    ∧ (∀ e rest body, s.bus.line = .contending .queueHead → s.bus.queue = e :: rest → e.disposition = .begun → e.body.toBody = some body →
        exec .winContention s = .next
          { s with bus := { s.bus with idleWait := .stopped, line := .sending .queueHead { src := s.own, seq := e.seq.getD s.bus.lastEnded, body := body } } })

/-- TRANSMIT_ERROR and IDLE_WAIT_EXPIRY charge the frame one failed attempt, the idle-wait timer restarts, and everything else
is left; a probe has a single attempt and leaves its slot (R68, R77, R78, R91). -/
def Obligations.FailedAttemptIsCharged : Prop :=
  ∀ (s : State) (c : Candidate) (command : Instr) (line : Line) (charged : Bif), ChargesAttempt s c command line →
    (∃ k, s.bus.attemptsOf c = some k ∧ k < 7 ∧ charged = s.bus.withOneMore c)
      ∨ (c = .heartbeatSlot ∧ (∃ h, s.bus.heartbeatSlot = some h ∧ h.probe = true) ∧ charged = s.bus.without c) →
    ∃ t, exec command s = .next t ∧ t = { s with bus := { charged with line := line, idleWait := t.bus.idleWait } } ∧ IdleWaitRestarted t

/-- The eighth failed attempt discards the frame, at TRANSMIT_ERROR and at IDLE_WAIT_EXPIRY (R77, R78, R79, R80). A STATE: the
number it took stays consumed, and its point is announced anew by the entry the discard frees, unless an unsent STATE of the
point stands in the queue (R40, R74). A SNAPSHOT and a JOIN are owed again, and take the freed entry unless an unsent one
stands in the queue. REPLAY, ACK, RESET and RESYNC REQUEST are dropped, a TIME MARK lets a WAITING mark timer run (R129), and
a HEARTBEAT waits for its next period. Where other claims wait, the freed entry goes to the first of all of them, what the
discard owes included: a lower-numbered owed point before the discarded one (R39, R74). -/
def Obligations.DiscardedStateIsOwed : Prop :=
  ∀ (s : State) (c : Candidate) (command : Instr) (line : Line), ChargesAttempt s c command line → s.mbu.mode ≠ .isolated →
    s.bus.attemptsOf c = some 7 → s.bus.streak < 2 → s.bus.queue.length ≤ 24 →
    ∃ t, exec command s = .next t ∧ IdleWaitRestarted t
      ∧ (let rest := (s.bus.without c).queue
         let discarded : Option TxEntry := if c = .queueHead then s.bus.queue.head? else none
         let body := discarded.map TxEntry.body
         let owesPoint : Point → Bool := fun p => match body with
                                                 | some (.state b) => b.point == p && !rest.any (TxEntry.unsentStateFor p)
                                                 | _ => false
         let owesSnapshot : Bool := match body with
                                    | some (.snapshot _) => !rest.any TxEntry.unsentSnapshot
                                    | _ => false
         let owesJoin : Bool := match body with
                                | some (.join _) => !rest.any TxEntry.unsentJoin
                                | _ => false
         let freed : State :=
           { s with psq := { s.psq with points := .ofFn fun p => { s.point p with owed := (s.point p).owed || owesPoint p } }
                    tmb := { s.tmb with markTimer := if c = .markSlot ∧ s.tmb.markTimer = .waiting then .running s.tmb.localCount else s.tmb.markTimer }
                    bus := { s.bus.without c with line := line, streak := s.bus.streak + 1, owedSnapshot := s.bus.owedSnapshot || owesSnapshot, owedJoin := s.bus.owedJoin || owesJoin
                                                  lastEnded := match discarded with
                                                               | some ⟨.state _, _, _, some n⟩ => n
                                                               | _ => s.bus.lastEnded } }
         t = { freed.served with bus := { freed.served.bus with idleWait := t.bus.idleWait } })
      ∧ (NothingWaits s →
        t = { s with psq := { s.psq with points := t.psq.points }
                     tmb := { s.tmb with markTimer := if c = .markSlot ∧ s.tmb.markTimer = .waiting then .running s.tmb.localCount else s.tmb.markTimer }
                     bus := { s.bus.without c with line := line, queue := t.bus.queue, idleWait := t.bus.idleWait, streak := s.bus.streak + 1, lastEnded := t.bus.lastEnded } }
        ∧ (c ≠ .queueHead → t.bus.queue = s.bus.queue ∧ t.bus.lastEnded = s.bus.lastEnded ∧ ∀ p, t.point p = s.point p)
        ∧ ∀ e rest, c = .queueHead → s.bus.queue = e :: rest →
            let again := fun body => t.bus.queue = rest ++ [{ body := body, disposition := .unsent, attempts := 0, seq := none }]
            (∀ b, e.body = .state b → t.bus.lastEnded = e.seq.getD s.bus.lastEnded ∧ (∀ p, p ≠ b.point → t.point p = s.point p)
              ∧ (rest.any (TxEntry.unsentStateFor b.point) = true → t.bus.queue = rest ∧ t.point b.point = s.point b.point)
              ∧ (rest.any (TxEntry.unsentStateFor b.point) = false →
                  again (.state (announcement (s.point b.point) b.point (s.point b.point).missed)) ∧ t.point b.point = { s.point b.point with owed := false, missed := 0 }))
            ∧ ((∀ b, e.body ≠ .state b) → t.bus.lastEnded = s.bus.lastEnded ∧ ∀ p, t.point p = s.point p)
            ∧ (∀ contents, e.body = .snapshot contents →
                (rest.any TxEntry.unsentSnapshot = true → t.bus.queue = rest) ∧ (rest.any TxEntry.unsentSnapshot = false → again (.snapshot none)))
            ∧ (∀ mask, e.body = .join mask →
                (rest.any TxEntry.unsentJoin = true → t.bus.queue = rest) ∧ (rest.any TxEntry.unsentJoin = false → again (.join s.inUseMask)))
            ∧ ((∃ mask, e.body = .ack mask) ∨ (∃ mask, e.body = .reset mask) ∨ (∃ target contents, e.body = .replay target contents) ∨ (∃ target, e.body = .resyncRequest target) →
                t.bus.queue = rest))

/-- The discard that brings the failure streak to 3 in JOINING or ACTIVE isolates the station, at TRANSMIT_ERROR and at
IDLE_WAIT_EXPIRY: STATE, ACK, RESET and SNAPSHOT entries are looped back in order and the others dropped, an unsent SNAPSHOT
superseding the unsent STATE entries behind it (R88, R81, R82, R41); the entries freed go to the waiting claims in the order of
R74 under the limits of R90, what the discard owes among them (R40, R79, R88 step 4); slots and owed JOIN are emptied, replays cancelled, the mark timer released, the probe timer started, one MODE record offered (R80, R114,
R129). -/
def Obligations.ThirdDiscardIsolates : Prop :=
  ∀ (s : State) (c : Candidate) (command : Instr) (line : Line), BusAgrees s → ChargesAttempt s c command line → s.mbu.mode = .joining ∨ s.mbu.mode = .active →
    s.bus.attemptsOf c = some 7 → s.bus.streak = 2 → s.bus.queue.length ≤ 24 →
    let queue := (s.bus.without c).queue
    let looped := loopedQueue s s.bus.counter queue
    let supersedes := queue.any TxEntry.unsentSnapshot = true
    ∃ t more, exec command s = .next t ∧ IdleWaitRestarted t
      ∧ t.bus.queue = looped ++ more
      ∧ (let discarded : Option TxBody := if c = .queueHead then s.bus.queue.head?.map (·.body) else none
         let owesPoint : Point → Bool := fun p => match discarded with
                                                 | some (.state b) => b.point == p && !queue.any (TxEntry.unsentStateFor p)
                                                 | _ => false
         let owesSnapshot : Bool := match discarded with
                                    | some (.snapshot _) => !queue.any TxEntry.unsentSnapshot
                                    | _ => false
         let freed : State :=
            { s with psq := if queue.any TxEntry.unsentSnapshot then
                              { points := s.psq.points.map fun r => { r with owed := false, missed := 0 }, phase := if s.psq.phase = .settling then .running else s.psq.phase }
                            else { s.psq with points := .ofFn fun p => { s.point p with owed := (s.point p).owed || owesPoint p } }
                     mbu := { s.mbu with mode := .isolated, members := s.mbu.members.map fun m => { m with replay := .none, replayTimer := .stopped } }, jnl := t.jnl
                     tmb := { s.tmb with markTimer := match s.tmb.markTimer with
                                                      | .waiting => .running s.tmb.localCount
                                                      | .running start => .running start
                                                      | .stopped => .stopped }
                     bus := { s.bus with line := line, queue := looped, markSlot := none, heartbeatSlot := none, owedSnapshot := s.bus.owedSnapshot || owesSnapshot, owedJoin := false
                                         lastEnded := s.bus.counter, streak := 3, probe := .running s.tmb.localCount s.heartbeatMs } }
         t = { freed.served with bus := { freed.served.bus with idleWait := t.bus.idleWait } })
      ∧ (∀ a, t.member a = { s.member a with replay := .none, replayTimer := .stopped })
      ∧ (supersedes → t.psq.phase = (if s.psq.phase = .settling then .running else s.psq.phase) ∧ ∀ p, t.point p = { s.point p with owed := false, missed := 0 })
      ∧ Offered s t [.mode s.own .isolated .transmitFailure s.tmb.groupTime]
      ∧ (NothingWaits s →
          let body := if c = .queueHead then s.bus.queue.head?.map (·.body) else none
          let again := fun body => more = [{ body := body, disposition := .loopedBack, attempts := 0, seq := some (match body with
                                                                                                             | .state _ => s.bus.counter + 1
                                                                                                             | _ => s.bus.counter) }]
          (∀ b, body = some (.state b) → ¬ supersedes → queue.any (TxEntry.unsentStateFor b.point) = false →
            again (.state (announcement (s.point b.point) b.point (s.point b.point).missed)) ∧ t.psq.phase = s.psq.phase
              ∧ t.point b.point = { s.point b.point with owed := false, missed := 0 } ∧ ∀ p, p ≠ b.point → t.point p = s.point p)
          ∧ (∀ contents, body = some (.snapshot contents) → ¬ supersedes →
              again (.snapshot (some (snapshotEntries s))) ∧ t.psq.phase = (if s.psq.phase = .settling then .running else s.psq.phase) ∧ ∀ p, t.point p = { s.point p with owed := false, missed := 0 })
          ∧ ((∀ b, body = some (.state b) → supersedes ∨ queue.any (TxEntry.unsentStateFor b.point) = true) → (∀ contents, body = some (.snapshot contents) → supersedes) →
              more = [] ∧ (¬ supersedes → t.psq.phase = s.psq.phase ∧ ∀ p, t.point p = s.point p)))

/-- FRAME_COMPLETION, a frame that is no probe: it enters the own receive queue, leaves its entry or slot, the failure streak
returns to 0 and the idle-wait timer restarts; a STATE's number is the latest to have ended (R68, R78, R80, R82, R85). An entry
freed of a full queue goes to the first waiting claim in the order of R74, an owed point first, told with its missed count
(R39). In ISOLATED no head is on the line (R88). -/
def Obligations.CompletedFrameIsTaken : Prop :=
  ∀ (s : State) (c : Candidate) (f : Frame), s.bus.line = .sending c f → ¬ (c = .heartbeatSlot ∧ ∃ h, s.bus.heartbeatSlot = some h ∧ h.probe = true) →
    let freed : State :=
      { s with bus := { s.bus.without c with line := .seeking, streak := 0, rx := s.bus.rx ++ [{ frame := f, origin := .line }]
                                             lastEnded := if c = .queueHead ∧ f.body.cls = .state then f.seq else s.bus.lastEnded } }
    ∃ t, exec .frameCompletion s = .next t ∧ IdleWaitRestarted t
      ∧ t = { freed.served with bus := { freed.served.bus with idleWait := t.bus.idleWait } }
      ∧ (NothingWaits s ∨ (c ≠ .queueHead ∧ 24 ≤ s.bus.queue.length) → t = { freed with bus := { freed.bus with idleWait := t.bus.idleWait } })
      ∧ (c = .queueHead → s.bus.queue.length = 24 → s.mbu.mode ≠ .isolated → t = { freed.offered with bus := { freed.offered.bus with idleWait := t.bus.idleWait } })

/-- FRAME_COMPLETION of a probe ends the isolation: ACTIVE with a SNAPSHOT claim, or in HOLDING JOINING with a JOIN claim and
the join afresh: an OPEN join is PENDING again (R92, R116). The entries that stand stay in order, the claim of the exit goes
behind them or waits, and then the claims that R90 held back are offered what is free (R74; that they come after the exit's own
claim is log entry 19). A CLOSED join in HOLDING, for which R116 has no row, stays CLOSED (log entry 18). -/
def Obligations.CompletedProbeEndsIsolation : Prop :=
  ∀ (s : State) (h : HeartbeatSlot) (f : Frame), s.bus.line = .sending .heartbeatSlot f → s.bus.heartbeatSlot = some h → h.probe = true →
    let reopens : Bool := s.psq.phase = .holding ∧ s.mbu.joinState = .opened
    ∃ t, exec .frameCompletion s = .next t ∧ IdleWaitRestarted t
      ∧ (let ended : State :=
           { s with jnl := t.jnl
                    mbu := { s.mbu with mode := if s.psq.phase = .holding then .joining else .active
                                        joinState := if reopens then .pending else s.mbu.joinState, joinWindow := if reopens then .stopped else s.mbu.joinWindow }
                    bus := { s.bus with line := .seeking, heartbeatSlot := none, streak := 0, rx := s.bus.rx ++ [{ frame := f, origin := .line }], probe := .stopped } }
         let claimed := if s.psq.phase = .holding then ended.joinClaimed else ended.snapshotClaimed
         t = { claimed.served with bus := { claimed.served.bus with idleWait := t.bus.idleWait } })
      ∧ (∃ placed, t.bus.queue = s.bus.queue ++ placed ∧ ∀ x ∈ placed, x.disposition = .unsent)
      ∧ (∀ a, t.member a = { s.member a with resyncOwed := (t.member a).resyncOwed, replay := (t.member a).replay })
      ∧ (s.psq.phase ≠ .holding → t.bus.owedSnapshot = true ∨ t.bus.queue.any TxEntry.unsentSnapshot = true)
      ∧ (s.psq.phase = .holding → t.bus.owedJoin = true ∨ t.bus.queue.any TxEntry.unsentJoin = true)
      ∧ (NothingWaits s → s.bus.queue.length < 24 → (∀ x ∈ s.bus.queue, x.disposition = .loopedBack) →
          t.psq = s.psq ∧ t.pnl = s.pnl ∧ t.mbu.members = s.mbu.members ∧ t.bus.owedSnapshot = false ∧ t.bus.owedJoin = false
          ∧ t.bus.queue = s.bus.queue ++ [{ body := if s.psq.phase = .holding then .join s.inUseMask else .snapshot none, disposition := .unsent, attempts := 0, seq := none }])
      ∧ Offered s t [.mode s.own (if s.psq.phase = .holding then .joining else .active) .probeComplete s.tmb.groupTime]

/-- FRAME_RECEIVED: a valid frame of another station enters the receive queue if a place is free; an invalid one, and one
that finds no place, has no effect but on the line (R83, R84). -/
def Obligations.ValidFrameIsQueued : Prop :=
  ∀ (s : State) (bytes : List Byte), frameComplete bytes = true → s.runs = true → s.bus.clash = false → s.bus.line = .gap ∨ s.bus.line = .receiving →
    (∀ f, decodeFrame bytes = some f → f.src ≠ s.own → s.bus.rx.length < 6 → ∃ t, exec (.frameReceived bytes) s = .next t
        ∧ t = { s with bus := { s.bus with line := .seeking, rx := s.bus.rx ++ [{ frame := f, origin := .peer }], idleWait := t.bus.idleWait } } ∧ IdleWaitSettled s t)
    ∧ (decodeFrame bytes = none ∨ (∃ f, decodeFrame bytes = some f ∧ f.src ≠ s.own ∧ 6 ≤ s.bus.rx.length) → ∃ t, exec (.frameReceived bytes) s = .next t
        ∧ t = { s with bus := { s.bus with line := .seeking, idleWait := t.bus.idleWait } } ∧ IdleWaitSettled s t)

/-- An address clash: a valid frame under the own address stops the Bus Interface at once. The station halts when its receive
queue is empty: at ADDRESS_CLASH_HALT, or at the frame itself (R87, R124, R129, R164; that the halt may come at the frame is
log entry 11). -/
def Obligations.AddressClashHalts : Prop :=
  ∀ s : State, s.runs = true →
    (s.bus.clash = true → s.bus.rx = [] → ∃ t, exec .addressClashHalt s = .next t ∧ HaltedByClash s t)
    ∧ ∀ bytes f, frameComplete bytes = true → s.bus.clash = false → s.bus.line = .gap ∨ s.bus.line = .receiving → decodeFrame bytes = some f → f.src = s.own →
        (∀ e rest, s.bus.rx = e :: rest →
          exec (.frameReceived bytes) s = .next { s with bus := { s.bus with line := .seeking, clash := true, idleWait := .stopped, probe := .stopped } })
        ∧ (s.bus.rx = [] → ∃ t, exec (.frameReceived bytes) s = .next t ∧ HaltedByClash s t)

/-- LOOPBACK_PASSAGE: a looped-back head passes to the receive queue as the station's own frame, with the number it took
and the contents fixed at placement, when a place is free and no own attempt is in progress (R89). The entry freed of a full
queue goes to the first waiting claim, in ISOLATED under the limits of R90 (R74). -/
def Obligations.LoopedBackHeadPasses : Prop :=
  ∀ (s : State) (e : TxEntry) (rest : List TxEntry) (n : SeqNo) (body : Body), s.runs = true → s.bus.clash = false →
    s.bus.queue = e :: rest → e.disposition = .loopedBack → e.seq = some n → e.body.toBody = some body → s.bus.rx.length < 6 → s.bus.line.own = none →
    let freed : State := { s with bus := { s.bus with queue := rest, rx := s.bus.rx ++ [{ frame := { src := s.own, seq := n, body := body }, origin := .loopback }] } }
    ∃ t, exec .loopbackPassage s = .next t ∧ IdleWaitSettled s t
      ∧ t = { freed.served with bus := { freed.served.bus with idleWait := t.bus.idleWait } }
      ∧ (NothingWaits s → t = { freed with bus := { freed.bus with idleWait := t.bus.idleWait } })
      ∧ (s.bus.queue.length = 24 → (s.mbu.mode = .isolated → ∀ x ∈ rest, x.disposition = .loopedBack) →
          t = { freed.offered with bus := { freed.offered.bus with idleWait := t.bus.idleWait } })

/-! ## Deliveries

At every delivery the idle-wait timer runs on, starts or stops, as its conditions hold; none restarts it (R78). -/

/-- A peer's frame of a class other than JOIN and SNAPSHOT, at its Membership Unit stage: presence, silence timer, reported
mode and expected sequence, and a wait with its STALE claim when the source was ABSENT or shows a gap (R98, R100 to R103,
R105): the RESYNC REQUEST takes a free entry outside ISOLATED, and is owed otherwise (R73, R90). A STALE claim that changes a
record is reviewed by the horn and journaled once (R7, R24, R159, R171). The other member entries stay as they are; only a REPLAY
cancels one for its target, and may free an entry for what they wait for (R115, R74). The transmit queue is touched by nothing
else but the announcements of ACK and RESET, the claim of a RESYNC REQUEST and a REPLAY's withdrawal (R37, R107, R115), and by
nothing at all at TIME MARK, STATE and HEARTBEAT. For DELIVER_HEARTBEAT this is the whole effect. A HEARTBEAT or RESYNC
REQUEST of the station's own only leaves the receive queue. -/
def Obligations.PeerFrameSettlesTheStream : Prop :=
  ∀ (s : State) (e : RxEntry) (rest : List RxEntry), s.runs = true → s.bus.rx = e :: rest →
    let st := e.frame.src
    let c := e.frame.seq
    let m := s.member st
    let gap : Prop := match e.frame.body with
                      | .state _ => c ≠ m.expected
                      | .heartbeat mode => c ≠ m.expected - 1 ∨ mode = .isolated
                      | _ => c ≠ m.expected - 1
    let begins : Prop := m.presence = .absent ∨ (m.sync = .inStep ∧ gap)
    let placed : Bool := s.bus.queue.length < 24 ∧ s.mbu.mode ≠ .isolated
    (e.origin = .peer → m.presence ≠ .self → e.frame.body.cls ≠ .join → e.frame.body.cls ≠ .snapshot →
      ∃ t, exec e.frame.body.cls.delivery s = .next t ∧ IdleWaitSettled s t ∧ t.bus.rx = rest ∧ t.mbu.mode = s.mbu.mode
        ∧ t.fiu = s.fiu ∧ t.config = s.config ∧ t.pins = s.pins ∧ t.loader = s.loader
        ∧ (e.frame.body.cls = .heartbeat → t = { s with mbu := { s.mbu with members := t.mbu.members }, gat := t.gat, hrn := t.hrn, jnl := t.jnl
                                                        bus := { s.bus with queue := t.bus.queue, rx := rest, idleWait := t.bus.idleWait } })
        ∧ (e.frame.body.cls ≠ .replay → (∀ a, a ≠ st → t.member a = s.member a)
            ∧ (t.member st).replay = m.replay ∧ (t.member st).replayTimer = m.replayTimer ∧ (begins → (t.member st).resyncOwed = !placed) ∧ (¬ begins → (t.member st).resyncOwed = m.resyncOwed))
        ∧ (∀ target es, e.frame.body = .replay target es → ∀ a, a ≠ st →
            t.member a = { s.member a with resyncOwed := (t.member a).resyncOwed, replay := (t.member a).replay, replayTimer := if a = target then .stopped else (s.member a).replayTimer }
            ∧ (NothingWaits s → (t.member a).resyncOwed = (s.member a).resyncOwed ∧ (t.member a).replay = if a = target then .none else (s.member a).replay))
        ∧ (e.frame.body.cls = .timeMark ∨ e.frame.body.cls = .state ∨ e.frame.body.cls = .heartbeat →
            (begins → placed = true → t.bus.queue = s.bus.queue ++ [{ body := .resyncRequest st, disposition := .unsent, attempts := 0, seq := none }])
            ∧ (¬ begins ∨ placed = false → t.bus.queue = s.bus.queue))
        ∧ (t.member st).presence = .present ∧ (t.member st).expected = c + 1 ∧ (t.member st).silence = .running s.tmb.localCount (3 * s.heartbeatMs)
        ∧ (t.member st).reported = (match e.frame.body with
                                    | .heartbeat mode => some mode
                                    | _ => m.reported)
        ∧ (begins → (t.member st).sync = .awaiting ∧ (t.member st).attempts = 1 ∧ (t.member st).resync = .running s.tmb.localCount (2 * s.heartbeatMs)
            ∧ ((t.member st).resyncOwed = true ∨ ∃ x ∈ t.bus.queue, x.body = .resyncRequest st)
            ∧ ∀ p, (recordAt s.gat st p).status ≠ .empty → (recordAt t.gat st p).status = .stale)
        ∧ (¬ begins → (t.member st).sync = m.sync ∧ (t.member st).attempts = m.attempts ∧ (t.member st).resync = m.resync)
        ∧ (e.frame.body.cls ≠ .state →
            (begins → (∀ a, a ≠ st → t.gat.get a = s.gat.get a)
              ∧ ∀ p, recordAt t.gat st p = { recordAt s.gat st p with status := if (recordAt s.gat st p).status = .empty then .empty else .stale })
            ∧ (begins → (∃ p, (recordAt s.gat st p).status = .current ∨ (recordAt s.gat st p).status = .lost) →
                Reviewed s.conf t.gat s.hrn t.hrn ∧ Offered s t [.stationStale st s.tmb.groupTime])
            ∧ (begins → (∀ p, (recordAt s.gat st p).status = .empty ∨ (recordAt s.gat st p).status = .stale) → t.hrn = s.hrn ∧ t.jnl = s.jnl)
            ∧ (¬ begins → t.gat = s.gat ∧ t.hrn = s.hrn ∧ t.jnl = s.jnl)))
    ∧ (e.origin ≠ .peer → e.frame.body.cls = .heartbeat ∨ e.frame.body.cls = .resyncRequest →
      ∃ t, exec e.frame.body.cls.delivery s = .next t ∧ t = { s with bus := { s.bus with rx := rest, idleWait := t.bus.idleWait } } ∧ IdleWaitSettled s t)

/-- DELIVER_TIME_MARK: group time takes the carried value plus the allowance when that is forward, the mark timer restarts,
and an unsent mark leaves the slot (R131, R72); if it is in its contention field, that ends without an attempt and the station
receives (log entry 9), and the line changes in no other case. -/
def Obligations.DeliveredMarkMovesGroupTime : Prop :=
  ∀ (s : State) (e : RxEntry) (rest : List RxEntry) (carriedTime : Millis), s.runs = true → s.bus.rx = e :: rest → e.frame.body = .timeMark carriedTime →
    let received := carriedTime + (match s.conf.bitRate with
                                   | .k62_5 => 2
                                   | .k125 => 2
                                   | .k250 => 1
                                   | .k500 => 1)
    let d := (received - s.tmb.groupTime).toNat
    ∃ t, exec .deliverTimeMark s = .next t ∧ IdleWaitSettled s t
      ∧ t = { s with tmb := { s.tmb with groupTime := if 1 ≤ d ∧ d < 2 ^ 31 then received else s.tmb.groupTime
                                         markTimer := if s.tmb.markTimer = .stopped then .stopped else .running s.tmb.localCount }
                     bus := { s.bus with rx := rest, queue := t.bus.queue, idleWait := t.bus.idleWait
                                         line := if s.bus.line = .contending .markSlot ∧ s.bus.markSlot.any (fun m => m.time.isNone) = true then .receiving else s.bus.line
                                         markSlot := s.bus.markSlot.filter fun m => m.time.isSome }
                     mbu := { s.mbu with members := t.mbu.members }, gat := t.gat, hrn := t.hrn, jnl := t.jnl }
      ∧ (e.origin ≠ .peer → t.mbu = s.mbu ∧ t.gat = s.gat ∧ t.hrn = s.hrn ∧ t.jnl = s.jnl ∧ t.bus.queue = s.bus.queue)

/-- DELIVER_STATE: the named record takes the carried fields and the cause, EMPTY and LOST become STALE, and CURRENT stays
where no gap was shown; the other records keep everything but, at a gap, their status (R10, R11, R12). The horn: after the
review of a STALE claim that changed a record (R7), an entry into ALERT in the horn mask sounds it, or is a review where the
point is not in use (R20, R156); an entry into RETURNED in the mask is a chime claim (R21, R157), the review following it
(R163); any other change of state, in use, zone, priority or status is a review (R22, R159). The journal: the STATION STALE
record of that claim, then the TRANSITION record (R23, R24, R169), offered by R171. The station's own STATE touches no member
entry and no queue entry (R94, R98). -/
def Obligations.DeliveredStateReplacesItsRecord : Prop :=
  ∀ (s : State) (e : RxEntry) (rest : List RxEntry) (b : StateBody), s.runs = true → s.bus.rx = e :: rest → e.frame.body = .state b →
    let st := e.frame.src
    let old := recordAt s.gat st b.point
    let m := s.member st
    let inStep := e.origin ≠ .peer ∨ m.presence = .self ∨ (m.presence = .present ∧ (m.sync = .awaiting ∨ e.frame.seq = m.expected))
    let doubted := fun p => { recordAt s.gat st p with status := if inStep ∨ (recordAt s.gat st p).status = .empty then (recordAt s.gat st p).status else .stale }
    let claims := ¬ inStep ∧ ∃ p, (recordAt s.gat st p).status = .current ∨ (recordAt s.gat st p).status = .lost
    let masked := s.conf.hornMask.getLsbD b.zone.val = true
    let sounds := old.state ≠ .alert ∧ b.state = .alert ∧ masked
    let chimes := old.state ≠ .returned ∧ b.state = .returned ∧ masked
    ∃ t between horn stale transition, exec .deliverState s = .next t ∧ IdleWaitSettled s t
      ∧ (e.origin ≠ .peer → t.mbu = s.mbu ∧ t.bus.queue = s.bus.queue)
      ∧ t = { s with gat := t.gat, hrn := t.hrn, jnl := t.jnl, mbu := { s.mbu with members := t.mbu.members }
                     bus := { s.bus with rx := rest, queue := t.bus.queue, idleWait := t.bus.idleWait } }
      ∧ recordAt t.gat st b.point =
          { inUse := b.inUse, zone := b.zone, priority := b.priority, state := b.state, condition := b.condition, stamp := b.stamp, lastCause := .state b.cause
            firstOut := (recordAt t.gat st b.point).firstOut
            status := if old.status = .current ∧ inStep then .current else .stale }
      ∧ (∀ a, a ≠ st → t.gat.get a = s.gat.get a)
      ∧ (∀ p, p ≠ b.point → recordAt t.gat st p = doubted p)
      ∧ (∀ a p, recordAt between a p = if a = st then doubted p else recordAt s.gat a p)
      ∧ (claims → Reviewed s.conf between s.hrn horn ∧ stale = [JournalRecord.stationStale st s.tmb.groupTime])
      ∧ (¬ claims → horn = s.hrn ∧ stale = [])
      ∧ (sounds → b.inUse = true → Sounded s.conf t.gat s.tmb.localCount t.hrn)
      ∧ (sounds → b.inUse = false → Reviewed s.conf t.gat horn t.hrn)
      ∧ (chimes → ∃ h, ChimeClaimed s.conf s.tmb.localCount horn h ∧ Reviewed s.conf t.gat h t.hrn)
      ∧ (¬ sounds → ¬ chimes → ReviewDue (doubted b.point) (recordAt t.gat st b.point) → Reviewed s.conf t.gat horn t.hrn)
      ∧ (¬ sounds → ¬ chimes → ¬ ReviewDue (doubted b.point) (recordAt t.gat st b.point) → t.hrn = horn)
      ∧ (TransitionDue s.conf old (recordAt t.gat st b.point) → transition = [transitionOf st b.point (recordAt t.gat st b.point) b.count])
      ∧ (¬ TransitionDue s.conf old (recordAt t.gat st b.point) → transition = [])
      ∧ Offered s t (stale ++ transition)

/-- The first-out mark at a STATE: kept in ALERT, HELD and RETURNED while the zone stays, and received at the entry into
ALERT of a record whose zone is otherwise quiet and without a mark (R15, R16). -/
def Obligations.FirstOutMarkFollowsBusOrder : Prop :=
  ∀ (s : State) (e : RxEntry) (rest : List RxEntry) (b : StateBody), s.runs = true → s.bus.rx = e :: rest → e.frame.body = .state b →
    let st := e.frame.src
    let old := recordAt s.gat st b.point
    let standing := fun x : SeqState => x = .alert ∨ x = .held ∨ x = .returned
    ∃ t, exec .deliverState s = .next t
      ∧ ((recordAt t.gat st b.point).firstOut = true ↔
          (old.firstOut = true ∧ standing b.state ∧ b.zone = old.zone)
          ∨ (old.state ≠ .alert ∧ b.state = .alert
              ∧ ∀ st' p', (st', p') ≠ (st, b.point) → (recordAt s.gat st' p').zone = b.zone →
                  ¬ ((recordAt s.gat st' p').status ≠ .empty ∧ standing (recordAt s.gat st' p').state) ∧ (recordAt s.gat st' p').firstOut = false))
      ∧ ∀ st' p', (st', p') ≠ (st, b.point) → (recordAt t.gat st' p').firstOut = (recordAt s.gat st' p').firstOut

/-- DELIVER_ACK and DELIVER_RESET: in ACTIVE and ISOLATED with the sequencer RUNNING, an own in-use point of a masked zone
that stands in ALERT (RETURNED) both in the Point Table and in the own copy takes the request, and is announced, in ascending
point order, behind the RESYNC REQUEST of a wait that the frame begins; every other point, and every point otherwise, is left
(R32, R33, R34, R36, R37, R38, R105). -/
def Obligations.RequestsActOnShownPoints : Prop :=
  ∀ (s : State) (e : RxEntry) (rest : List RxEntry) (mask : ZoneMask) (command : Instr) (acts : SeqState) (cause : Cause), s.runs = true → s.bus.rx = e :: rest →
    (e.frame.body = .ack mask ∧ command = .deliverAck ∧ acts = .alert ∧ cause = .ack) ∨ (e.frame.body = .reset mask ∧ command = .deliverReset ∧ acts = .returned ∧ cause = .reset) →
    let open' := (s.mbu.mode = .active ∨ s.mbu.mode = .isolated) ∧ s.psq.phase = .running
    let applies := fun p => (s.point p).inUse = true ∧ mask.getLsbD (s.point p).zone.val = true ∧ (s.point p).state = acts ∧ (recordAt s.gat s.own p).state = acts
    ∃ t, exec command s = .next t ∧ IdleWaitSettled s t
      ∧ t = { s with psq := { s.psq with points := t.psq.points }, bus := { s.bus with rx := rest, queue := t.bus.queue, idleWait := t.bus.idleWait }
                     mbu := { s.mbu with members := t.mbu.members }, gat := t.gat, hrn := t.hrn, jnl := t.jnl }
      ∧ (∃ queue : List TxEntry,
          let m := s.member e.frame.src
          let requests := e.origin = .peer ∧ m.presence ≠ .self ∧ (m.presence = .absent ∨ (m.sync = .inStep ∧ e.frame.seq ≠ m.expected - 1))
                            ∧ s.mbu.mode ≠ .isolated ∧ s.bus.queue.length < 24
          (requests → queue = s.bus.queue ++ [{ body := .resyncRequest e.frame.src, disposition := .unsent, attempts := 0, seq := none }])
          ∧ (¬ requests → queue = s.bus.queue)
          ∧ (¬ open' → t.bus.queue = queue)
          ∧ (QueueHolds s → open' →
              Announced queue s t (indices.filter fun p => (s.point p).inUse && mask.getLsbD (s.point p).zone.val && (s.point p).state == acts && (recordAt s.gat s.own p).state == acts) cause))
      ∧ (e.origin ≠ .peer → t.mbu = s.mbu ∧ t.gat = s.gat ∧ t.hrn = s.hrn ∧ t.jnl = s.jnl)
      ∧ ∀ p, (open' ∧ applies p →
                (t.point p).state = (if acts = .returned then .normal else if (s.point p).condition = .active then .held else .returned)
                ∧ (t.point p).condition = (if acts = .returned then .normal else (s.point p).condition)
                ∧ (t.point p).stamp = s.tmb.groupTime ∧ (t.point p).cause = some cause ∧ (t.point p).field = (s.point p).field)
             ∧ (¬ (open' ∧ applies p) → t.point p = s.point p)

/-- DELIVER_SNAPSHOT: the sixteen records of the source take the entries' fields and become CURRENT, the last cause of a
changed record is SNAPSHOT, and no other block changes (R13, R19). A flagged entry in ALERT, HELD or RETURNED gives its
record the mark unless a record of another station, or a lower flagged record of the same zone, holds it (R18). The horn takes
the entered-ALERT and entered-RETURNED notices in ascending point order, then the one review (R19 to R22, R156, R157, R159,
R163). The journal takes the notice of the Membership Unit, then the TRANSITION records in ascending point order, with count 0
(R23, R104, R121, R169). -/
def Obligations.SnapshotReplacesTheBlock : Prop :=
  ∀ (s : State) (e : RxEntry) (rest : List RxEntry) (es : Tab Entry), s.runs = true → s.bus.rx = e :: rest → e.frame.body = .snapshot es →
    let st := e.frame.src
    let claims := fun p => (es.get p).firstOut = true ∧ ((es.get p).state = .alert ∨ (es.get p).state = .held ∨ (es.get p).state = .returned)
    ∃ t, exec .deliverSnapshot s = .next t ∧ IdleWaitSettled s t
      ∧ t = { s with gat := t.gat, hrn := t.hrn, jnl := t.jnl, mbu := { s.mbu with members := t.mbu.members, mode := t.mbu.mode }, bus := { s.bus with rx := rest, idleWait := t.bus.idleWait } }
      ∧ (∀ a, a ≠ st → t.gat.get a = s.gat.get a)
      ∧ (let alerts := fun p => (recordAt s.gat st p).state ≠ .alert ∧ (es.get p).state = .alert ∧ s.conf.hornMask.getLsbD (es.get p).zone.val = true
         let chimes := fun p => (recordAt s.gat st p).state ≠ .returned ∧ (es.get p).state = .returned ∧ s.conf.hornMask.getLsbD (es.get p).zone.val = true
         let sounds := ∃ p, alerts p ∧ (es.get p).inUse = true
         let chime := ∃ p, chimes p
         let reviews := ∃ p, ReviewDue (recordAt s.gat st p) (recordAt t.gat st p)
         let endsFirst := s.hrn.horn = .sounding ∧ (∀ a p, ¬ InAlertSet s.conf t.gat a p) ∧ ∃ p q, alerts p ∧ chimes q ∧ p < q
         (sounds → Sounded s.conf t.gat s.tmb.localCount t.hrn)
         ∧ (¬ sounds → chime → endsFirst → ∃ h, Reviewed s.conf t.gat s.hrn h ∧ ChimeClaimed s.conf s.tmb.localCount h t.hrn)
         ∧ (¬ sounds → chime → ¬ endsFirst → ∃ h, ChimeClaimed s.conf s.tmb.localCount s.hrn h ∧ Reviewed s.conf t.gat h t.hrn)
         ∧ (¬ sounds → ¬ chime → reviews → Reviewed s.conf t.gat s.hrn t.hrn)
         ∧ (¬ sounds → ¬ chime → ¬ reviews → t.hrn = s.hrn))
      ∧ (∃ notice,
          let joins := e.origin = .line ∧ s.mbu.mode = .joining
          let returns := e.origin = .peer ∧ (s.member st).presence = .present ∧ (s.member st).sync = .awaiting
          (joins → notice = [JournalRecord.mode s.own .active .joinComplete s.tmb.groupTime])
          ∧ (returns → notice = [JournalRecord.stationBack st s.tmb.groupTime])
          ∧ (¬ joins → ¬ returns → notice = [])
          ∧ Offered s t (notice ++ (indices.filter fun p => TransitionDue s.conf (recordAt s.gat st p) (recordAt t.gat st p)).map fun p => transitionOf st p (recordAt t.gat st p) 0))
      ∧ ∀ p, let old := recordAt s.gat st p
             let new := recordAt t.gat st p
             let x := es.get p
             let changed := old.inUse ≠ new.inUse ∨ old.zone ≠ new.zone ∨ old.priority ≠ new.priority ∨ old.state ≠ new.state ∨ old.condition ≠ new.condition ∨ old.stamp ≠ new.stamp ∨ old.firstOut ≠ new.firstOut
             new = { inUse := x.inUse, zone := x.zone, priority := x.priority, state := x.state, condition := x.condition, stamp := x.stamp
                     firstOut := new.firstOut, status := .current, lastCause := new.lastCause }
             ∧ (changed → new.lastCause = .snapshot) ∧ (¬ changed → new.lastCause = old.lastCause)
             ∧ (new.firstOut = true ↔
                 claims p ∧ (∀ a q, a ≠ st → (recordAt s.gat a q).firstOut = true → (recordAt s.gat a q).zone ≠ x.zone)
                   ∧ ∀ q, q < p → claims q → (es.get q).zone ≠ x.zone)

/-- DELIVER_SNAPSHOT in the Membership Unit: the station's own, completed on the bus, ends its join; a looped-back one
changes no mode; a peer's makes the entry IN STEP and ACTIVE, and ends a wait with a STATION BACK notice (R100, R104, R121). -/
def Obligations.SnapshotEndsJoinsAndWaits : Prop :=
  ∀ (s : State) (e : RxEntry) (rest : List RxEntry) (es : Tab Entry), s.runs = true → s.bus.rx = e :: rest → e.frame.body = .snapshot es →
    let st := e.frame.src
    let m := s.member st
    ∃ t, exec .deliverSnapshot s = .next t
      ∧ t.mbu.mode = (if e.origin = .line ∧ s.mbu.mode = .joining then .active else s.mbu.mode)
      ∧ (e.origin = .line → s.mbu.mode = .joining → s.jnl.journal.length < 64 → (.mode s.own .active .joinComplete s.tmb.groupTime : JournalRecord) ∈ t.jnl.journal)
      ∧ (∀ a, a ≠ st ∨ e.origin ≠ .peer → t.member a = s.member a)
      ∧ (e.origin = .peer → m.presence ≠ .self →
          let silence : Timer := .running s.tmb.localCount (3 * s.heartbeatMs)
          (m.presence = .present → m.sync = .awaiting →
            t.member st = { m with reported := some .active, expected := e.frame.seq + 1, sync := .inStep, attempts := 0, resync := .stopped, resyncOwed := false, silence := silence }
            ∧ (s.jnl.journal.length < 64 → (.stationBack st s.tmb.groupTime : JournalRecord) ∈ t.jnl.journal))
          ∧ (m.presence = .present → m.sync = .inStep → t.member st = { m with reported := some .active, expected := e.frame.seq + 1, silence := silence })
          ∧ (m.presence = .absent → t.member st = { m with presence := .present, reported := some .active, expected := e.frame.seq + 1, sync := .inStep, silence := silence }))

/-- DELIVER_REPLAY: this station's own REPLAY for the target is withdrawn unless it has begun, the other entries staying in
order; one from the bus for this station in an open join closes the join and, in HOLDING, is adopted and reconciled with the
field, the phase becoming SETTLING with the SNAPSHOT claimed; in ISOLATED a free entry loops that SNAPSHOT back at once, which
makes the phase RUNNING (R115, R119, R45, R46, R43, R90). The RESYNC REQUEST of a wait that the frame begins is queued or owed
first (R102, R105), the entry withdrawn goes to the waiting claims (R74, R75), and a contention with it ends (log entry 9). -/
def Obligations.ReplayWithdrawsAndIsAdopted : Prop :=
  ∀ (s : State) (e : RxEntry) (rest : List RxEntry) (target : Addr) (es : Tab Entry), s.runs = true → s.bus.rx = e :: rest → e.frame.body = .replay target es →
    let passed : Prop := e.origin = .peer ∧ target = s.own ∧ s.mbu.joinState = .opened
    let st := e.frame.src
    let m := s.member st
    let begins : Bool := e.origin = .peer ∧ (m.presence = .absent ∨ (m.presence = .present ∧ m.sync = .inStep ∧ e.frame.seq ≠ m.expected - 1))
    let requests : Bool := begins = true ∧ s.bus.queue.length < 24 ∧ s.mbu.mode ≠ .isolated
    ∃ t, exec .deliverReplay s = .next t ∧ IdleWaitSettled s t
      ∧ (t.member target).replay = .none ∧ (t.member target).replayTimer = .stopped ∧ t.bus.queue.any (TxEntry.unsentReplayFor target) = false
      ∧ (∀ x ∈ s.bus.queue, x.disposition ≠ .unsent → x ∈ t.bus.queue)
      ∧ (s.mbu.mode ≠ .isolated ∨ (∀ x ∈ s.bus.queue, x.disposition = .loopedBack) → ∃ more, t.bus.queue = (s.bus.queue.filter fun x => !x.unsentReplayFor target) ++ more)
      ∧ (let heard : State :=
           { s with gat := t.gat, hrn := t.hrn, jnl := t.jnl
                    mbu := { s.mbu with members := .ofFn fun a => { t.member a with resyncOwed := if begins = true ∧ a = st then !requests else (s.member a).resyncOwed
                                                                                    replay := if a = target then .none else (s.member a).replay } }
                    bus := { s.bus with rx := rest
                                        queue := if requests then s.bus.queue ++ [{ body := .resyncRequest st, disposition := .unsent, attempts := 0, seq := none }] else s.bus.queue } }
         let freed : State :=
           { heard with bus := { heard.bus with queue := heard.bus.queue.filter fun x => !x.unsentReplayFor target
                                                line := if s.bus.line = .contending .queueHead ∧ s.bus.queue.head?.any (TxEntry.unsentReplayFor target) = true then .receiving else s.bus.line } }
         let withdrawn := if s.bus.queue.any (TxEntry.unsentReplayFor target) then freed.served else heard
         let ended : State := { withdrawn with mbu := { withdrawn.mbu with joinState := .closed, joinWindow := .stopped } }
         let reconciled : State :=
           { ended with psq := { phase := .settling
                                 points := .ofFn fun p => { withdrawn.point p with state := (t.point p).state, condition := (t.point p).condition, stamp := (t.point p).stamp, cause := (t.point p).cause } } }
         let claimed := if passed ∧ s.psq.phase = .holding then reconciled.snapshotClaimed else if passed then ended else withdrawn
         t = { claimed with bus := { claimed.bus with idleWait := t.bus.idleWait } })
      ∧ (e.origin ≠ .peer ∨ m.presence = .self → t.gat = s.gat ∧ t.hrn = s.hrn ∧ t.jnl = s.jnl
          ∧ ∀ a, t.member a = { s.member a with resyncOwed := (t.member a).resyncOwed, replay := (t.member a).replay, replayTimer := if a = target then .stopped else (s.member a).replayTimer })
      ∧ (passed → t.mbu.joinState = .closed ∧ t.mbu.joinWindow = .stopped)
      ∧ (¬ passed → t.mbu.joinState = s.mbu.joinState ∧ t.mbu.joinWindow = s.mbu.joinWindow ∧ (t.psq.phase = .holding ↔ s.psq.phase = .holding))
      ∧ (¬ (passed ∧ s.psq.phase = .holding) → ∀ p, (t.point p).state = (s.point p).state ∧ (t.point p).condition = (s.point p).condition ∧ (t.point p).stamp = (s.point p).stamp ∧ (t.point p).cause = (s.point p).cause)
      ∧ (passed → s.psq.phase = .holding →
          t.psq.phase ≠ .holding
          ∧ (s.mbu.mode ≠ .isolated → t.psq.phase = .settling ∧ (t.bus.owedSnapshot = true ∨ t.bus.queue.any TxEntry.unsentSnapshot = true))
          ∧ (s.mbu.mode = .isolated → (t.psq.phase = .settling ∧ t.bus.owedSnapshot = true) ∨ (t.psq.phase = .running ∧ ∃ x ∈ t.bus.queue, ∃ es, x.body = .snapshot (some es)))
          ∧ ∀ p, let r := s.point p
                 let x := es.get p
                 let adopted : SeqState × Condition := match x.state with
                                                      | .normal => (.normal, .normal)
                                                      | .alert => (.alert, x.condition)
                                                      | .held => (.held, .active)
                                                      | .returned => (.returned, .normal)
                                                      | .shelved => (.normal, .normal)
                 (r.inUse = false ∨ r.state = .shelved → (t.point p).state = r.state ∧ (t.point p).condition = r.condition ∧ (t.point p).stamp = r.stamp)
                 ∧ (r.inUse = true → r.state ≠ .shelved →
                     (adopted.2 = r.field → (t.point p).state = adopted.1 ∧ (t.point p).condition = adopted.2 ∧ (t.point p).stamp = x.stamp ∧ (t.point p).cause = r.cause)
                     ∧ (adopted.2 = .normal → r.field = .active → (t.point p).state = .alert ∧ (t.point p).condition = .active ∧ (t.point p).stamp = s.tmb.groupTime ∧ (t.point p).cause = some .activate)
                     ∧ (adopted.2 = .active → r.field = .normal → (t.point p).state = (if adopted.1 = .held then .returned else .alert) ∧ (t.point p).condition = .normal ∧ (t.point p).stamp = s.tmb.groupTime ∧ (t.point p).cause = some .clear)))

/-- DELIVER_RESYNC_REQUEST: aimed at this station in ACTIVE it claims a SNAPSHOT; aimed elsewhere, or in JOINING or
ISOLATED, it claims none (R107). Before it the queue takes the RESYNC REQUEST of a wait that the frame begins, outside ISOLATED
in a free entry (R102, R105, R73); Point Table and panel stay, and of the rest only what O28 says of copy, horn, journal and
member entries changes. -/
def Obligations.ResyncRequestClaimsASnapshot : Prop :=
  ∀ (s : State) (e : RxEntry) (rest : List RxEntry) (target : Addr), s.runs = true → s.bus.rx = e :: rest → e.frame.body = .resyncRequest target → e.origin = .peer →
    let st := e.frame.src
    let m := s.member st
    let begins : Bool := m.presence = .absent ∨ (m.presence = .present ∧ m.sync = .inStep ∧ e.frame.seq ≠ m.expected - 1)
    let requests : Bool := begins = true ∧ s.bus.queue.length < 24 ∧ s.mbu.mode ≠ .isolated
    let heard : State :=
      { s with bus := { s.bus with rx := rest
                                   queue := if requests then s.bus.queue ++ [{ body := .resyncRequest st, disposition := .unsent, attempts := 0, seq := none }] else s.bus.queue } }
    let claimed := if target = s.own ∧ s.mbu.mode = .active then heard.snapshotClaimed else heard
    ∃ t, exec .deliverResyncRequest s = .next t ∧ t.psq = s.psq ∧ t.pnl = s.pnl ∧ IdleWaitSettled s t
      ∧ t = { claimed with gat := t.gat, hrn := t.hrn, jnl := t.jnl, mbu := { s.mbu with members := t.mbu.members }, bus := { claimed.bus with idleWait := t.bus.idleWait } }
      ∧ (target = s.own → s.mbu.mode = .active → t.bus.owedSnapshot = true ∨ t.bus.queue.any TxEntry.unsentSnapshot = true)
      ∧ (target ≠ s.own ∨ s.mbu.mode ≠ .active → t.bus.owedSnapshot = s.bus.owedSnapshot ∧ t.bus.queue.any TxEntry.unsentSnapshot = s.bus.queue.any TxEntry.unsentSnapshot)

/-- DELIVER_JOIN of a peer: PRESENT, JOINING, awaited with attempts 0 toward 4H, its block STALE; at an ACTIVE station a
SNAPSHOT is claimed, and a REPLAY scheduled after the replay wait when this copy has something for a joiner with points
(R108, R109, R111, R8; the expected sequence is c + 1, log entry 10). Of the station's own: a PENDING join opens with its
window of 3H, and the own block is marked (R118, R8). A marking that changes a record is reviewed by the horn and journaled
once (R8, R24, R159, R171). -/
def Obligations.JoinIsAnsweredOrOpensTheWindow : Prop :=
  (∀ (s : State) (e : RxEntry) (rest : List RxEntry) (mask : BitVec 16), s.runs = true → s.bus.rx = e :: rest → e.frame.body = .join mask → e.origin = .peer →
    let st := e.frame.src
    let m := s.member st
    m.presence ≠ .self →
    let schedules := s.mbu.mode = .active ∧ (∃ p, (recordAt s.gat st p).status ≠ .empty) ∧ mask ≠ 0 ∧ m.replay = .none
    let heard : State := { s with bus := { s.bus with rx := rest } }
    let claimed := if s.mbu.mode = .active then heard.snapshotClaimed else heard
    ∃ t, exec .deliverJoin s = .next t ∧ t.psq = s.psq ∧ t.pnl = s.pnl ∧ IdleWaitSettled s t
      ∧ t = { claimed with gat := t.gat, hrn := t.hrn, jnl := t.jnl, mbu := { s.mbu with members := t.mbu.members }, bus := { claimed.bus with idleWait := t.bus.idleWait } }
      ∧ (∀ a, a ≠ st → t.member a = s.member a)
      ∧ t.member st = { m with presence := .present, reported := some .joining, expected := e.frame.seq + 1, sync := .awaiting, attempts := 0, resyncOwed := false
                               silence := .running s.tmb.localCount (3 * s.heartbeatMs), resync := .running s.tmb.localCount (4 * s.heartbeatMs)
                               replay := (t.member st).replay, replayTimer := (t.member st).replayTimer }
      ∧ (∀ p, recordAt t.gat st p = { recordAt s.gat st p with status := if (recordAt s.gat st p).status = .empty then .empty else .stale })
      ∧ (∀ a, a ≠ st → t.gat.get a = s.gat.get a)
      ∧ ((∃ p, (recordAt s.gat st p).status = .current ∨ (recordAt s.gat st p).status = .lost) → Reviewed s.conf t.gat s.hrn t.hrn ∧ Offered s t [.stationStale st s.tmb.groupTime])
      ∧ ((∀ p, (recordAt s.gat st p).status = .empty ∨ (recordAt s.gat st p).status = .stale) → t.hrn = s.hrn ∧ t.jnl = s.jnl)
      ∧ (s.mbu.mode = .active → t.bus.owedSnapshot = true ∨ t.bus.queue.any TxEntry.unsentSnapshot = true)
      ∧ (s.mbu.mode ≠ .active → t.bus.queue = s.bus.queue ∧ t.bus.owedSnapshot = s.bus.owedSnapshot ∧ (t.member st).replay = m.replay)
      ∧ (schedules → s.bus.queue.any (TxEntry.unsentReplayFor st) = false → (t.member st).replay = .scheduled ∧ (t.member st).replayTimer = .running s.tmb.localCount ((s.own.val + 1) * 10))
      ∧ (¬ schedules ∨ s.bus.queue.any (TxEntry.unsentReplayFor st) = true → (t.member st).replay = m.replay ∧ (t.member st).replayTimer = m.replayTimer))
  ∧ ∀ (s : State) (e : RxEntry) (rest : List RxEntry) (mask : BitVec 16), s.runs = true → s.bus.rx = e :: rest → e.frame.body = .join mask → e.origin ≠ .peer →
    ∃ t, exec .deliverJoin s = .next t ∧ IdleWaitSettled s t
      ∧ t = { s with mbu := if s.mbu.joinState = .pending then { s.mbu with joinState := .opened, joinWindow := .running s.tmb.localCount (3 * s.heartbeatMs) } else s.mbu
                     bus := { s.bus with rx := rest, idleWait := t.bus.idleWait }, gat := t.gat, hrn := t.hrn, jnl := t.jnl }
      ∧ (∀ p, recordAt t.gat e.frame.src p = { recordAt s.gat e.frame.src p with status := if (recordAt s.gat e.frame.src p).status = .empty then .empty else .stale })
      ∧ (∀ a, a ≠ e.frame.src → t.gat.get a = s.gat.get a)
      ∧ ((∃ p, (recordAt s.gat e.frame.src p).status = .current ∨ (recordAt s.gat e.frame.src p).status = .lost) → Reviewed s.conf t.gat s.hrn t.hrn ∧ Offered s t [.stationStale e.frame.src s.tmb.groupTime])
      ∧ ((∀ p, (recordAt s.gat e.frame.src p).status = .empty ∨ (recordAt s.gat e.frame.src p).status = .stale) → t.hrn = s.hrn ∧ t.jnl = s.jnl)

/-! ## Timers -/

/-- HEARTBEAT_TIMER_EXPIRY, PROBE_TIMER_EXPIRY and MARK_TIMER_EXPIRY: each timer moves by its rule and fills its empty slot
where the mode allows; a full slot is left as it is (R72, R91, R97, R129, R130). -/
def Obligations.BeaconTimersFillTheirSlots : Prop :=
  ∀ (s : State) (start : Millis), let now := s.tmb.localCount
    (s.runs = true → s.mbu.heartbeat = .running start s.heartbeatMs → s.heartbeatMs ≤ (now - start).toNat →
      ∃ t, exec .heartbeatTimerExpiry s = .next t ∧ IdleWaitSettled s t ∧ t =
        { s with mbu := { s.mbu with heartbeat := .running now s.heartbeatMs }
                 bus := { s.bus with idleWait := t.bus.idleWait
                                     heartbeatSlot := if s.mbu.mode ≠ .isolated ∧ s.bus.heartbeatSlot = none then some { attempts := 0, mode := none, probe := false } else s.bus.heartbeatSlot } })
    ∧ (s.mbu.mode = .isolated → s.bus.probe = .running start s.heartbeatMs → s.heartbeatMs ≤ (now - start).toNat →
      ∃ t, exec .probeTimerExpiry s = .next t ∧ IdleWaitSettled s t ∧ t =
        { s with bus := { s.bus with idleWait := t.bus.idleWait, probe := .running now s.heartbeatMs
                                     heartbeatSlot := if s.bus.heartbeatSlot = none then some { attempts := 0, mode := none, probe := true } else s.bus.heartbeatSlot } })
    ∧ (s.runs = true → s.tmb.markTimer = .running start → s.conf.markSeconds * 1000 ≤ (now - start).toNat →
      ∃ t, exec .markTimerExpiry s = .next t ∧ IdleWaitSettled s t ∧ t =
        { s with tmb := { s.tmb with markTimer := if s.mbu.mode = .isolated then .running now else .waiting }
                 bus := { s.bus with idleWait := t.bus.idleWait
                                     markSlot := if s.mbu.mode ≠ .isolated ∧ s.bus.markSlot = none then some { attempts := 0, time := none } else s.bus.markSlot } })

/-- SILENCE_TIMER_EXPIRY, and RESYNC_TIMER_EXPIRY at attempts 3, declare the peer absent: its entry is cleared as R99 says,
and its records become LOST with one review and one notice, if one changes (R99, R106, R6, R24, R159, R171). The silence timer
touches nothing of the Bus Interface. -/
def Obligations.ExpiryDeclaresThePeerAbsent : Prop :=
  ∀ (s : State) (st : Addr) (start : Millis) (toward : Nat) (command : Instr), s.runs = true → toward ≤ (s.tmb.localCount - start).toNat →
    (command = .silenceTimerExpiry st ∧ (s.member st).presence = .present ∧ (s.member st).silence = .running start toward)
      ∨ (command = .resyncTimerExpiry st ∧ (s.member st).sync = .awaiting ∧ (s.member st).resync = .running start toward ∧ (s.member st).attempts = 3) →
    ∃ t, exec command s = .next t ∧ (command = .silenceTimerExpiry st → t.bus = s.bus) ∧ (command = .resyncTimerExpiry st → IdleWaitSettled s t)
      ∧ t = { s with mbu := { s.mbu with members := t.mbu.members }, gat := t.gat, hrn := t.hrn, jnl := t.jnl, bus := { s.bus with idleWait := t.bus.idleWait } }
      ∧ t.member st = { presence := .absent, reported := none, expected := (s.member st).expected, sync := .inStep, attempts := 0, resyncOwed := false, replay := .none, silence := .stopped, resync := .stopped, replayTimer := .stopped }
      ∧ (∀ a, a ≠ st → t.member a = s.member a ∧ t.gat.get a = s.gat.get a)
      ∧ (∀ p, recordAt t.gat st p = { recordAt s.gat st p with status := if (recordAt s.gat st p).status = .empty then .empty else .lost })
      ∧ ((∃ p, (recordAt s.gat st p).status = .current ∨ (recordAt s.gat st p).status = .stale) →
          Reviewed s.conf t.gat s.hrn t.hrn ∧ Offered s t [.stationLost st s.tmb.groupTime])
      ∧ ((∀ p, (recordAt s.gat st p).status = .empty ∨ (recordAt s.gat st p).status = .lost) → t.jnl = s.jnl ∧ t.hrn = s.hrn)

/-- RESYNC_TIMER_EXPIRY at attempts 0, 1 or 2 renews the wait: one attempt more, the timer toward 2H, a RESYNC REQUEST owed
(R105, R106). REPLAY_TIMER_EXPIRY makes the replay DUE (R112). Each claim is placed at once where an entry is free outside
ISOLATED, and waits otherwise (R73, R90); the idle-wait timer runs on, starts or stops (R78). -/
def Obligations.TimedClaimsAreQueuedOrWait : Prop :=
  ∀ (s : State) (st : Addr) (start : Millis) (toward : Nat), s.runs = true → toward ≤ (s.tmb.localCount - start).toNat →
    let placed := s.bus.queue.length < 24 ∧ s.mbu.mode ≠ .isolated
    ((s.member st).sync = .awaiting → (s.member st).resync = .running start toward → (s.member st).attempts < 3 →
      ∃ t, exec (.resyncTimerExpiry st) s = .next t ∧ IdleWaitSettled s t
        ∧ t = { s with mbu := { s.mbu with members := t.mbu.members }, bus := { s.bus with queue := t.bus.queue, idleWait := t.bus.idleWait } }
        ∧ (∀ a, a ≠ st → t.member a = s.member a)
        ∧ t.member st = { s.member st with attempts := (s.member st).attempts + 1, resync := .running s.tmb.localCount (2 * s.heartbeatMs), resyncOwed := (t.member st).resyncOwed }
        ∧ (placed → (t.member st).resyncOwed = false ∧ t.bus.queue = s.bus.queue ++ [{ body := .resyncRequest st, disposition := .unsent, attempts := 0, seq := none }])
        ∧ (¬ placed → (t.member st).resyncOwed = true ∧ t.bus.queue = s.bus.queue))
    ∧ ((s.member st).replay = .scheduled → (s.member st).replayTimer = .running start toward →
      ∃ t, exec (.replayTimerExpiry st) s = .next t ∧ IdleWaitSettled s t
        ∧ t = { s with mbu := { s.mbu with members := t.mbu.members }, bus := { s.bus with queue := t.bus.queue, idleWait := t.bus.idleWait } }
        ∧ (∀ a, a ≠ st → t.member a = s.member a)
        ∧ (placed → t.member st = { s.member st with replay := .none, replayTimer := .stopped }
            ∧ t.bus.queue = s.bus.queue ++ [{ body := .replay st none, disposition := .unsent, attempts := 0, seq := none }])
        ∧ (¬ placed → t.member st = { s.member st with replay := .due, replayTimer := .stopped } ∧ t.bus.queue = s.bus.queue))

/-- JOIN_WINDOW_EXPIRY: the join closes; in HOLDING the points are reconciled with their fields from where they stand, the
SNAPSHOT is claimed by R73, in ISOLATED by R90, and the phase leaves HOLDING; outside ISOLATED no other claim is served
(R120, R46, R47, R49). -/
def Obligations.JoinWindowEndsInAFreshStart : Prop :=
  ∀ (s : State) (start : Millis) (toward : Nat), s.runs = true → s.mbu.joinState = .opened → s.mbu.joinWindow = .running start toward → toward ≤ (s.tmb.localCount - start).toNat →
    ∃ t, exec .joinWindowExpiry s = .next t ∧ IdleWaitSettled s t
      ∧ (let ended : State := { s with mbu := { s.mbu with joinState := .closed, joinWindow := .stopped } }
         let reconciled : State :=
           { ended with psq := { phase := .settling
                                 points := .ofFn fun p => { s.point p with state := (t.point p).state, condition := (t.point p).condition, stamp := (t.point p).stamp, cause := (t.point p).cause } } }
         let claimed := if s.psq.phase = .holding then reconciled.snapshotClaimed else ended
         t = { claimed with bus := { claimed.bus with idleWait := t.bus.idleWait } })
      ∧ (s.mbu.mode ≠ .isolated → t.mbu.members = s.mbu.members ∧ t.pnl = s.pnl ∧ t.bus.owedJoin = s.bus.owedJoin)
      ∧ (s.psq.phase ≠ .holding → t.psq = s.psq ∧ t.bus.queue = s.bus.queue)
      ∧ (s.psq.phase = .holding →
          t.psq.phase ≠ .holding
          ∧ (s.mbu.mode ≠ .isolated → t.psq.phase = .settling ∧ (t.bus.owedSnapshot = true ∨ t.bus.queue.any TxEntry.unsentSnapshot = true))
          ∧ (s.mbu.mode = .isolated → (t.psq.phase = .settling ∧ t.bus.owedSnapshot = true) ∨ (t.psq.phase = .running ∧ ∃ x ∈ t.bus.queue, ∃ es, x.body = .snapshot (some es)))
          ∧ ∀ p, let r := s.point p
                 (r.inUse = true → r.state = .normal → r.condition = .normal → r.field = .active →
                   (t.point p).state = .alert ∧ (t.point p).condition = .active ∧ (t.point p).stamp = s.tmb.groupTime ∧ (t.point p).cause = some .activate)
                 ∧ (r.inUse = false ∨ r.state = .shelved ∨ (r.state = .normal ∧ r.condition = r.field) →
                   (t.point p).state = r.state ∧ (t.point p).condition = r.condition ∧ (t.point p).stamp = r.stamp ∧ (t.point p).cause = r.cause))

/-- STAGE_TIMER_EXPIRY raises the level by one and restarts below the floor; CHIME_TIMER_EXPIRY returns the horn to the
state its chime started from, as reviews have changed it (R158, R162). -/
def Obligations.HornTimersStepTheEnvelope : Prop :=
  ∀ (s : State) (start : Millis) (toward : Nat), s.runs = true → toward ≤ (s.tmb.localCount - start).toNat →
    (s.hrn.horn = .sounding → s.hrn.stage = .running start toward →
      exec .stageTimerExpiry s = .next
        { s with hrn := { s.hrn with level := s.hrn.level + 1
                                     stage := if s.hrn.level + 1 < s.conf.floor then
                                                match s.conf.stage with
                                                | .none => .stopped
                                                | .s1 => .running s.tmb.localCount 1000
                                                | .s2 => .running s.tmb.localCount 2000
                                                | .s4 => .running s.tmb.localCount 4000
                                              else .stopped } })
    ∧ (∀ ret horn, s.hrn.horn = .chiming → s.hrn.chime = .running start toward → s.hrn.ret = ret → (ret = .quiet ∧ horn = .quiet) ∨ (ret = .silenced ∧ horn = .silenced) →
      exec .chimeTimerExpiry s = .next { s with hrn := { s.hrn with horn := horn, ret := .none, chime := .stopped } })

/-! ## Journal and logger line -/

/-- LOGRDY_CHANGE and RECORD_DEPARTURE: a change of the pin begins the head record when the line runs, none is in progress
and the pin is low; a departure frees its place, which a GAP record takes when records were dropped, and the next record
begins (R172, R175, R176); without a record in progress a departure changes nothing (log entry 2). The fifteen bytes of a
record by kind, summing to 0 (R173); the rate of the line by mode (R177); LOGTX, character by character, and high between
records (R174, R178). -/
def Obligations.RecordsLeaveInOrder : Prop :=
  (∀ s : State,
    let lineRuns := s.mbu.mode ≠ .loading
    (∀ high, exec (.logrdyChange high) s = .next
      { s with pins := { s.pins with logrdyHigh := high }
               jnl := { s.jnl with inProgress := match s.jnl.journal with
                                                 | [] => s.jnl.inProgress
                                                 | r :: _ => if lineRuns ∧ s.jnl.inProgress = none ∧ high = false then some (recordBytes r) else s.jnl.inProgress } })
    ∧ (∀ bytes head rest, s.jnl.inProgress = some bytes → s.jnl.journal = head :: rest →
        let left := if s.jnl.dropped = 0 then rest else rest ++ [.gap s.jnl.dropped s.tmb.groupTime]
        exec .recordDeparture s = .next
          { s with jnl := { journal := left, dropped := 0
                            inProgress := match left with
                                          | [] => none
                                          | r :: _ => if lineRuns ∧ s.pins.logrdyHigh = false then some (recordBytes r) else none } })
    ∧ (s.jnl.inProgress = none → exec .recordDeparture s = .next s))
  ∧ (let sent := fun (r : JournalRecord) (fields : List Byte) (stamp : Millis) => (recordBytes r).foldl (· + ·) 0 = 0
       ∧ ∃ check : Byte, recordBytes r = (0xA5 : Byte) :: fields ++ [stamp.extractLsb' 24 8, stamp.extractLsb' 16 8, stamp.extractLsb' 8 8, stamp.extractLsb' 0 8] ++ [check]
     let byte := fun n : Nat => BitVec.ofNat 8 n
     (∀ a p st c firstOut status cause z pr n stamp, ∀ sc ∈ [(SeqState.normal, 0), (.alert, 1), (.held, 2), (.returned, 3), (.shelved, 4)],
        ∀ cc ∈ [(CopyStatus.current, 16), (.stale, 32), (.lost, 48)],
        ∀ lc ∈ [(LastCause.state .activate, 0), (.state .clear, 1), (.state .ack, 2), (.state .reset, 3), (.state .shelve, 4), (.state .unshelve, 5), (.snapshot, 6)],
        st = sc.1 → status = cc.1 → cause = lc.1 →
        sent (.transition a p st c firstOut status cause z pr n stamp)
          [1, byte a.val, byte p.val, byte sc.2, byte ((if c = .active then 128 else 0) + (if firstOut then 64 else 0) + cc.2 + lc.2), byte z.val, byte pr.val, 0, byte n.val] stamp)
     ∧ (∀ a stamp, sent (.stationLost a stamp) [2, byte a.val, 0xFF, 0, 0, 0, 0, 0, 0] stamp ∧ sent (.stationStale a stamp) [3, byte a.val, 0xFF, 0, 0, 0, 0, 0, 0] stamp
          ∧ sent (.stationBack a stamp) [4, byte a.val, 0xFF, 0, 0, 0, 0, 0, 0] stamp)
     ∧ (∀ a stamp, ∀ mc ∈ [(RecordedMode.active, 1), (.isolated, 2), (.joining, 3), (.halted, 4)],
        ∀ cc ∈ [(ModeCause.loadAccepted, 1), (.configFault, 2), (.joinComplete, 3), (.transmitFailure, 4), (.probeComplete, 5), (.addressClash, 6)],
        sent (.mode a mc.1 cc.1 stamp) [5, byte a.val, 0xFF, byte mc.2, byte cc.2, 0, 0, 0, 0] stamp)
     ∧ (∀ n ≤ 65535, ∀ stamp, sent (.gap n stamp) [6, 0xFF, 0xFF, 0, 0, 0, 0, byte (n / 256), byte (n % 256)] stamp)
     ∧ sent .start [7, 0xFF, 0xFF, 0, 0, 0, 0, 0, 0] 0)
  ∧ ∀ s : State,
    (s.mbu.mode = .loading → s.loggerBaud = none) ∧ (s.mbu.mode = .halted .configFault → s.loggerBaud = some 9600)
    ∧ (s.runs = true ∨ s.mbu.mode = .halted .addressClash → s.loggerBaud = match s.conf.loggerRate with
                                                                          | .b9600 => some 9600
                                                                          | .b19200 => some 19200
                                                                          | .b38400 => some 38400
                                                                          | .b115200 => some 115200)
    ∧ (∀ bytes, s.jnl.inProgress = some bytes → ∀ bit, s.logtxHigh bit =
        (bytes.flatMap fun b => [false, b.getLsbD 0, b.getLsbD 1, b.getLsbD 2, b.getLsbD 3, b.getLsbD 4, b.getLsbD 5, b.getLsbD 6, b.getLsbD 7, true]).getD bit true)
    ∧ (s.jnl.inProgress = none → ∀ bit, s.logtxHigh bit = true)

/-! ## Outputs -/

/-- The seven patterns at a clock value, and the clock itself (R142, R143). -/
def Obligations.PatternsFollowTheClock : Prop :=
  (∀ c : Nat, Pattern.off.on c = false ∧ Pattern.steady.on c = true
    ∧ (Pattern.fast.on c = true ↔ c % 500 ≤ 249)
    ∧ (Pattern.first.on c = true ↔ c % 1000 ≤ 99 ∨ (200 ≤ c % 1000 ∧ c % 1000 ≤ 299))
    ∧ (Pattern.slow.on c = true ↔ c % 2000 ≤ 999)
    ∧ (Pattern.wink.on c = true ↔ c % 2000 ≤ 99)
    ∧ (Pattern.unknown.on c = true ↔ c % 4000 ≤ 499))
  ∧ ∀ s : State,
    let c := if s.mbu.mode = .joining ∨ s.mbu.mode = .active ∨ s.mbu.mode = .isolated then s.tmb.groupTime.toNat else s.tmb.localCount.toNat
    (∀ lamp, s.lampHigh lamp = (s.lampPattern lamp).on c) ∧ s.statusHigh = s.statusPattern.on c

/-- What a POINT and a ZONE entry of the lamp map show, the first case that holds (R144, R145). -/
def Obligations.PointAndZoneEntriesShowTheCopy : Prop :=
  ∀ s : State,
    (∀ st p, let r := recordAt s.gat st p
      s.entryPattern (.point st p) =
        if r.inUse = false then .off else if r.status ≠ .current then .unknown
        else if r.state = .normal then .off else if r.state = .alert ∧ r.firstOut = true then .first else if r.state = .alert then .fast
        else if r.state = .held then .steady else if r.state = .returned then .slow else .wink)
    ∧ ∀ z : Zone,
      let current := fun st => ∃ a p, (recordAt s.gat a p).inUse = true ∧ (recordAt s.gat a p).status = .current ∧ (recordAt s.gat a p).zone = z ∧ (recordAt s.gat a p).state = st
      let doubtful := ∃ a p, (recordAt s.gat a p).inUse = true ∧ (recordAt s.gat a p).zone = z ∧ ((recordAt s.gat a p).status = .stale ∨ (recordAt s.gat a p).status = .lost)
      let shown := s.entryPattern (.zone z)
      (current .alert → shown = .fast)
      ∧ (¬ current .alert → current .returned → shown = .slow)
      ∧ (¬ current .alert → ¬ current .returned → current .held → shown = .steady)
      ∧ (¬ current .alert → ¬ current .returned → ¬ current .held → current .shelved → shown = .wink)
      ∧ (¬ current .alert → ¬ current .returned → ¬ current .held → ¬ current .shelved → doubtful → shown = .unknown)
      ∧ (¬ current .alert → ¬ current .returned → ¬ current .held → ¬ current .shelved → ¬ doubtful → shown = .off)

/-- What a lamp shows by station mode, lamp test and lamp map, what OFF and STATION entries show, and STATUS (R146 to
R150). -/
def Obligations.LampsAndStatusFollowTheMode : Prop :=
  ∀ (s : State) (lamp : Fin 16),
    (s.mbu.mode = .loading → s.lampPattern lamp = .off)
    ∧ (s.mbu.mode = .halted .configFault → s.lampPattern lamp = if lamp = 0 then .slow else .off)
    ∧ (s.mbu.mode = .halted .addressClash → s.lampPattern lamp = .unknown)
    ∧ (s.runs = true → s.lampPattern lamp = if s.pnl.lampTest then .steady else s.entryPattern (s.conf.lamps.get lamp))
    ∧ s.entryPattern .off = .off
    ∧ (s.runs = true → s.entryPattern (.station s.own) = if s.mbu.mode = .active then .steady else if s.mbu.mode = .joining then .fast else .slow)
    ∧ (∀ st, st ≠ s.own →
        let m := s.member st
        (m.presence = .present → s.entryPattern (.station st) =
          if m.reported = some .isolated then .slow else if m.sync = .awaiting ∨ m.reported = some .joining then .fast
          else if m.reported = some .active then .steady else .fast)
        ∧ (m.presence = .absent → (∃ p, (recordAt s.gat st p).status = .lost) → s.entryPattern (.station st) = .unknown)
        ∧ (m.presence = .absent → (∀ p, (recordAt s.gat st p).status ≠ .lost) → s.entryPattern (.station st) = .off))
    ∧ s.statusPattern = match s.mbu.mode with
        | .loading => .off
        | .joining => .fast
        | .active => .steady
        | .isolated => .slow
        | .halted .configFault => .wink
        | .halted .addressClash => .unknown

/-- HORN by the horn state: nothing in QUIET and SILENCED, the tone at the level's duty in SOUNDING, the chime tone at that
of level 1 in CHIMING; the frequencies and duties themselves (R153, R155). -/
def Obligations.HornOutputFollowsItsState : Prop :=
  (∀ s : State, s.hornTone = match s.hrn.horn with
                             | .quiet => none
                             | .silenced => none
                             | .sounding => some (s.hrn.tone, 9 - s.hrn.level)
                             | .chiming => some (s.conf.chimeTone, 8))
  ∧ [0, 1, 2, 3, 4, 5, 6, 7].map toneHertz = [3200, 2800, 2400, 2000, 1600, 1200, 800, 400]

/-- Every frame a station may send is read back by a receiver as it was sent, and no other bytes are a valid frame (sections
4.2, 4.6; R70, R83): its bytes are those of section 4.2, class and source, sequence, target or FFH, payload length, the
payload of the class, and the check of R70 over all of them, high byte first; it is valid when every in-use entry has a
priority above 0 and, in a SNAPSHOT, every entry has the status CURRENT. BTX puts it on the
line, true being recessive: the contention field with B0 most significant bit first, then each later byte least significant
bit first between a dominant and a recessive bit; in the field the class and source of the frame offered; and recessive where
the station sends nothing (R65, R66, R76). -/
def Obligations.FramesReadBackAsSent : Prop :=
  (∀ f : Frame, f.body.valid = true → frameComplete (encodeFrame f) = true ∧ decodeFrame (encodeFrame f) = some f)
  ∧ (∀ bytes f, decodeFrame bytes = some f → bytes = encodeFrame f ∧ f.body.valid = true)
  ∧ (let entryValid := fun x : Entry => x.inUse = true → x.priority.val ≠ 0
     ∀ body : Body, body.valid = true ↔ match body with
                                        | .state x => x.inUse = true → x.priority.val ≠ 0
                                        | .snapshot es => ∀ p, entryValid (es.get p) ∧ (es.get p).status = .current
                                        | .replay _ es => ∀ p, entryValid (es.get p)
                                        | _ => True)
  ∧ (let byte := fun n : Nat => BitVec.ofNat 8 n
     let stamp := fun t : Millis => [t.extractLsb' 24 8, t.extractLsb' 16 8, t.extractLsb' 8 8, t.extractLsb' 0 8]
     let bit := fun (b : Bool) (weight : Nat) => if b then weight else 0
     let position := fun (st : SeqState) (c : Condition) (pr : Priority) =>
       byte (32 * (match st with
                   | .normal => 0
                   | .alert => 1
                   | .held => 2
                   | .returned => 3
                   | .shelved => 4) + bit (c == .active) 16 + 4 * pr.val)
     let announced := fun x : StateBody =>
       [byte (16 * x.point.val + bit x.inUse 8 + (match x.cause with
                                                  | .activate => 0
                                                  | .clear => 1
                                                  | .ack => 2
                                                  | .reset => 3
                                                  | .shelve => 4
                                                  | .unshelve => 5)),
        position x.state x.condition x.priority, byte (32 * x.zone.val + x.count.val)] ++ stamp x.stamp
     let entry := fun (p : Point) (x : Entry) =>
       [byte (16 * p.val + bit x.inUse 8 + bit x.firstOut 4 + (match x.status with
                                                              | .empty => 0
                                                              | .current => 1
                                                              | .stale => 2
                                                              | .lost => 3)),
        position x.state x.condition x.priority, byte (32 * x.zone.val)] ++ stamp x.stamp
     let block := fun es : Tab Entry => (List.finRange 16).flatMap fun p => entry p (es.get p)
     let bits := fun x : Byte => [x.getLsbD 7, x.getLsbD 6, x.getLsbD 5, x.getLsbD 4, x.getLsbD 3, x.getLsbD 2, x.getLsbD 1, x.getLsbD 0]
     let check := fun bytes : List Byte =>
       (bytes.flatMap bits).foldl (fun (r : BitVec 16) x => if r.getLsbD 15 = x then r <<< 1 else (r <<< 1) ^^^ 0x1021) 0xFFFF
     let sent := fun (f : Frame) (code : Nat) (target : Byte) (payload : List Byte) =>
       let headed := [byte (16 * code + f.src.val), f.seq, target, byte payload.length] ++ payload
       encodeFrame f = headed ++ [(check headed).extractLsb' 8 8, (check headed).extractLsb' 0 8]
     ∀ f : Frame, match f.body with
                  | .timeMark t => sent f 1 0xFF (stamp t)
                  | .state x => sent f 2 0xFF (announced x)
                  | .ack mask => sent f 3 0xFF [mask]
                  | .reset mask => sent f 4 0xFF [mask]
                  | .snapshot es => sent f 5 0xFF (block es)
                  | .replay target es => sent f 6 (byte target.val) (block es)
                  | .resyncRequest target => sent f 7 (byte target.val) []
                  | .join mask => sent f 8 0xFF [mask.extractLsb' 8 8, mask.extractLsb' 0 8]
                  | .heartbeat .active => sent f 9 0xFF [1]
                  | .heartbeat .isolated => sent f 9 0xFF [2]
                  | .heartbeat .joining => sent f 9 0xFF [3])
  ∧ ∀ s : State,
    let field := fun b : Byte => [false, b.getLsbD 7, b.getLsbD 6, b.getLsbD 5, b.getLsbD 4, b.getLsbD 3, b.getLsbD 2, b.getLsbD 1, b.getLsbD 0, true]
    let character := fun b : Byte => [false, b.getLsbD 0, b.getLsbD 1, b.getLsbD 2, b.getLsbD 3, b.getLsbD 4, b.getLsbD 5, b.getLsbD 6, b.getLsbD 7, true]
    let offers := fun (c : Candidate) (cls : Nat) => s.bus.line = .contending c → ∀ bit, s.btxHigh bit = (field (BitVec.ofNat 8 (16 * cls + s.own.val))).getD bit true
    (∀ c f b0 rest, s.bus.line = .sending c f → encodeFrame f = b0 :: rest → ∀ bit, s.btxHigh bit = (field b0 ++ rest.flatMap character).getD bit true)
    ∧ offers .markSlot 1 ∧ offers .heartbeatSlot 9
    ∧ (∀ e rest, s.bus.queue = e :: rest → offers .queueHead (match e.body with
                                                             | .state _ => 2
                                                             | .ack _ => 3
                                                             | .reset _ => 4
                                                             | .snapshot _ => 5
                                                             | .replay _ _ => 6
                                                             | .resyncRequest _ => 7
                                                             | .join _ => 8))
    ∧ (s.bus.line.own = none → ∀ bit, s.btxHigh bit = true)

/-! ## What every step keeps -/

/-- R14 is kept by every step. -/
def Obligations.StepsKeepOneMarkPerZone : Prop :=
  ∀ s s' : State, MarksHold s.gat → step s = .next s' → MarksHold s'.gat

/-- R26's agreement of state and condition in the Point Table, and R50's of the qualified with the field condition, are kept
by every step. -/
def Obligations.StepsKeepPointConditions : Prop :=
  ∀ s s' : State, PointsAgree s.psq → FieldConditionsAgree s → step s = .next s' → PointsAgree s'.psq ∧ FieldConditionsAgree s'

/-- R71's limits of the transmit queue with R38, and that a claim waits only while the queue is full (R73, R74, R105, R112,
R139), a JOIN, RESYNC REQUEST or REPLAY outside ISOLATED and HALTED (R90, R124), are each kept by every step. -/
def Obligations.StepsKeepTheTransmitQueue : Prop :=
  ∀ s s' : State, step s = .next s' → (QueueHolds s → QueueHolds s') ∧ (WaitsOnlyWhenFull s → WaitsOnlyWhenFull s')

/-- R84's limit of the receive queue with the place kept for an own attempt (R85), and R166's limits of the journal, are each
kept by every step. -/
def Obligations.StepsKeepReceiveQueueAndJournal : Prop :=
  ∀ s s' : State, step s = .next s' → (ReceiveQueueHolds s.bus → ReceiveQueueHolds s'.bus) ∧ (JournalHolds s.jnl → JournalHolds s'.jnl)

/-- R58 is kept by every step. -/
def Obligations.StepsKeepShelving : Prop :=
  ∀ s s' : State, ChatterHolds s → step s = .next s' → ChatterHolds s'

/-- Numbers, contents and dispositions of the entries, and the frame on the line, agree after every step (R71, R75, R81,
R82, R88, R90). -/
def Obligations.StepsKeepTheBusInterface : Prop :=
  ∀ s s' : State, BusAgrees s → step s = .next s' → BusAgrees s'

/-- The idle-wait timer runs exactly under its conditions: kept by every step (R78). -/
def Obligations.StepsKeepTheIdleWait : Prop :=
  ∀ s s' : State, IdleWaitHolds s → step s = .next s' → IdleWaitHolds s'

/-- R155's condition of the continuous tone, and R140's of lamp test, are kept by every step. -/
def Obligations.StepsKeepHornAndLampTest : Prop :=
  ∀ s s' : State, HornHolds s → LampTestHolds s.pnl → step s = .next s' → HornHolds s' ∧ LampTestHolds s'.pnl

/-- Until LOADING ends nothing but the loader, the own entry and the counts moves: kept by every step (R125, R180). -/
def Obligations.StepsKeepLoading : Prop :=
  ∀ s s' : State, LoadingHolds s → step s = .next s' → LoadingHolds s'

/-- Group time is 0 at cold start, increases by one with the local count, and between cold starts changes only by moving
forward, by less than 2^31 (R127). -/
def Obligations.GroupTimeMovesForward : Prop :=
  ∀ (c : Instr) (s t : State), exec c s = .next t →
    ((∃ cause, c = .coldStart cause) → t.tmb.groupTime = 0)
    ∧ (c = .millisecond → s.pins.resetLow = false → t.tmb.groupTime = s.tmb.groupTime + 1 ∧ t.tmb.localCount = s.tmb.localCount + 1)
    ∧ ((∀ cause, c ≠ .coldStart cause) → t.tmb.groupTime ≠ s.tmb.groupTime →
        1 ≤ (t.tmb.groupTime - s.tmb.groupTime).toNat ∧ (t.tmb.groupTime - s.tmb.groupTime).toNat < 2 ^ 31
        ∧ (c = .millisecond ∨ c = .deliverTimeMark))

/-- The station mode changes by the table of R96 alone: at every command but COLD_START it stays or moves as a row says. In
HALTED the units take nothing and keep what they hold: only a cold start and its release, the counts, the tick mark and the
logger line go on (R5, R28, R63, R93, R124, R129, R151, R164, R177). From an address clash on nothing is sent or received, and
no looped-back entry passes (R87). That a command whose event cannot arise answers the state as it is is log entry 2. -/
def Obligations.ModeChangesByTheTable : Prop :=
  (∀ (c : Instr) (s t : State), (∀ cause, c ≠ .coldStart cause) → BusAgrees s → exec c s = .next t →
    t.mbu.mode = s.mbu.mode
    ∨ (s.mbu.mode = .loading ∧ (t.mbu.mode = .joining ∨ t.mbu.mode = .halted .configFault))
    ∨ (s.mbu.mode = .joining ∧ t.mbu.mode = .active)
    ∨ ((s.mbu.mode = .active ∨ s.mbu.mode = .joining) ∧ t.mbu.mode = .isolated)
    ∨ (s.mbu.mode = .isolated ∧ (t.mbu.mode = .active ∨ t.mbu.mode = .joining))
    ∨ (s.runs = true ∧ t.mbu.mode = .halted .addressClash))
  ∧ (∀ (c : Instr) (s : State), c.wellFormed = true → BusAgrees s → s.mbu.mode = .halted .configFault ∨ s.mbu.mode = .halted .addressClash →
      (∀ cause, c ≠ .coldStart cause) → (∀ straps, c ≠ .resetRelease straps) → c ≠ .millisecond → (∀ points buttons, c ≠ .tick points buttons) →
      (∀ high, c ≠ .logrdyChange high) → c ≠ .recordDeparture → exec c s = .next s)
  ∧ ∀ (c : Instr) (s : State), c.wellFormed = true → BusAgrees s → s.bus.clash = true →
      c ∈ [.idleGap, .beginFrame, .loseContention, .winContention, .transmitError, .idleWaitExpiry, .frameCompletion, .loopbackPassage] ∨ (∃ bytes, c = .frameReceived bytes)
        ∨ (∃ reason, c = .frameAbandoned reason) ∨ (c = .probeTimerExpiry ∧ s.bus.probe = .stopped) →
      exec c s = .next s

/-- What every step keeps holds at the reset state. -/
def Obligations.ResetStateKeepsAll : Prop :=
  let s := State.reset
  MarksHold s.gat ∧ PointsAgree s.psq ∧ FieldConditionsAgree s ∧ QueueHolds s ∧ WaitsOnlyWhenFull s ∧ ReceiveQueueHolds s.bus ∧ JournalHolds s.jnl
    ∧ ChatterHolds s ∧ BusAgrees s ∧ IdleWaitHolds s ∧ HornHolds s ∧ LampTestHolds s.pnl ∧ LoadingHolds s

end
end

