-- ==== Sys2Proof/Laws/Bits.lean ====
section
/-! SUPPORT. Bit fields read back what was packed into them. -/
namespace Sys2Proof.Machine

@[simp] theorem highNibble_packNibbles (h l : Fin 16) : highNibble (packNibbles h l) = h := by revert h l; decide +kernel

@[simp] theorem lowNibble_packNibbles (h l : Fin 16) : lowNibble (packNibbles h l) = l := by revert h l; decide +kernel

theorem shift_or_low (a b : Nat) (h : b < 2 ^ 8) : a * 2 ^ 8 ||| b = a * 256 + b := by
  have := Nat.two_pow_add_eq_or_of_lt h a
  rw [Nat.mul_comm (2 ^ 8) a] at this
  omega

@[simp] theorem word32_bytes32 (w : BitVec 32) :
    word32 (w.extractLsb' 24 8) (w.extractLsb' 16 8) (w.extractLsb' 8 8) (w.extractLsb' 0 8) = w := by
  apply BitVec.eq_of_toNat_eq
  simp only [word32, BitVec.toNat_append, BitVec.extractLsb'_toNat, Nat.shiftRight_eq_div_pow, Nat.shiftLeft_eq]
  have := w.isLt
  rw [shift_or_low _ _ (by omega), shift_or_low _ _ (by omega), shift_or_low _ _ (by omega)]
  omega

@[simp] theorem word16_bytes16 (w : BitVec 16) : word16 (w.extractLsb' 8 8) (w.extractLsb' 0 8) = w := by
  apply BitVec.eq_of_toNat_eq
  simp only [word16, BitVec.toNat_append, BitVec.extractLsb'_toNat, Nat.shiftRight_eq_div_pow, Nat.shiftLeft_eq]
  have := w.isLt
  rw [shift_or_low _ _ (by omega)]
  omega

@[simp] theorem FrameClass.ofCode_code (c : FrameClass) : FrameClass.ofCode c.code = some c := by cases c <;> rfl

@[simp] theorem SeqState.ofCode_code (st : SeqState) : SeqState.ofCode ⟨st.code, by cases st <;> decide⟩ = some st := by
  cases st <;> rfl

@[simp] theorem Cause.ofCode_code (c : Cause) : Cause.ofCode ⟨c.code, by cases c <;> decide⟩ = some c := by cases c <;> rfl

@[simp] theorem BusMode.ofCode_code (m : BusMode) : BusMode.ofCode m.code = some m := by cases m <;> rfl

@[simp] theorem CopyStatus.ofCode_code (c : CopyStatus) : CopyStatus.ofCode ⟨c.code, by cases c <;> decide⟩ = c := by
  cases c <;> rfl

@[simp] theorem Condition.ofBit_toBit (c : Condition) : Condition.ofBit c.toBit = c := by cases c <;> rfl

/-- The check taken bit by bit over all bytes, most significant bit first (R70). -/
theorem crc16_bits (bytes : List Byte) : crc16 bytes = (bytes.flatMap msbFirst).foldl crcBit 0xFFFF := by
  rw [List.foldl_flatMap]; rfl

/-- The payload has the length that its class gives. -/
theorem Body.length_payload (b : Body) : b.payload.length = b.cls.payloadLength := by
  cases b <;> simp [Body.payload, Body.cls, FrameClass.payloadLength, bytes32, bytes16, StateBody.bytes, entriesBytes, indices, Entry.bytes]

end Sys2Proof.Machine
end

