-- ==== Sys2Proof/Laws/State.lean ====
section
/-! SUPPORT. One lemma per field per update of a state, all true by definition. -/
namespace Sys2Proof.Machine

/-! ## setPending -/

@[simp] theorem State.setPending_pending (s : State) (x : List Instr) : (s.setPending x).pending = x := rfl
@[simp] theorem State.setPending_pins (s : State) (x : List Instr) : (s.setPending x).pins = s.pins := rfl
@[simp] theorem State.setPending_tmb (s : State) (x : List Instr) : (s.setPending x).tmb = s.tmb := rfl
@[simp] theorem State.setPending_loader (s : State) (x : List Instr) : (s.setPending x).loader = s.loader := rfl
@[simp] theorem State.setPending_config (s : State) (x : List Instr) : (s.setPending x).config = s.config := rfl
@[simp] theorem State.setPending_fiu (s : State) (x : List Instr) : (s.setPending x).fiu = s.fiu := rfl
@[simp] theorem State.setPending_psq (s : State) (x : List Instr) : (s.setPending x).psq = s.psq := rfl
@[simp] theorem State.setPending_gat (s : State) (x : List Instr) : (s.setPending x).gat = s.gat := rfl
@[simp] theorem State.setPending_bus (s : State) (x : List Instr) : (s.setPending x).bus = s.bus := rfl
@[simp] theorem State.setPending_mbu (s : State) (x : List Instr) : (s.setPending x).mbu = s.mbu := rfl
@[simp] theorem State.setPending_pnl (s : State) (x : List Instr) : (s.setPending x).pnl = s.pnl := rfl
@[simp] theorem State.setPending_hrn (s : State) (x : List Instr) : (s.setPending x).hrn = s.hrn := rfl
@[simp] theorem State.setPending_jnl (s : State) (x : List Instr) : (s.setPending x).jnl = s.jnl := rfl

/-! ## setPins -/

@[simp] theorem State.setPins_pending (s : State) (x : Pins) : (s.setPins x).pending = s.pending := rfl
@[simp] theorem State.setPins_pins (s : State) (x : Pins) : (s.setPins x).pins = x := rfl
@[simp] theorem State.setPins_tmb (s : State) (x : Pins) : (s.setPins x).tmb = s.tmb := rfl
@[simp] theorem State.setPins_loader (s : State) (x : Pins) : (s.setPins x).loader = s.loader := rfl
@[simp] theorem State.setPins_config (s : State) (x : Pins) : (s.setPins x).config = s.config := rfl
@[simp] theorem State.setPins_fiu (s : State) (x : Pins) : (s.setPins x).fiu = s.fiu := rfl
@[simp] theorem State.setPins_psq (s : State) (x : Pins) : (s.setPins x).psq = s.psq := rfl
@[simp] theorem State.setPins_gat (s : State) (x : Pins) : (s.setPins x).gat = s.gat := rfl
@[simp] theorem State.setPins_bus (s : State) (x : Pins) : (s.setPins x).bus = s.bus := rfl
@[simp] theorem State.setPins_mbu (s : State) (x : Pins) : (s.setPins x).mbu = s.mbu := rfl
@[simp] theorem State.setPins_pnl (s : State) (x : Pins) : (s.setPins x).pnl = s.pnl := rfl
@[simp] theorem State.setPins_hrn (s : State) (x : Pins) : (s.setPins x).hrn = s.hrn := rfl
@[simp] theorem State.setPins_jnl (s : State) (x : Pins) : (s.setPins x).jnl = s.jnl := rfl

/-! ## setTmb -/

@[simp] theorem State.setTmb_pending (s : State) (x : Tmb) : (s.setTmb x).pending = s.pending := rfl
@[simp] theorem State.setTmb_pins (s : State) (x : Tmb) : (s.setTmb x).pins = s.pins := rfl
@[simp] theorem State.setTmb_tmb (s : State) (x : Tmb) : (s.setTmb x).tmb = x := rfl
@[simp] theorem State.setTmb_loader (s : State) (x : Tmb) : (s.setTmb x).loader = s.loader := rfl
@[simp] theorem State.setTmb_config (s : State) (x : Tmb) : (s.setTmb x).config = s.config := rfl
@[simp] theorem State.setTmb_fiu (s : State) (x : Tmb) : (s.setTmb x).fiu = s.fiu := rfl
@[simp] theorem State.setTmb_psq (s : State) (x : Tmb) : (s.setTmb x).psq = s.psq := rfl
@[simp] theorem State.setTmb_gat (s : State) (x : Tmb) : (s.setTmb x).gat = s.gat := rfl
@[simp] theorem State.setTmb_bus (s : State) (x : Tmb) : (s.setTmb x).bus = s.bus := rfl
@[simp] theorem State.setTmb_mbu (s : State) (x : Tmb) : (s.setTmb x).mbu = s.mbu := rfl
@[simp] theorem State.setTmb_pnl (s : State) (x : Tmb) : (s.setTmb x).pnl = s.pnl := rfl
@[simp] theorem State.setTmb_hrn (s : State) (x : Tmb) : (s.setTmb x).hrn = s.hrn := rfl
@[simp] theorem State.setTmb_jnl (s : State) (x : Tmb) : (s.setTmb x).jnl = s.jnl := rfl

/-! ## setLoader -/

@[simp] theorem State.setLoader_pending (s : State) (x : Loader) : (s.setLoader x).pending = s.pending := rfl
@[simp] theorem State.setLoader_pins (s : State) (x : Loader) : (s.setLoader x).pins = s.pins := rfl
@[simp] theorem State.setLoader_tmb (s : State) (x : Loader) : (s.setLoader x).tmb = s.tmb := rfl
@[simp] theorem State.setLoader_loader (s : State) (x : Loader) : (s.setLoader x).loader = x := rfl
@[simp] theorem State.setLoader_config (s : State) (x : Loader) : (s.setLoader x).config = s.config := rfl
@[simp] theorem State.setLoader_fiu (s : State) (x : Loader) : (s.setLoader x).fiu = s.fiu := rfl
@[simp] theorem State.setLoader_psq (s : State) (x : Loader) : (s.setLoader x).psq = s.psq := rfl
@[simp] theorem State.setLoader_gat (s : State) (x : Loader) : (s.setLoader x).gat = s.gat := rfl
@[simp] theorem State.setLoader_bus (s : State) (x : Loader) : (s.setLoader x).bus = s.bus := rfl
@[simp] theorem State.setLoader_mbu (s : State) (x : Loader) : (s.setLoader x).mbu = s.mbu := rfl
@[simp] theorem State.setLoader_pnl (s : State) (x : Loader) : (s.setLoader x).pnl = s.pnl := rfl
@[simp] theorem State.setLoader_hrn (s : State) (x : Loader) : (s.setLoader x).hrn = s.hrn := rfl
@[simp] theorem State.setLoader_jnl (s : State) (x : Loader) : (s.setLoader x).jnl = s.jnl := rfl

/-! ## setConfig -/

@[simp] theorem State.setConfig_pending (s : State) (x : Option StationConfig) : (s.setConfig x).pending = s.pending := rfl
@[simp] theorem State.setConfig_pins (s : State) (x : Option StationConfig) : (s.setConfig x).pins = s.pins := rfl
@[simp] theorem State.setConfig_tmb (s : State) (x : Option StationConfig) : (s.setConfig x).tmb = s.tmb := rfl
@[simp] theorem State.setConfig_loader (s : State) (x : Option StationConfig) : (s.setConfig x).loader = s.loader := rfl
@[simp] theorem State.setConfig_config (s : State) (x : Option StationConfig) : (s.setConfig x).config = x := rfl
@[simp] theorem State.setConfig_fiu (s : State) (x : Option StationConfig) : (s.setConfig x).fiu = s.fiu := rfl
@[simp] theorem State.setConfig_psq (s : State) (x : Option StationConfig) : (s.setConfig x).psq = s.psq := rfl
@[simp] theorem State.setConfig_gat (s : State) (x : Option StationConfig) : (s.setConfig x).gat = s.gat := rfl
@[simp] theorem State.setConfig_bus (s : State) (x : Option StationConfig) : (s.setConfig x).bus = s.bus := rfl
@[simp] theorem State.setConfig_mbu (s : State) (x : Option StationConfig) : (s.setConfig x).mbu = s.mbu := rfl
@[simp] theorem State.setConfig_pnl (s : State) (x : Option StationConfig) : (s.setConfig x).pnl = s.pnl := rfl
@[simp] theorem State.setConfig_hrn (s : State) (x : Option StationConfig) : (s.setConfig x).hrn = s.hrn := rfl
@[simp] theorem State.setConfig_jnl (s : State) (x : Option StationConfig) : (s.setConfig x).jnl = s.jnl := rfl

/-! ## setFiu -/

@[simp] theorem State.setFiu_pending (s : State) (x : Fiu) : (s.setFiu x).pending = s.pending := rfl
@[simp] theorem State.setFiu_pins (s : State) (x : Fiu) : (s.setFiu x).pins = s.pins := rfl
@[simp] theorem State.setFiu_tmb (s : State) (x : Fiu) : (s.setFiu x).tmb = s.tmb := rfl
@[simp] theorem State.setFiu_loader (s : State) (x : Fiu) : (s.setFiu x).loader = s.loader := rfl
@[simp] theorem State.setFiu_config (s : State) (x : Fiu) : (s.setFiu x).config = s.config := rfl
@[simp] theorem State.setFiu_fiu (s : State) (x : Fiu) : (s.setFiu x).fiu = x := rfl
@[simp] theorem State.setFiu_psq (s : State) (x : Fiu) : (s.setFiu x).psq = s.psq := rfl
@[simp] theorem State.setFiu_gat (s : State) (x : Fiu) : (s.setFiu x).gat = s.gat := rfl
@[simp] theorem State.setFiu_bus (s : State) (x : Fiu) : (s.setFiu x).bus = s.bus := rfl
@[simp] theorem State.setFiu_mbu (s : State) (x : Fiu) : (s.setFiu x).mbu = s.mbu := rfl
@[simp] theorem State.setFiu_pnl (s : State) (x : Fiu) : (s.setFiu x).pnl = s.pnl := rfl
@[simp] theorem State.setFiu_hrn (s : State) (x : Fiu) : (s.setFiu x).hrn = s.hrn := rfl
@[simp] theorem State.setFiu_jnl (s : State) (x : Fiu) : (s.setFiu x).jnl = s.jnl := rfl

/-! ## setPsq -/

@[simp] theorem State.setPsq_pending (s : State) (x : Psq) : (s.setPsq x).pending = s.pending := rfl
@[simp] theorem State.setPsq_pins (s : State) (x : Psq) : (s.setPsq x).pins = s.pins := rfl
@[simp] theorem State.setPsq_tmb (s : State) (x : Psq) : (s.setPsq x).tmb = s.tmb := rfl
@[simp] theorem State.setPsq_loader (s : State) (x : Psq) : (s.setPsq x).loader = s.loader := rfl
@[simp] theorem State.setPsq_config (s : State) (x : Psq) : (s.setPsq x).config = s.config := rfl
@[simp] theorem State.setPsq_fiu (s : State) (x : Psq) : (s.setPsq x).fiu = s.fiu := rfl
@[simp] theorem State.setPsq_psq (s : State) (x : Psq) : (s.setPsq x).psq = x := rfl
@[simp] theorem State.setPsq_gat (s : State) (x : Psq) : (s.setPsq x).gat = s.gat := rfl
@[simp] theorem State.setPsq_bus (s : State) (x : Psq) : (s.setPsq x).bus = s.bus := rfl
@[simp] theorem State.setPsq_mbu (s : State) (x : Psq) : (s.setPsq x).mbu = s.mbu := rfl
@[simp] theorem State.setPsq_pnl (s : State) (x : Psq) : (s.setPsq x).pnl = s.pnl := rfl
@[simp] theorem State.setPsq_hrn (s : State) (x : Psq) : (s.setPsq x).hrn = s.hrn := rfl
@[simp] theorem State.setPsq_jnl (s : State) (x : Psq) : (s.setPsq x).jnl = s.jnl := rfl

/-! ## setGat -/

@[simp] theorem State.setGat_pending (s : State) (x : Gat) : (s.setGat x).pending = s.pending := rfl
@[simp] theorem State.setGat_pins (s : State) (x : Gat) : (s.setGat x).pins = s.pins := rfl
@[simp] theorem State.setGat_tmb (s : State) (x : Gat) : (s.setGat x).tmb = s.tmb := rfl
@[simp] theorem State.setGat_loader (s : State) (x : Gat) : (s.setGat x).loader = s.loader := rfl
@[simp] theorem State.setGat_config (s : State) (x : Gat) : (s.setGat x).config = s.config := rfl
@[simp] theorem State.setGat_fiu (s : State) (x : Gat) : (s.setGat x).fiu = s.fiu := rfl
@[simp] theorem State.setGat_psq (s : State) (x : Gat) : (s.setGat x).psq = s.psq := rfl
@[simp] theorem State.setGat_gat (s : State) (x : Gat) : (s.setGat x).gat = x := rfl
@[simp] theorem State.setGat_bus (s : State) (x : Gat) : (s.setGat x).bus = s.bus := rfl
@[simp] theorem State.setGat_mbu (s : State) (x : Gat) : (s.setGat x).mbu = s.mbu := rfl
@[simp] theorem State.setGat_pnl (s : State) (x : Gat) : (s.setGat x).pnl = s.pnl := rfl
@[simp] theorem State.setGat_hrn (s : State) (x : Gat) : (s.setGat x).hrn = s.hrn := rfl
@[simp] theorem State.setGat_jnl (s : State) (x : Gat) : (s.setGat x).jnl = s.jnl := rfl

/-! ## setBif -/

@[simp] theorem State.setBif_pending (s : State) (x : Bif) : (s.setBif x).pending = s.pending := rfl
@[simp] theorem State.setBif_pins (s : State) (x : Bif) : (s.setBif x).pins = s.pins := rfl
@[simp] theorem State.setBif_tmb (s : State) (x : Bif) : (s.setBif x).tmb = s.tmb := rfl
@[simp] theorem State.setBif_loader (s : State) (x : Bif) : (s.setBif x).loader = s.loader := rfl
@[simp] theorem State.setBif_config (s : State) (x : Bif) : (s.setBif x).config = s.config := rfl
@[simp] theorem State.setBif_fiu (s : State) (x : Bif) : (s.setBif x).fiu = s.fiu := rfl
@[simp] theorem State.setBif_psq (s : State) (x : Bif) : (s.setBif x).psq = s.psq := rfl
@[simp] theorem State.setBif_gat (s : State) (x : Bif) : (s.setBif x).gat = s.gat := rfl
@[simp] theorem State.setBif_bus (s : State) (x : Bif) : (s.setBif x).bus = x := rfl
@[simp] theorem State.setBif_mbu (s : State) (x : Bif) : (s.setBif x).mbu = s.mbu := rfl
@[simp] theorem State.setBif_pnl (s : State) (x : Bif) : (s.setBif x).pnl = s.pnl := rfl
@[simp] theorem State.setBif_hrn (s : State) (x : Bif) : (s.setBif x).hrn = s.hrn := rfl
@[simp] theorem State.setBif_jnl (s : State) (x : Bif) : (s.setBif x).jnl = s.jnl := rfl

/-! ## setMbu -/

@[simp] theorem State.setMbu_pending (s : State) (x : Mbu) : (s.setMbu x).pending = s.pending := rfl
@[simp] theorem State.setMbu_pins (s : State) (x : Mbu) : (s.setMbu x).pins = s.pins := rfl
@[simp] theorem State.setMbu_tmb (s : State) (x : Mbu) : (s.setMbu x).tmb = s.tmb := rfl
@[simp] theorem State.setMbu_loader (s : State) (x : Mbu) : (s.setMbu x).loader = s.loader := rfl
@[simp] theorem State.setMbu_config (s : State) (x : Mbu) : (s.setMbu x).config = s.config := rfl
@[simp] theorem State.setMbu_fiu (s : State) (x : Mbu) : (s.setMbu x).fiu = s.fiu := rfl
@[simp] theorem State.setMbu_psq (s : State) (x : Mbu) : (s.setMbu x).psq = s.psq := rfl
@[simp] theorem State.setMbu_gat (s : State) (x : Mbu) : (s.setMbu x).gat = s.gat := rfl
@[simp] theorem State.setMbu_bus (s : State) (x : Mbu) : (s.setMbu x).bus = s.bus := rfl
@[simp] theorem State.setMbu_mbu (s : State) (x : Mbu) : (s.setMbu x).mbu = x := rfl
@[simp] theorem State.setMbu_pnl (s : State) (x : Mbu) : (s.setMbu x).pnl = s.pnl := rfl
@[simp] theorem State.setMbu_hrn (s : State) (x : Mbu) : (s.setMbu x).hrn = s.hrn := rfl
@[simp] theorem State.setMbu_jnl (s : State) (x : Mbu) : (s.setMbu x).jnl = s.jnl := rfl

/-! ## setPnl -/

@[simp] theorem State.setPnl_pending (s : State) (x : Pnl) : (s.setPnl x).pending = s.pending := rfl
@[simp] theorem State.setPnl_pins (s : State) (x : Pnl) : (s.setPnl x).pins = s.pins := rfl
@[simp] theorem State.setPnl_tmb (s : State) (x : Pnl) : (s.setPnl x).tmb = s.tmb := rfl
@[simp] theorem State.setPnl_loader (s : State) (x : Pnl) : (s.setPnl x).loader = s.loader := rfl
@[simp] theorem State.setPnl_config (s : State) (x : Pnl) : (s.setPnl x).config = s.config := rfl
@[simp] theorem State.setPnl_fiu (s : State) (x : Pnl) : (s.setPnl x).fiu = s.fiu := rfl
@[simp] theorem State.setPnl_psq (s : State) (x : Pnl) : (s.setPnl x).psq = s.psq := rfl
@[simp] theorem State.setPnl_gat (s : State) (x : Pnl) : (s.setPnl x).gat = s.gat := rfl
@[simp] theorem State.setPnl_bus (s : State) (x : Pnl) : (s.setPnl x).bus = s.bus := rfl
@[simp] theorem State.setPnl_mbu (s : State) (x : Pnl) : (s.setPnl x).mbu = s.mbu := rfl
@[simp] theorem State.setPnl_pnl (s : State) (x : Pnl) : (s.setPnl x).pnl = x := rfl
@[simp] theorem State.setPnl_hrn (s : State) (x : Pnl) : (s.setPnl x).hrn = s.hrn := rfl
@[simp] theorem State.setPnl_jnl (s : State) (x : Pnl) : (s.setPnl x).jnl = s.jnl := rfl

/-! ## setHrn -/

@[simp] theorem State.setHrn_pending (s : State) (x : Hrn) : (s.setHrn x).pending = s.pending := rfl
@[simp] theorem State.setHrn_pins (s : State) (x : Hrn) : (s.setHrn x).pins = s.pins := rfl
@[simp] theorem State.setHrn_tmb (s : State) (x : Hrn) : (s.setHrn x).tmb = s.tmb := rfl
@[simp] theorem State.setHrn_loader (s : State) (x : Hrn) : (s.setHrn x).loader = s.loader := rfl
@[simp] theorem State.setHrn_config (s : State) (x : Hrn) : (s.setHrn x).config = s.config := rfl
@[simp] theorem State.setHrn_fiu (s : State) (x : Hrn) : (s.setHrn x).fiu = s.fiu := rfl
@[simp] theorem State.setHrn_psq (s : State) (x : Hrn) : (s.setHrn x).psq = s.psq := rfl
@[simp] theorem State.setHrn_gat (s : State) (x : Hrn) : (s.setHrn x).gat = s.gat := rfl
@[simp] theorem State.setHrn_bus (s : State) (x : Hrn) : (s.setHrn x).bus = s.bus := rfl
@[simp] theorem State.setHrn_mbu (s : State) (x : Hrn) : (s.setHrn x).mbu = s.mbu := rfl
@[simp] theorem State.setHrn_pnl (s : State) (x : Hrn) : (s.setHrn x).pnl = s.pnl := rfl
@[simp] theorem State.setHrn_hrn (s : State) (x : Hrn) : (s.setHrn x).hrn = x := rfl
@[simp] theorem State.setHrn_jnl (s : State) (x : Hrn) : (s.setHrn x).jnl = s.jnl := rfl

/-! ## setJnl -/

@[simp] theorem State.setJnl_pending (s : State) (x : Jnl) : (s.setJnl x).pending = s.pending := rfl
@[simp] theorem State.setJnl_pins (s : State) (x : Jnl) : (s.setJnl x).pins = s.pins := rfl
@[simp] theorem State.setJnl_tmb (s : State) (x : Jnl) : (s.setJnl x).tmb = s.tmb := rfl
@[simp] theorem State.setJnl_loader (s : State) (x : Jnl) : (s.setJnl x).loader = s.loader := rfl
@[simp] theorem State.setJnl_config (s : State) (x : Jnl) : (s.setJnl x).config = s.config := rfl
@[simp] theorem State.setJnl_fiu (s : State) (x : Jnl) : (s.setJnl x).fiu = s.fiu := rfl
@[simp] theorem State.setJnl_psq (s : State) (x : Jnl) : (s.setJnl x).psq = s.psq := rfl
@[simp] theorem State.setJnl_gat (s : State) (x : Jnl) : (s.setJnl x).gat = s.gat := rfl
@[simp] theorem State.setJnl_bus (s : State) (x : Jnl) : (s.setJnl x).bus = s.bus := rfl
@[simp] theorem State.setJnl_mbu (s : State) (x : Jnl) : (s.setJnl x).mbu = s.mbu := rfl
@[simp] theorem State.setJnl_pnl (s : State) (x : Jnl) : (s.setJnl x).pnl = s.pnl := rfl
@[simp] theorem State.setJnl_hrn (s : State) (x : Jnl) : (s.setJnl x).hrn = s.hrn := rfl
@[simp] theorem State.setJnl_jnl (s : State) (x : Jnl) : (s.setJnl x).jnl = x := rfl

/-! ## Updates of one part of a unit -/

@[simp] theorem State.setPoint_pending (s : State) (p : Point) (r : PointRecord) : (s.setPoint p r).pending = s.pending := rfl
@[simp] theorem State.setPoint_pins (s : State) (p : Point) (r : PointRecord) : (s.setPoint p r).pins = s.pins := rfl
@[simp] theorem State.setPoint_tmb (s : State) (p : Point) (r : PointRecord) : (s.setPoint p r).tmb = s.tmb := rfl
@[simp] theorem State.setPoint_loader (s : State) (p : Point) (r : PointRecord) : (s.setPoint p r).loader = s.loader := rfl
@[simp] theorem State.setPoint_config (s : State) (p : Point) (r : PointRecord) : (s.setPoint p r).config = s.config := rfl
@[simp] theorem State.setPoint_fiu (s : State) (p : Point) (r : PointRecord) : (s.setPoint p r).fiu = s.fiu := rfl
@[simp] theorem State.setPoint_psq (s : State) (p : Point) (r : PointRecord) : (s.setPoint p r).psq = { s.psq with points := s.psq.points.set p r } := rfl
@[simp] theorem State.setPoint_gat (s : State) (p : Point) (r : PointRecord) : (s.setPoint p r).gat = s.gat := rfl
@[simp] theorem State.setPoint_bus (s : State) (p : Point) (r : PointRecord) : (s.setPoint p r).bus = s.bus := rfl
@[simp] theorem State.setPoint_mbu (s : State) (p : Point) (r : PointRecord) : (s.setPoint p r).mbu = s.mbu := rfl
@[simp] theorem State.setPoint_pnl (s : State) (p : Point) (r : PointRecord) : (s.setPoint p r).pnl = s.pnl := rfl
@[simp] theorem State.setPoint_hrn (s : State) (p : Point) (r : PointRecord) : (s.setPoint p r).hrn = s.hrn := rfl
@[simp] theorem State.setPoint_jnl (s : State) (p : Point) (r : PointRecord) : (s.setPoint p r).jnl = s.jnl := rfl

@[simp] theorem State.setMember_pending (s : State) (a : Addr) (m : Member) : (s.setMember a m).pending = s.pending := rfl
@[simp] theorem State.setMember_pins (s : State) (a : Addr) (m : Member) : (s.setMember a m).pins = s.pins := rfl
@[simp] theorem State.setMember_tmb (s : State) (a : Addr) (m : Member) : (s.setMember a m).tmb = s.tmb := rfl
@[simp] theorem State.setMember_loader (s : State) (a : Addr) (m : Member) : (s.setMember a m).loader = s.loader := rfl
@[simp] theorem State.setMember_config (s : State) (a : Addr) (m : Member) : (s.setMember a m).config = s.config := rfl
@[simp] theorem State.setMember_fiu (s : State) (a : Addr) (m : Member) : (s.setMember a m).fiu = s.fiu := rfl
@[simp] theorem State.setMember_psq (s : State) (a : Addr) (m : Member) : (s.setMember a m).psq = s.psq := rfl
@[simp] theorem State.setMember_gat (s : State) (a : Addr) (m : Member) : (s.setMember a m).gat = s.gat := rfl
@[simp] theorem State.setMember_bus (s : State) (a : Addr) (m : Member) : (s.setMember a m).bus = s.bus := rfl
@[simp] theorem State.setMember_mbu (s : State) (a : Addr) (m : Member) : (s.setMember a m).mbu = { s.mbu with members := s.mbu.members.set a m } := rfl
@[simp] theorem State.setMember_pnl (s : State) (a : Addr) (m : Member) : (s.setMember a m).pnl = s.pnl := rfl
@[simp] theorem State.setMember_hrn (s : State) (a : Addr) (m : Member) : (s.setMember a m).hrn = s.hrn := rfl
@[simp] theorem State.setMember_jnl (s : State) (a : Addr) (m : Member) : (s.setMember a m).jnl = s.jnl := rfl

@[simp] theorem State.setFieldPoint_pending (s : State) (p : Point) (f : FieldPoint) : (s.setFieldPoint p f).pending = s.pending := rfl
@[simp] theorem State.setFieldPoint_pins (s : State) (p : Point) (f : FieldPoint) : (s.setFieldPoint p f).pins = s.pins := rfl
@[simp] theorem State.setFieldPoint_tmb (s : State) (p : Point) (f : FieldPoint) : (s.setFieldPoint p f).tmb = s.tmb := rfl
@[simp] theorem State.setFieldPoint_loader (s : State) (p : Point) (f : FieldPoint) : (s.setFieldPoint p f).loader = s.loader := rfl
@[simp] theorem State.setFieldPoint_config (s : State) (p : Point) (f : FieldPoint) : (s.setFieldPoint p f).config = s.config := rfl
@[simp] theorem State.setFieldPoint_fiu (s : State) (p : Point) (f : FieldPoint) : (s.setFieldPoint p f).fiu = { s.fiu with points := s.fiu.points.set p f } := rfl
@[simp] theorem State.setFieldPoint_psq (s : State) (p : Point) (f : FieldPoint) : (s.setFieldPoint p f).psq = s.psq := rfl
@[simp] theorem State.setFieldPoint_gat (s : State) (p : Point) (f : FieldPoint) : (s.setFieldPoint p f).gat = s.gat := rfl
@[simp] theorem State.setFieldPoint_bus (s : State) (p : Point) (f : FieldPoint) : (s.setFieldPoint p f).bus = s.bus := rfl
@[simp] theorem State.setFieldPoint_mbu (s : State) (p : Point) (f : FieldPoint) : (s.setFieldPoint p f).mbu = s.mbu := rfl
@[simp] theorem State.setFieldPoint_pnl (s : State) (p : Point) (f : FieldPoint) : (s.setFieldPoint p f).pnl = s.pnl := rfl
@[simp] theorem State.setFieldPoint_hrn (s : State) (p : Point) (f : FieldPoint) : (s.setFieldPoint p f).hrn = s.hrn := rfl
@[simp] theorem State.setFieldPoint_jnl (s : State) (p : Point) (f : FieldPoint) : (s.setFieldPoint p f).jnl = s.jnl := rfl

@[simp] theorem State.setLine_pending (s : State) (l : Line) : (s.setLine l).pending = s.pending := rfl
@[simp] theorem State.setLine_pins (s : State) (l : Line) : (s.setLine l).pins = s.pins := rfl
@[simp] theorem State.setLine_tmb (s : State) (l : Line) : (s.setLine l).tmb = s.tmb := rfl
@[simp] theorem State.setLine_loader (s : State) (l : Line) : (s.setLine l).loader = s.loader := rfl
@[simp] theorem State.setLine_config (s : State) (l : Line) : (s.setLine l).config = s.config := rfl
@[simp] theorem State.setLine_fiu (s : State) (l : Line) : (s.setLine l).fiu = s.fiu := rfl
@[simp] theorem State.setLine_psq (s : State) (l : Line) : (s.setLine l).psq = s.psq := rfl
@[simp] theorem State.setLine_gat (s : State) (l : Line) : (s.setLine l).gat = s.gat := rfl
@[simp] theorem State.setLine_bus (s : State) (l : Line) : (s.setLine l).bus = { s.bus with line := l } := rfl
@[simp] theorem State.setLine_mbu (s : State) (l : Line) : (s.setLine l).mbu = s.mbu := rfl
@[simp] theorem State.setLine_pnl (s : State) (l : Line) : (s.setLine l).pnl = s.pnl := rfl
@[simp] theorem State.setLine_hrn (s : State) (l : Line) : (s.setLine l).hrn = s.hrn := rfl
@[simp] theorem State.setLine_jnl (s : State) (l : Line) : (s.setLine l).jnl = s.jnl := rfl

@[simp] theorem State.setQueue_pending (s : State) (q : List TxEntry) : (s.setQueue q).pending = s.pending := rfl
@[simp] theorem State.setQueue_pins (s : State) (q : List TxEntry) : (s.setQueue q).pins = s.pins := rfl
@[simp] theorem State.setQueue_tmb (s : State) (q : List TxEntry) : (s.setQueue q).tmb = s.tmb := rfl
@[simp] theorem State.setQueue_loader (s : State) (q : List TxEntry) : (s.setQueue q).loader = s.loader := rfl
@[simp] theorem State.setQueue_config (s : State) (q : List TxEntry) : (s.setQueue q).config = s.config := rfl
@[simp] theorem State.setQueue_fiu (s : State) (q : List TxEntry) : (s.setQueue q).fiu = s.fiu := rfl
@[simp] theorem State.setQueue_psq (s : State) (q : List TxEntry) : (s.setQueue q).psq = s.psq := rfl
@[simp] theorem State.setQueue_gat (s : State) (q : List TxEntry) : (s.setQueue q).gat = s.gat := rfl
@[simp] theorem State.setQueue_bus (s : State) (q : List TxEntry) : (s.setQueue q).bus = { s.bus with queue := q } := rfl
@[simp] theorem State.setQueue_mbu (s : State) (q : List TxEntry) : (s.setQueue q).mbu = s.mbu := rfl
@[simp] theorem State.setQueue_pnl (s : State) (q : List TxEntry) : (s.setQueue q).pnl = s.pnl := rfl
@[simp] theorem State.setQueue_hrn (s : State) (q : List TxEntry) : (s.setQueue q).hrn = s.hrn := rfl
@[simp] theorem State.setQueue_jnl (s : State) (q : List TxEntry) : (s.setQueue q).jnl = s.jnl := rfl

@[simp] theorem State.setMode_pending (s : State) (m : Mode) : (s.setMode m).pending = s.pending := rfl
@[simp] theorem State.setMode_pins (s : State) (m : Mode) : (s.setMode m).pins = s.pins := rfl
@[simp] theorem State.setMode_tmb (s : State) (m : Mode) : (s.setMode m).tmb = s.tmb := rfl
@[simp] theorem State.setMode_loader (s : State) (m : Mode) : (s.setMode m).loader = s.loader := rfl
@[simp] theorem State.setMode_config (s : State) (m : Mode) : (s.setMode m).config = s.config := rfl
@[simp] theorem State.setMode_fiu (s : State) (m : Mode) : (s.setMode m).fiu = s.fiu := rfl
@[simp] theorem State.setMode_psq (s : State) (m : Mode) : (s.setMode m).psq = s.psq := rfl
@[simp] theorem State.setMode_gat (s : State) (m : Mode) : (s.setMode m).gat = s.gat := rfl
@[simp] theorem State.setMode_bus (s : State) (m : Mode) : (s.setMode m).bus = s.bus := rfl
@[simp] theorem State.setMode_mbu (s : State) (m : Mode) : (s.setMode m).mbu = { s.mbu with mode := m } := rfl
@[simp] theorem State.setMode_pnl (s : State) (m : Mode) : (s.setMode m).pnl = s.pnl := rfl
@[simp] theorem State.setMode_hrn (s : State) (m : Mode) : (s.setMode m).hrn = s.hrn := rfl
@[simp] theorem State.setMode_jnl (s : State) (m : Mode) : (s.setMode m).jnl = s.jnl := rfl

end Sys2Proof.Machine
end

