-- ==== Sys2Proof/Laws/Table.lean ====
section
/-! SUPPORT. The lemmas of the table of sixteen: reads after writes, equality by entries, tests. -/
namespace Sys2Proof.Machine

theorem Tab.ext {α : Type} {t u : Tab α} (h : t.cells = u.cells) : t = u := by
  cases t; cases u; cases h; rfl

theorem mem_indices (i : Fin 16) : i ∈ indices := by revert i; decide

theorem indices_getElem (i : Fin 16) (h : i.val < indices.length) : indices[i.val] = i := by revert i; decide

theorem Tab.get_eq_getElem {α : Type} (t : Tab α) (i : Fin 16) :
    t.get i = t.cells[i.val]'(by have := t.size; have := i.isLt; omega) := rfl

@[simp] theorem Tab.get_set_self {α : Type} (t : Tab α) (i : Fin 16) (v : α) : (t.set i v).get i = v := by
  simp [Tab.get, Tab.set]

theorem Tab.get_set_of_ne {α : Type} (t : Tab α) (i j : Fin 16) (v : α) (h : j ≠ i) : (t.set i v).get j = t.get j := by
  have : i.val ≠ j.val := fun e => h (Fin.ext e.symm)
  simp [Tab.get, Tab.set, this]

theorem Tab.get_set {α : Type} (t : Tab α) (i j : Fin 16) (v : α) : (t.set i v).get j = if j = i then v else t.get j := by
  by_cases h : j = i
  · subst h; simp
  · simp [h, Tab.get_set_of_ne]

@[simp] theorem Tab.get_ofFn {α : Type} (f : Fin 16 → α) (i : Fin 16) : (Tab.ofFn f).get i = f i := by
  simp only [Tab.get, Tab.ofFn, List.get_eq_getElem, List.getElem_map]
  rw [indices_getElem i]

@[simp] theorem Tab.get_fill {α : Type} (v : α) (i : Fin 16) : (Tab.fill v).get i = v := by simp [Tab.fill]

@[simp] theorem Tab.get_map {α β : Type} (f : α → β) (t : Tab α) (i : Fin 16) : (t.map f).get i = f (t.get i) := by
  simp [Tab.get, Tab.map]

/-- Two tables with the same entries are equal. -/
theorem Tab.ext_get {α : Type} {t u : Tab α} (h : ∀ i, t.get i = u.get i) : t = u := by
  apply Tab.ext
  apply List.ext_getElem (by rw [t.size, u.size])
  intro n h1 h2
  have hn : n < 16 := by have := t.size; omega
  exact h ⟨n, hn⟩

@[simp] theorem Tab.set_get_self {α : Type} (t : Tab α) (i : Fin 16) : t.set i (t.get i) = t := by
  apply Tab.ext_get; intro j; rw [Tab.get_set]; split
  · rename_i h; rw [h]
  · rfl

/-- A test holds of some entry. -/
theorem Tab.any_iff {α : Type} (f : α → Bool) (t : Tab α) : t.any f = true ↔ ∃ i, f (t.get i) = true := by
  simp only [Tab.any, List.any_eq_true]
  constructor
  · rintro ⟨x, hx, hf⟩
    obtain ⟨n, hn, rfl⟩ := List.getElem_of_mem hx
    have : n < 16 := by have := t.size; omega
    exact ⟨⟨n, this⟩, hf⟩
  · rintro ⟨i, hi⟩
    exact ⟨_, List.get_mem _ _, hi⟩

/-- A test holds of no entry. -/
theorem Tab.any_false {α : Type} (f : α → Bool) (t : Tab α) : t.any f = false ↔ ∀ i, f (t.get i) = false := by
  constructor
  · intro h i
    cases hf : f (t.get i) with
    | false => rfl
    | true => have := (Tab.any_iff f t).2 ⟨i, hf⟩; rw [h] at this; cases this
  · intro h
    cases hf : t.any f with
    | false => rfl
    | true => obtain ⟨i, hi⟩ := (Tab.any_iff f t).1 hf; rw [h i] at hi; cases hi

/-- The lowest index found satisfies the test. -/
theorem Tab.lowest_some {α : Type} {f : α → Bool} {t : Tab α} {i : Fin 16} (h : t.lowest f = some i) :
    f (t.get i) = true := by
  have := List.find?_some h; simpa using this

/-- No index is found exactly when no entry satisfies the test. -/
theorem Tab.lowest_none {α : Type} {f : α → Bool} {t : Tab α} : t.lowest f = none ↔ ∀ i, f (t.get i) = false := by
  simp only [Tab.lowest, List.find?_eq_none]
  constructor
  · intro h i; have := h i (mem_indices i); simpa using this
  · intro h i _; simp [h i]

end Sys2Proof.Machine
end

