-- ==== Sys2Proof/Laws/Frames.lean ====
section
/-! SUPPORT. What each shared operation leaves alone: one lemma per operation, naming every unit it never touches. -/
namespace Sys2Proof.Machine

@[simp] theorem settleIdleWait_frame (s : State) :
    (settleIdleWait s).pending = s.pending ∧ (settleIdleWait s).pins = s.pins ∧ (settleIdleWait s).tmb = s.tmb ∧ (settleIdleWait s).loader = s.loader ∧ (settleIdleWait s).config = s.config ∧ (settleIdleWait s).fiu = s.fiu ∧ (settleIdleWait s).psq = s.psq ∧ (settleIdleWait s).gat = s.gat ∧ (settleIdleWait s).mbu = s.mbu ∧ (settleIdleWait s).pnl = s.pnl ∧ (settleIdleWait s).hrn = s.hrn ∧ (settleIdleWait s).jnl = s.jnl := by unfold settleIdleWait; (repeat' split) <;> simp

@[simp] theorem restartIdleWait_frame (s : State) :
    (restartIdleWait s).pending = s.pending ∧ (restartIdleWait s).pins = s.pins ∧ (restartIdleWait s).tmb = s.tmb ∧ (restartIdleWait s).loader = s.loader ∧ (restartIdleWait s).config = s.config ∧ (restartIdleWait s).fiu = s.fiu ∧ (restartIdleWait s).psq = s.psq ∧ (restartIdleWait s).gat = s.gat ∧ (restartIdleWait s).mbu = s.mbu ∧ (restartIdleWait s).pnl = s.pnl ∧ (restartIdleWait s).hrn = s.hrn ∧ (restartIdleWait s).jnl = s.jnl := by unfold restartIdleWait; simp

@[simp] theorem beginRecord_frame (s : State) :
    (beginRecord s).pending = s.pending ∧ (beginRecord s).pins = s.pins ∧ (beginRecord s).tmb = s.tmb ∧ (beginRecord s).loader = s.loader ∧ (beginRecord s).config = s.config ∧ (beginRecord s).fiu = s.fiu ∧ (beginRecord s).psq = s.psq ∧ (beginRecord s).gat = s.gat ∧ (beginRecord s).bus = s.bus ∧ (beginRecord s).mbu = s.mbu ∧ (beginRecord s).pnl = s.pnl ∧ (beginRecord s).hrn = s.hrn := by unfold beginRecord; (repeat' split) <;> simp

@[simp] theorem offerRecord_frame (r : JournalRecord) (s : State) :
    (offerRecord r s).pending = s.pending ∧ (offerRecord r s).pins = s.pins ∧ (offerRecord r s).tmb = s.tmb ∧ (offerRecord r s).loader = s.loader ∧ (offerRecord r s).config = s.config ∧ (offerRecord r s).fiu = s.fiu ∧ (offerRecord r s).psq = s.psq ∧ (offerRecord r s).gat = s.gat ∧ (offerRecord r s).bus = s.bus ∧ (offerRecord r s).mbu = s.mbu ∧ (offerRecord r s).pnl = s.pnl ∧ (offerRecord r s).hrn = s.hrn := by unfold offerRecord; simp

@[simp] theorem departRecord_frame (s : State) :
    (departRecord s).pending = s.pending ∧ (departRecord s).pins = s.pins ∧ (departRecord s).tmb = s.tmb ∧ (departRecord s).loader = s.loader ∧ (departRecord s).config = s.config ∧ (departRecord s).fiu = s.fiu ∧ (departRecord s).psq = s.psq ∧ (departRecord s).gat = s.gat ∧ (departRecord s).bus = s.bus ∧ (departRecord s).mbu = s.mbu ∧ (departRecord s).pnl = s.pnl ∧ (departRecord s).hrn = s.hrn := by unfold departRecord; simp

@[simp] theorem changeMode_frame (m : Mode) (c : ModeCause) (s : State) :
    (changeMode m c s).pending = s.pending ∧ (changeMode m c s).pins = s.pins ∧ (changeMode m c s).tmb = s.tmb ∧ (changeMode m c s).loader = s.loader ∧ (changeMode m c s).config = s.config ∧ (changeMode m c s).fiu = s.fiu ∧ (changeMode m c s).psq = s.psq ∧ (changeMode m c s).gat = s.gat ∧ (changeMode m c s).bus = s.bus ∧ (changeMode m c s).pnl = s.pnl ∧ (changeMode m c s).hrn = s.hrn := by unfold changeMode; simp

@[simp] theorem sound_frame (s : State) :
    (sound s).pending = s.pending ∧ (sound s).pins = s.pins ∧ (sound s).tmb = s.tmb ∧ (sound s).loader = s.loader ∧ (sound s).config = s.config ∧ (sound s).fiu = s.fiu ∧ (sound s).psq = s.psq ∧ (sound s).gat = s.gat ∧ (sound s).bus = s.bus ∧ (sound s).mbu = s.mbu ∧ (sound s).pnl = s.pnl ∧ (sound s).jnl = s.jnl := by unfold sound; simp

@[simp] theorem reviewHorn_frame (s : State) :
    (reviewHorn s).pending = s.pending ∧ (reviewHorn s).pins = s.pins ∧ (reviewHorn s).tmb = s.tmb ∧ (reviewHorn s).loader = s.loader ∧ (reviewHorn s).config = s.config ∧ (reviewHorn s).fiu = s.fiu ∧ (reviewHorn s).psq = s.psq ∧ (reviewHorn s).gat = s.gat ∧ (reviewHorn s).bus = s.bus ∧ (reviewHorn s).mbu = s.mbu ∧ (reviewHorn s).pnl = s.pnl ∧ (reviewHorn s).jnl = s.jnl := by unfold reviewHorn; (repeat' split) <;> simp

@[simp] theorem enteredAlert_frame (st : Addr) (p : Point) (z : Zone) (s : State) :
    (enteredAlert st p z s).pending = s.pending ∧ (enteredAlert st p z s).pins = s.pins ∧ (enteredAlert st p z s).tmb = s.tmb ∧ (enteredAlert st p z s).loader = s.loader ∧ (enteredAlert st p z s).config = s.config ∧ (enteredAlert st p z s).fiu = s.fiu ∧ (enteredAlert st p z s).psq = s.psq ∧ (enteredAlert st p z s).gat = s.gat ∧ (enteredAlert st p z s).bus = s.bus ∧ (enteredAlert st p z s).mbu = s.mbu ∧ (enteredAlert st p z s).pnl = s.pnl ∧ (enteredAlert st p z s).jnl = s.jnl := by unfold enteredAlert; (repeat' split) <;> simp

@[simp] theorem chimeClaim_frame (s : State) :
    (chimeClaim s).pending = s.pending ∧ (chimeClaim s).pins = s.pins ∧ (chimeClaim s).tmb = s.tmb ∧ (chimeClaim s).loader = s.loader ∧ (chimeClaim s).config = s.config ∧ (chimeClaim s).fiu = s.fiu ∧ (chimeClaim s).psq = s.psq ∧ (chimeClaim s).gat = s.gat ∧ (chimeClaim s).bus = s.bus ∧ (chimeClaim s).mbu = s.mbu ∧ (chimeClaim s).pnl = s.pnl ∧ (chimeClaim s).jnl = s.jnl := by unfold chimeClaim; (repeat' split) <;> simp

@[simp] theorem enteredReturned_frame (z : Zone) (s : State) :
    (enteredReturned z s).pending = s.pending ∧ (enteredReturned z s).pins = s.pins ∧ (enteredReturned z s).tmb = s.tmb ∧ (enteredReturned z s).loader = s.loader ∧ (enteredReturned z s).config = s.config ∧ (enteredReturned z s).fiu = s.fiu ∧ (enteredReturned z s).psq = s.psq ∧ (enteredReturned z s).gat = s.gat ∧ (enteredReturned z s).bus = s.bus ∧ (enteredReturned z s).mbu = s.mbu ∧ (enteredReturned z s).pnl = s.pnl ∧ (enteredReturned z s).jnl = s.jnl := by unfold enteredReturned; (repeat' split) <;> simp

@[simp] theorem silenceClaim_frame (s : State) :
    (silenceClaim s).pending = s.pending ∧ (silenceClaim s).pins = s.pins ∧ (silenceClaim s).tmb = s.tmb ∧ (silenceClaim s).loader = s.loader ∧ (silenceClaim s).config = s.config ∧ (silenceClaim s).fiu = s.fiu ∧ (silenceClaim s).psq = s.psq ∧ (silenceClaim s).gat = s.gat ∧ (silenceClaim s).bus = s.bus ∧ (silenceClaim s).mbu = s.mbu ∧ (silenceClaim s).pnl = s.pnl ∧ (silenceClaim s).jnl = s.jnl := by unfold silenceClaim; (repeat' split) <;> simp

@[simp] theorem endChime_frame (s : State) :
    (endChime s).pending = s.pending ∧ (endChime s).pins = s.pins ∧ (endChime s).tmb = s.tmb ∧ (endChime s).loader = s.loader ∧ (endChime s).config = s.config ∧ (endChime s).fiu = s.fiu ∧ (endChime s).psq = s.psq ∧ (endChime s).gat = s.gat ∧ (endChime s).bus = s.bus ∧ (endChime s).mbu = s.mbu ∧ (endChime s).pnl = s.pnl ∧ (endChime s).jnl = s.jnl := by unfold endChime; simp

@[simp] theorem fadeHorn_frame (s : State) :
    (fadeHorn s).pending = s.pending ∧ (fadeHorn s).pins = s.pins ∧ (fadeHorn s).tmb = s.tmb ∧ (fadeHorn s).loader = s.loader ∧ (fadeHorn s).config = s.config ∧ (fadeHorn s).fiu = s.fiu ∧ (fadeHorn s).psq = s.psq ∧ (fadeHorn s).gat = s.gat ∧ (fadeHorn s).bus = s.bus ∧ (fadeHorn s).mbu = s.mbu ∧ (fadeHorn s).pnl = s.pnl ∧ (fadeHorn s).jnl = s.jnl := by unfold fadeHorn; simp

@[simp] theorem haltHorn_frame (s : State) :
    (haltHorn s).pending = s.pending ∧ (haltHorn s).pins = s.pins ∧ (haltHorn s).tmb = s.tmb ∧ (haltHorn s).loader = s.loader ∧ (haltHorn s).config = s.config ∧ (haltHorn s).fiu = s.fiu ∧ (haltHorn s).psq = s.psq ∧ (haltHorn s).gat = s.gat ∧ (haltHorn s).bus = s.bus ∧ (haltHorn s).mbu = s.mbu ∧ (haltHorn s).pnl = s.pnl ∧ (haltHorn s).jnl = s.jnl := by unfold haltHorn; simp

@[simp] theorem claimStatus_frame (f : CopyStatus → CopyStatus) (n : JournalRecord) (st : Addr) (s : State) :
    (claimStatus f n st s).pending = s.pending ∧ (claimStatus f n st s).pins = s.pins ∧ (claimStatus f n st s).tmb = s.tmb ∧ (claimStatus f n st s).loader = s.loader ∧ (claimStatus f n st s).config = s.config ∧ (claimStatus f n st s).fiu = s.fiu ∧ (claimStatus f n st s).psq = s.psq ∧ (claimStatus f n st s).bus = s.bus ∧ (claimStatus f n st s).mbu = s.mbu ∧ (claimStatus f n st s).pnl = s.pnl := by unfold claimStatus; (repeat' split) <;> simp

@[simp] theorem claimLost_frame (st : Addr) (s : State) :
    (claimLost st s).pending = s.pending ∧ (claimLost st s).pins = s.pins ∧ (claimLost st s).tmb = s.tmb ∧ (claimLost st s).loader = s.loader ∧ (claimLost st s).config = s.config ∧ (claimLost st s).fiu = s.fiu ∧ (claimLost st s).psq = s.psq ∧ (claimLost st s).bus = s.bus ∧ (claimLost st s).mbu = s.mbu ∧ (claimLost st s).pnl = s.pnl := by unfold claimLost; simp

@[simp] theorem claimStale_frame (st : Addr) (s : State) :
    (claimStale st s).pending = s.pending ∧ (claimStale st s).pins = s.pins ∧ (claimStale st s).tmb = s.tmb ∧ (claimStale st s).loader = s.loader ∧ (claimStale st s).config = s.config ∧ (claimStale st s).fiu = s.fiu ∧ (claimStale st s).psq = s.psq ∧ (claimStale st s).bus = s.bus ∧ (claimStale st s).mbu = s.mbu ∧ (claimStale st s).pnl = s.pnl := by unfold claimStale; simp

@[simp] theorem placeTail_frame (b : TxBody) (s : State) :
    (placeTail b s).pending = s.pending ∧ (placeTail b s).pins = s.pins ∧ (placeTail b s).tmb = s.tmb ∧ (placeTail b s).loader = s.loader ∧ (placeTail b s).config = s.config ∧ (placeTail b s).fiu = s.fiu ∧ (placeTail b s).psq = s.psq ∧ (placeTail b s).gat = s.gat ∧ (placeTail b s).mbu = s.mbu ∧ (placeTail b s).pnl = s.pnl ∧ (placeTail b s).hrn = s.hrn ∧ (placeTail b s).jnl = s.jnl := by unfold placeTail; simp

@[simp] theorem placeRequest_frame (b : TxBody) (s : State) :
    (placeRequest b s).pending = s.pending ∧ (placeRequest b s).pins = s.pins ∧ (placeRequest b s).tmb = s.tmb ∧ (placeRequest b s).loader = s.loader ∧ (placeRequest b s).config = s.config ∧ (placeRequest b s).fiu = s.fiu ∧ (placeRequest b s).psq = s.psq ∧ (placeRequest b s).gat = s.gat ∧ (placeRequest b s).mbu = s.mbu ∧ (placeRequest b s).pnl = s.pnl ∧ (placeRequest b s).hrn = s.hrn ∧ (placeRequest b s).jnl = s.jnl := by unfold placeRequest; simp

@[simp] theorem supersede_frame (s : State) :
    (supersede s).pending = s.pending ∧ (supersede s).pins = s.pins ∧ (supersede s).tmb = s.tmb ∧ (supersede s).loader = s.loader ∧ (supersede s).config = s.config ∧ (supersede s).fiu = s.fiu ∧ (supersede s).gat = s.gat ∧ (supersede s).mbu = s.mbu ∧ (supersede s).pnl = s.pnl ∧ (supersede s).hrn = s.hrn ∧ (supersede s).jnl = s.jnl := by unfold supersede; simp

@[simp] theorem placeSnapshot_frame (s : State) :
    (placeSnapshot s).pending = s.pending ∧ (placeSnapshot s).pins = s.pins ∧ (placeSnapshot s).tmb = s.tmb ∧ (placeSnapshot s).loader = s.loader ∧ (placeSnapshot s).config = s.config ∧ (placeSnapshot s).fiu = s.fiu ∧ (placeSnapshot s).gat = s.gat ∧ (placeSnapshot s).mbu = s.mbu ∧ (placeSnapshot s).pnl = s.pnl ∧ (placeSnapshot s).hrn = s.hrn ∧ (placeSnapshot s).jnl = s.jnl := by unfold placeSnapshot; (repeat' split) <;> simp

@[simp] theorem serveOwed_frame (p : Point) (s : State) :
    (serveOwed p s).pending = s.pending ∧ (serveOwed p s).pins = s.pins ∧ (serveOwed p s).tmb = s.tmb ∧ (serveOwed p s).loader = s.loader ∧ (serveOwed p s).config = s.config ∧ (serveOwed p s).fiu = s.fiu ∧ (serveOwed p s).gat = s.gat ∧ (serveOwed p s).mbu = s.mbu ∧ (serveOwed p s).pnl = s.pnl ∧ (serveOwed p s).hrn = s.hrn ∧ (serveOwed p s).jnl = s.jnl := by unfold serveOwed; simp

/-- What one offer of a free entry leaves alone: it moves claims into the queue and nothing else. -/
theorem offerOne_frame (s t : State) (h : offerOne s = some t) :
    t.pending = s.pending ∧ t.pins = s.pins ∧ t.tmb = s.tmb ∧ t.loader = s.loader ∧ t.config = s.config ∧ t.fiu = s.fiu ∧ t.gat = s.gat ∧ t.hrn = s.hrn ∧ t.jnl = s.jnl := by
  revert h; unfold offerOne; (repeat' split) <;> intro h <;> simp_all <;> (subst h; simp)

@[simp] theorem offerMany_frame (s : State) (n : Nat) :
    (offerMany n s).pending = s.pending ∧ (offerMany n s).pins = s.pins ∧ (offerMany n s).tmb = s.tmb ∧ (offerMany n s).loader = s.loader ∧ (offerMany n s).config = s.config ∧ (offerMany n s).fiu = s.fiu ∧ (offerMany n s).gat = s.gat ∧ (offerMany n s).hrn = s.hrn ∧ (offerMany n s).jnl = s.jnl := by
  induction n generalizing s with
  | zero => simp [offerMany]
  | succ n ih =>
    unfold offerMany
    split
    · rename_i s' h
      have h1 := offerOne_frame s s' h
      have h2 := ih s'
      simp only [h1, h2, and_self]
    · simp

@[simp] theorem offers_frame (s : State) :
    (offers s).pending = s.pending ∧ (offers s).pins = s.pins ∧ (offers s).tmb = s.tmb ∧ (offers s).loader = s.loader ∧ (offers s).config = s.config ∧ (offers s).fiu = s.fiu ∧ (offers s).gat = s.gat ∧ (offers s).hrn = s.hrn ∧ (offers s).jnl = s.jnl := by unfold offers; exact offerMany_frame s 52

@[simp] theorem claimSnapshot_frame (s : State) :
    (claimSnapshot s).pending = s.pending ∧ (claimSnapshot s).pins = s.pins ∧ (claimSnapshot s).tmb = s.tmb ∧ (claimSnapshot s).loader = s.loader ∧ (claimSnapshot s).config = s.config ∧ (claimSnapshot s).fiu = s.fiu ∧ (claimSnapshot s).gat = s.gat ∧ (claimSnapshot s).hrn = s.hrn ∧ (claimSnapshot s).jnl = s.jnl := by unfold claimSnapshot; (repeat' split) <;> simp

@[simp] theorem claimJoin_frame (s : State) :
    (claimJoin s).pending = s.pending ∧ (claimJoin s).pins = s.pins ∧ (claimJoin s).tmb = s.tmb ∧ (claimJoin s).loader = s.loader ∧ (claimJoin s).config = s.config ∧ (claimJoin s).fiu = s.fiu ∧ (claimJoin s).psq = s.psq ∧ (claimJoin s).gat = s.gat ∧ (claimJoin s).mbu = s.mbu ∧ (claimJoin s).pnl = s.pnl ∧ (claimJoin s).hrn = s.hrn ∧ (claimJoin s).jnl = s.jnl := by unfold claimJoin; (repeat' split) <;> simp

@[simp] theorem claimResync_frame (t : Addr) (s : State) :
    (claimResync t s).pending = s.pending ∧ (claimResync t s).pins = s.pins ∧ (claimResync t s).tmb = s.tmb ∧ (claimResync t s).loader = s.loader ∧ (claimResync t s).config = s.config ∧ (claimResync t s).fiu = s.fiu ∧ (claimResync t s).psq = s.psq ∧ (claimResync t s).gat = s.gat ∧ (claimResync t s).pnl = s.pnl ∧ (claimResync t s).hrn = s.hrn ∧ (claimResync t s).jnl = s.jnl := by unfold claimResync; (repeat' split) <;> simp

@[simp] theorem claimReplay_frame (t : Addr) (s : State) :
    (claimReplay t s).pending = s.pending ∧ (claimReplay t s).pins = s.pins ∧ (claimReplay t s).tmb = s.tmb ∧ (claimReplay t s).loader = s.loader ∧ (claimReplay t s).config = s.config ∧ (claimReplay t s).fiu = s.fiu ∧ (claimReplay t s).psq = s.psq ∧ (claimReplay t s).gat = s.gat ∧ (claimReplay t s).pnl = s.pnl ∧ (claimReplay t s).hrn = s.hrn ∧ (claimReplay t s).jnl = s.jnl := by unfold claimReplay; (repeat' split) <;> simp

@[simp] theorem claimAck_frame (s : State) :
    (claimAck s).pending = s.pending ∧ (claimAck s).pins = s.pins ∧ (claimAck s).tmb = s.tmb ∧ (claimAck s).loader = s.loader ∧ (claimAck s).config = s.config ∧ (claimAck s).fiu = s.fiu ∧ (claimAck s).psq = s.psq ∧ (claimAck s).gat = s.gat ∧ (claimAck s).mbu = s.mbu ∧ (claimAck s).hrn = s.hrn ∧ (claimAck s).jnl = s.jnl := by unfold claimAck; (repeat' split) <;> simp

@[simp] theorem claimReset_frame (s : State) :
    (claimReset s).pending = s.pending ∧ (claimReset s).pins = s.pins ∧ (claimReset s).tmb = s.tmb ∧ (claimReset s).loader = s.loader ∧ (claimReset s).config = s.config ∧ (claimReset s).fiu = s.fiu ∧ (claimReset s).psq = s.psq ∧ (claimReset s).gat = s.gat ∧ (claimReset s).mbu = s.mbu ∧ (claimReset s).hrn = s.hrn ∧ (claimReset s).jnl = s.jnl := by unfold claimReset; (repeat' split) <;> simp

@[simp] theorem withdrawReplay_frame (t : Addr) (s : State) :
    (withdrawReplay t s).pending = s.pending ∧ (withdrawReplay t s).pins = s.pins ∧ (withdrawReplay t s).tmb = s.tmb ∧ (withdrawReplay t s).loader = s.loader ∧ (withdrawReplay t s).config = s.config ∧ (withdrawReplay t s).fiu = s.fiu ∧ (withdrawReplay t s).gat = s.gat ∧ (withdrawReplay t s).hrn = s.hrn ∧ (withdrawReplay t s).jnl = s.jnl := by unfold withdrawReplay; dsimp only; split <;> simp

@[simp] theorem withdrawMark_frame (s : State) :
    (withdrawMark s).pending = s.pending ∧ (withdrawMark s).pins = s.pins ∧ (withdrawMark s).tmb = s.tmb ∧ (withdrawMark s).loader = s.loader ∧ (withdrawMark s).config = s.config ∧ (withdrawMark s).fiu = s.fiu ∧ (withdrawMark s).psq = s.psq ∧ (withdrawMark s).gat = s.gat ∧ (withdrawMark s).mbu = s.mbu ∧ (withdrawMark s).pnl = s.pnl ∧ (withdrawMark s).hrn = s.hrn ∧ (withdrawMark s).jnl = s.jnl := by unfold withdrawMark; (repeat' split) <;> simp

@[simp] theorem announce_frame (p : Point) (s : State) :
    (announce p s).pending = s.pending ∧ (announce p s).pins = s.pins ∧ (announce p s).tmb = s.tmb ∧ (announce p s).loader = s.loader ∧ (announce p s).config = s.config ∧ (announce p s).fiu = s.fiu ∧ (announce p s).gat = s.gat ∧ (announce p s).mbu = s.mbu ∧ (announce p s).pnl = s.pnl ∧ (announce p s).hrn = s.hrn ∧ (announce p s).jnl = s.jnl := by unfold announce; dsimp only; (repeat' split) <;> simp

@[simp] theorem takeEvent_frame (p : Point) (ev : PointEvent) (stamp : Millis) (s : State) :
    (takeEvent p ev stamp s).pending = s.pending ∧ (takeEvent p ev stamp s).pins = s.pins ∧ (takeEvent p ev stamp s).tmb = s.tmb ∧ (takeEvent p ev stamp s).loader = s.loader ∧ (takeEvent p ev stamp s).config = s.config ∧ (takeEvent p ev stamp s).fiu = s.fiu ∧ (takeEvent p ev stamp s).gat = s.gat ∧ (takeEvent p ev stamp s).mbu = s.mbu ∧ (takeEvent p ev stamp s).pnl = s.pnl ∧ (takeEvent p ev stamp s).hrn = s.hrn ∧ (takeEvent p ev stamp s).jnl = s.jnl := by unfold takeEvent; dsimp only; (repeat' split) <;> simp

@[simp] theorem reconcileAll_frame (s : State) :
    (reconcileAll s).pending = s.pending ∧ (reconcileAll s).pins = s.pins ∧ (reconcileAll s).tmb = s.tmb ∧ (reconcileAll s).loader = s.loader ∧ (reconcileAll s).config = s.config ∧ (reconcileAll s).fiu = s.fiu ∧ (reconcileAll s).gat = s.gat ∧ (reconcileAll s).hrn = s.hrn ∧ (reconcileAll s).jnl = s.jnl := by unfold reconcileAll; simp

@[simp] theorem adoptReplay_frame (es : Tab Entry) (s : State) :
    (adoptReplay es s).pending = s.pending ∧ (adoptReplay es s).pins = s.pins ∧ (adoptReplay es s).tmb = s.tmb ∧ (adoptReplay es s).loader = s.loader ∧ (adoptReplay es s).config = s.config ∧ (adoptReplay es s).fiu = s.fiu ∧ (adoptReplay es s).gat = s.gat ∧ (adoptReplay es s).hrn = s.hrn ∧ (adoptReplay es s).jnl = s.jnl := by unfold adoptReplay; (repeat' split) <;> simp

@[simp] theorem freshStart_frame (s : State) :
    (freshStart s).pending = s.pending ∧ (freshStart s).pins = s.pins ∧ (freshStart s).tmb = s.tmb ∧ (freshStart s).loader = s.loader ∧ (freshStart s).config = s.config ∧ (freshStart s).fiu = s.fiu ∧ (freshStart s).gat = s.gat ∧ (freshStart s).hrn = s.hrn ∧ (freshStart s).jnl = s.jnl := by unfold freshStart; (repeat' split) <;> simp

@[simp] theorem oweDiscarded_frame (p : Point) (s : State) :
    (oweDiscarded p s).pending = s.pending ∧ (oweDiscarded p s).pins = s.pins ∧ (oweDiscarded p s).tmb = s.tmb ∧ (oweDiscarded p s).loader = s.loader ∧ (oweDiscarded p s).config = s.config ∧ (oweDiscarded p s).fiu = s.fiu ∧ (oweDiscarded p s).gat = s.gat ∧ (oweDiscarded p s).bus = s.bus ∧ (oweDiscarded p s).mbu = s.mbu ∧ (oweDiscarded p s).pnl = s.pnl ∧ (oweDiscarded p s).hrn = s.hrn ∧ (oweDiscarded p s).jnl = s.jnl := by unfold oweDiscarded; (repeat' split) <;> simp

@[simp] theorem releaseMarkTimer_frame (s : State) :
    (releaseMarkTimer s).pending = s.pending ∧ (releaseMarkTimer s).pins = s.pins ∧ (releaseMarkTimer s).loader = s.loader ∧ (releaseMarkTimer s).config = s.config ∧ (releaseMarkTimer s).fiu = s.fiu ∧ (releaseMarkTimer s).psq = s.psq ∧ (releaseMarkTimer s).gat = s.gat ∧ (releaseMarkTimer s).bus = s.bus ∧ (releaseMarkTimer s).mbu = s.mbu ∧ (releaseMarkTimer s).pnl = s.pnl ∧ (releaseMarkTimer s).hrn = s.hrn ∧ (releaseMarkTimer s).jnl = s.jnl := by unfold releaseMarkTimer; simp

@[simp] theorem applyMark_frame (t : Millis) (s : State) :
    (applyMark t s).pending = s.pending ∧ (applyMark t s).pins = s.pins ∧ (applyMark t s).loader = s.loader ∧ (applyMark t s).config = s.config ∧ (applyMark t s).fiu = s.fiu ∧ (applyMark t s).psq = s.psq ∧ (applyMark t s).gat = s.gat ∧ (applyMark t s).mbu = s.mbu ∧ (applyMark t s).pnl = s.pnl ∧ (applyMark t s).hrn = s.hrn ∧ (applyMark t s).jnl = s.jnl := by unfold applyMark; simp

@[simp] theorem enterIsolated_frame (s : State) :
    (enterIsolated s).pending = s.pending ∧ (enterIsolated s).pins = s.pins ∧ (enterIsolated s).loader = s.loader ∧ (enterIsolated s).config = s.config ∧ (enterIsolated s).fiu = s.fiu ∧ (enterIsolated s).gat = s.gat ∧ (enterIsolated s).hrn = s.hrn := by unfold enterIsolated; dsimp only; (repeat' split) <;> simp

@[simp] theorem exitIsolated_frame (s : State) :
    (exitIsolated s).pending = s.pending ∧ (exitIsolated s).pins = s.pins ∧ (exitIsolated s).tmb = s.tmb ∧ (exitIsolated s).loader = s.loader ∧ (exitIsolated s).config = s.config ∧ (exitIsolated s).fiu = s.fiu ∧ (exitIsolated s).gat = s.gat ∧ (exitIsolated s).hrn = s.hrn := by unfold exitIsolated; dsimp only; (repeat' split) <;> simp

@[simp] theorem enterHalted_frame (c : HaltCause) (s : State) :
    (enterHalted c s).pending = s.pending ∧ (enterHalted c s).pins = s.pins ∧ (enterHalted c s).loader = s.loader ∧ (enterHalted c s).config = s.config ∧ (enterHalted c s).fiu = s.fiu ∧ (enterHalted c s).psq = s.psq ∧ (enterHalted c s).gat = s.gat ∧ (enterHalted c s).pnl = s.pnl := by unfold enterHalted; simp

@[simp] theorem loadAccepted_frame (c : StationConfig) (s : State) :
    (loadAccepted c s).pending = s.pending ∧ (loadAccepted c s).pins = s.pins ∧ (loadAccepted c s).gat = s.gat ∧ (loadAccepted c s).pnl = s.pnl ∧ (loadAccepted c s).hrn = s.hrn := by unfold loadAccepted; simp

@[simp] theorem loadRefused_frame (s : State) :
    (loadRefused s).pending = s.pending ∧ (loadRefused s).pins = s.pins ∧ (loadRefused s).config = s.config ∧ (loadRefused s).fiu = s.fiu ∧ (loadRefused s).psq = s.psq ∧ (loadRefused s).gat = s.gat ∧ (loadRefused s).pnl = s.pnl := by unfold loadRefused; simp

@[simp] theorem beginHead_frame (e : TxEntry) (rest : List TxEntry) (s : State) :
    (beginHead e rest s).pending = s.pending ∧ (beginHead e rest s).pins = s.pins ∧ (beginHead e rest s).tmb = s.tmb ∧ (beginHead e rest s).loader = s.loader ∧ (beginHead e rest s).config = s.config ∧ (beginHead e rest s).fiu = s.fiu ∧ (beginHead e rest s).gat = s.gat ∧ (beginHead e rest s).hrn = s.hrn ∧ (beginHead e rest s).jnl = s.jnl := by unfold beginHead; (repeat' split) <;> simp

@[simp] theorem beginCandidate_frame (c : Candidate) (s : State) :
    (beginCandidate c s).pending = s.pending ∧ (beginCandidate c s).pins = s.pins ∧ (beginCandidate c s).tmb = s.tmb ∧ (beginCandidate c s).loader = s.loader ∧ (beginCandidate c s).config = s.config ∧ (beginCandidate c s).fiu = s.fiu ∧ (beginCandidate c s).gat = s.gat ∧ (beginCandidate c s).hrn = s.hrn ∧ (beginCandidate c s).jnl = s.jnl := by unfold beginCandidate; (repeat' split) <;> simp

@[simp] theorem winContention_frame (c : Candidate) (s : State) :
    (winContention c s).pending = s.pending ∧ (winContention c s).pins = s.pins ∧ (winContention c s).tmb = s.tmb ∧ (winContention c s).loader = s.loader ∧ (winContention c s).config = s.config ∧ (winContention c s).fiu = s.fiu ∧ (winContention c s).gat = s.gat ∧ (winContention c s).hrn = s.hrn ∧ (winContention c s).jnl = s.jnl := by unfold winContention; dsimp only; (repeat' split) <;> simp

@[simp] theorem countDiscard_frame (s : State) :
    (countDiscard s).pending = s.pending ∧ (countDiscard s).pins = s.pins ∧ (countDiscard s).tmb = s.tmb ∧ (countDiscard s).loader = s.loader ∧ (countDiscard s).config = s.config ∧ (countDiscard s).fiu = s.fiu ∧ (countDiscard s).psq = s.psq ∧ (countDiscard s).gat = s.gat ∧ (countDiscard s).mbu = s.mbu ∧ (countDiscard s).pnl = s.pnl ∧ (countDiscard s).hrn = s.hrn ∧ (countDiscard s).jnl = s.jnl := by unfold countDiscard; simp

@[simp] theorem afterDiscard_frame (s : State) :
    (afterDiscard s).pending = s.pending ∧ (afterDiscard s).pins = s.pins ∧ (afterDiscard s).loader = s.loader ∧ (afterDiscard s).config = s.config ∧ (afterDiscard s).fiu = s.fiu ∧ (afterDiscard s).gat = s.gat ∧ (afterDiscard s).hrn = s.hrn := by unfold afterDiscard; dsimp only; (repeat' split) <;> simp

@[simp] theorem settleDiscard_frame (e : TxEntry) (s : State) :
    (settleDiscard e s).pending = s.pending ∧ (settleDiscard e s).pins = s.pins ∧ (settleDiscard e s).tmb = s.tmb ∧ (settleDiscard e s).loader = s.loader ∧ (settleDiscard e s).config = s.config ∧ (settleDiscard e s).fiu = s.fiu ∧ (settleDiscard e s).gat = s.gat ∧ (settleDiscard e s).mbu = s.mbu ∧ (settleDiscard e s).pnl = s.pnl ∧ (settleDiscard e s).hrn = s.hrn ∧ (settleDiscard e s).jnl = s.jnl := by unfold settleDiscard; (repeat' split) <;> simp

@[simp] theorem chargeAttempt_frame (c : Candidate) (s : State) :
    (chargeAttempt c s).pending = s.pending ∧ (chargeAttempt c s).pins = s.pins ∧ (chargeAttempt c s).loader = s.loader ∧ (chargeAttempt c s).config = s.config ∧ (chargeAttempt c s).fiu = s.fiu ∧ (chargeAttempt c s).gat = s.gat ∧ (chargeAttempt c s).hrn = s.hrn := by unfold chargeAttempt; (repeat' split) <;> simp

@[simp] theorem releaseCandidate_frame (c : Candidate) (f : Frame) (s : State) :
    (releaseCandidate c f s).pending = s.pending ∧ (releaseCandidate c f s).pins = s.pins ∧ (releaseCandidate c f s).tmb = s.tmb ∧ (releaseCandidate c f s).loader = s.loader ∧ (releaseCandidate c f s).config = s.config ∧ (releaseCandidate c f s).fiu = s.fiu ∧ (releaseCandidate c f s).psq = s.psq ∧ (releaseCandidate c f s).gat = s.gat ∧ (releaseCandidate c f s).mbu = s.mbu ∧ (releaseCandidate c f s).pnl = s.pnl ∧ (releaseCandidate c f s).hrn = s.hrn ∧ (releaseCandidate c f s).jnl = s.jnl := by unfold releaseCandidate; (repeat' split) <;> simp

@[simp] theorem receive_frame (f : Frame) (o : Origin) (s : State) :
    (receive f o s).pending = s.pending ∧ (receive f o s).pins = s.pins ∧ (receive f o s).tmb = s.tmb ∧ (receive f o s).loader = s.loader ∧ (receive f o s).config = s.config ∧ (receive f o s).fiu = s.fiu ∧ (receive f o s).psq = s.psq ∧ (receive f o s).gat = s.gat ∧ (receive f o s).mbu = s.mbu ∧ (receive f o s).pnl = s.pnl ∧ (receive f o s).hrn = s.hrn ∧ (receive f o s).jnl = s.jnl := by unfold receive; simp

@[simp] theorem completeFrame_frame (c : Candidate) (f : Frame) (s : State) :
    (completeFrame c f s).pending = s.pending ∧ (completeFrame c f s).pins = s.pins ∧ (completeFrame c f s).tmb = s.tmb ∧ (completeFrame c f s).loader = s.loader ∧ (completeFrame c f s).config = s.config ∧ (completeFrame c f s).fiu = s.fiu ∧ (completeFrame c f s).gat = s.gat ∧ (completeFrame c f s).hrn = s.hrn := by unfold completeFrame; dsimp only; (repeat' split) <;> simp

@[simp] theorem clashFound_frame (s : State) :
    (clashFound s).pending = s.pending ∧ (clashFound s).pins = s.pins ∧ (clashFound s).loader = s.loader ∧ (clashFound s).config = s.config ∧ (clashFound s).fiu = s.fiu ∧ (clashFound s).psq = s.psq ∧ (clashFound s).gat = s.gat ∧ (clashFound s).pnl = s.pnl := by unfold clashFound; dsimp only; (repeat' split) <;> simp

@[simp] theorem receiveFrame_frame (bytes : List Byte) (s : State) :
    (receiveFrame bytes s).pending = s.pending ∧ (receiveFrame bytes s).pins = s.pins ∧ (receiveFrame bytes s).loader = s.loader ∧ (receiveFrame bytes s).config = s.config ∧ (receiveFrame bytes s).fiu = s.fiu ∧ (receiveFrame bytes s).psq = s.psq ∧ (receiveFrame bytes s).gat = s.gat ∧ (receiveFrame bytes s).pnl = s.pnl := by unfold receiveFrame; dsimp only; (repeat' split) <;> simp

@[simp] theorem passLooped_frame (s : State) :
    (passLooped s).pending = s.pending ∧ (passLooped s).pins = s.pins ∧ (passLooped s).tmb = s.tmb ∧ (passLooped s).loader = s.loader ∧ (passLooped s).config = s.config ∧ (passLooped s).fiu = s.fiu ∧ (passLooped s).gat = s.gat ∧ (passLooped s).hrn = s.hrn ∧ (passLooped s).jnl = s.jnl := by unfold passLooped; (repeat' split) <;> simp

@[simp] theorem beginWait_frame (st : Addr) (s : State) :
    (beginWait st s).pending = s.pending ∧ (beginWait st s).pins = s.pins ∧ (beginWait st s).tmb = s.tmb ∧ (beginWait st s).loader = s.loader ∧ (beginWait st s).config = s.config ∧ (beginWait st s).fiu = s.fiu ∧ (beginWait st s).psq = s.psq ∧ (beginWait st s).pnl = s.pnl := by unfold beginWait; simp

@[simp] theorem considerReplay_frame (st : Addr) (m : BitVec 16) (s : State) :
    (considerReplay st m s).pending = s.pending ∧ (considerReplay st m s).pins = s.pins ∧ (considerReplay st m s).tmb = s.tmb ∧ (considerReplay st m s).loader = s.loader ∧ (considerReplay st m s).config = s.config ∧ (considerReplay st m s).fiu = s.fiu ∧ (considerReplay st m s).psq = s.psq ∧ (considerReplay st m s).gat = s.gat ∧ (considerReplay st m s).bus = s.bus ∧ (considerReplay st m s).pnl = s.pnl ∧ (considerReplay st m s).hrn = s.hrn ∧ (considerReplay st m s).jnl = s.jnl := by unfold considerReplay; (repeat' split) <;> simp

@[simp] theorem joinHeard_frame (st : Addr) (c : SeqNo) (m : BitVec 16) (s : State) :
    (joinHeard st c m s).pending = s.pending ∧ (joinHeard st c m s).pins = s.pins ∧ (joinHeard st c m s).tmb = s.tmb ∧ (joinHeard st c m s).loader = s.loader ∧ (joinHeard st c m s).config = s.config ∧ (joinHeard st c m s).fiu = s.fiu := by unfold joinHeard; dsimp only; (repeat' split) <;> simp

@[simp] theorem snapshotHeard_frame (st : Addr) (c : SeqNo) (s : State) :
    (snapshotHeard st c s).pending = s.pending ∧ (snapshotHeard st c s).pins = s.pins ∧ (snapshotHeard st c s).tmb = s.tmb ∧ (snapshotHeard st c s).loader = s.loader ∧ (snapshotHeard st c s).config = s.config ∧ (snapshotHeard st c s).fiu = s.fiu ∧ (snapshotHeard st c s).psq = s.psq ∧ (snapshotHeard st c s).gat = s.gat ∧ (snapshotHeard st c s).bus = s.bus ∧ (snapshotHeard st c s).pnl = s.pnl ∧ (snapshotHeard st c s).hrn = s.hrn := by unfold snapshotHeard; dsimp only; (repeat' split) <;> simp

@[simp] theorem streamHeard_frame (st : Addr) (c : SeqNo) (b : Body) (s : State) :
    (streamHeard st c b s).pending = s.pending ∧ (streamHeard st c b s).pins = s.pins ∧ (streamHeard st c b s).tmb = s.tmb ∧ (streamHeard st c b s).loader = s.loader ∧ (streamHeard st c b s).config = s.config ∧ (streamHeard st c b s).fiu = s.fiu ∧ (streamHeard st c b s).psq = s.psq ∧ (streamHeard st c b s).pnl = s.pnl := by unfold streamHeard; dsimp only; (repeat' split) <;> simp

@[simp] theorem restartSilence_frame (st : Addr) (s : State) :
    (restartSilence st s).pending = s.pending ∧ (restartSilence st s).pins = s.pins ∧ (restartSilence st s).tmb = s.tmb ∧ (restartSilence st s).loader = s.loader ∧ (restartSilence st s).config = s.config ∧ (restartSilence st s).fiu = s.fiu ∧ (restartSilence st s).psq = s.psq ∧ (restartSilence st s).gat = s.gat ∧ (restartSilence st s).bus = s.bus ∧ (restartSilence st s).pnl = s.pnl ∧ (restartSilence st s).hrn = s.hrn ∧ (restartSilence st s).jnl = s.jnl := by unfold restartSilence; simp

@[simp] theorem peerHeard_frame (f : Frame) (s : State) :
    (peerHeard f s).pending = s.pending ∧ (peerHeard f s).pins = s.pins ∧ (peerHeard f s).tmb = s.tmb ∧ (peerHeard f s).loader = s.loader ∧ (peerHeard f s).config = s.config ∧ (peerHeard f s).fiu = s.fiu := by unfold peerHeard; dsimp only; (repeat' split) <;> simp

@[simp] theorem openJoinWindow_frame (s : State) :
    (openJoinWindow s).pending = s.pending ∧ (openJoinWindow s).pins = s.pins ∧ (openJoinWindow s).tmb = s.tmb ∧ (openJoinWindow s).loader = s.loader ∧ (openJoinWindow s).config = s.config ∧ (openJoinWindow s).fiu = s.fiu ∧ (openJoinWindow s).psq = s.psq ∧ (openJoinWindow s).gat = s.gat ∧ (openJoinWindow s).bus = s.bus ∧ (openJoinWindow s).pnl = s.pnl ∧ (openJoinWindow s).hrn = s.hrn ∧ (openJoinWindow s).jnl = s.jnl := by unfold openJoinWindow; (repeat' split) <;> simp

@[simp] theorem closeJoin_frame (s : State) :
    (closeJoin s).pending = s.pending ∧ (closeJoin s).pins = s.pins ∧ (closeJoin s).tmb = s.tmb ∧ (closeJoin s).loader = s.loader ∧ (closeJoin s).config = s.config ∧ (closeJoin s).fiu = s.fiu ∧ (closeJoin s).psq = s.psq ∧ (closeJoin s).gat = s.gat ∧ (closeJoin s).bus = s.bus ∧ (closeJoin s).pnl = s.pnl ∧ (closeJoin s).hrn = s.hrn ∧ (closeJoin s).jnl = s.jnl := by unfold closeJoin; simp

@[simp] theorem ownHeard_frame (e : RxEntry) (s : State) :
    (ownHeard e s).pending = s.pending ∧ (ownHeard e s).pins = s.pins ∧ (ownHeard e s).tmb = s.tmb ∧ (ownHeard e s).loader = s.loader ∧ (ownHeard e s).config = s.config ∧ (ownHeard e s).fiu = s.fiu ∧ (ownHeard e s).gat = s.gat ∧ (ownHeard e s).hrn = s.hrn := by unfold ownHeard; (repeat' split) <;> simp

@[simp] theorem peerClassHandling_frame (e : RxEntry) (s : State) :
    (peerClassHandling e s).pending = s.pending ∧ (peerClassHandling e s).pins = s.pins ∧ (peerClassHandling e s).tmb = s.tmb ∧ (peerClassHandling e s).loader = s.loader ∧ (peerClassHandling e s).config = s.config ∧ (peerClassHandling e s).fiu = s.fiu ∧ (peerClassHandling e s).gat = s.gat ∧ (peerClassHandling e s).hrn = s.hrn ∧ (peerClassHandling e s).jnl = s.jnl := by unfold peerClassHandling; (repeat' split) <;> simp

@[simp] theorem mbuStage_frame (e : RxEntry) (s : State) :
    (mbuStage e s).pending = s.pending ∧ (mbuStage e s).pins = s.pins ∧ (mbuStage e s).tmb = s.tmb ∧ (mbuStage e s).loader = s.loader ∧ (mbuStage e s).config = s.config ∧ (mbuStage e s).fiu = s.fiu := by unfold mbuStage; (repeat' split) <;> simp

@[simp] theorem declareAbsent_frame (st : Addr) (s : State) :
    (declareAbsent st s).pending = s.pending ∧ (declareAbsent st s).pins = s.pins ∧ (declareAbsent st s).tmb = s.tmb ∧ (declareAbsent st s).loader = s.loader ∧ (declareAbsent st s).config = s.config ∧ (declareAbsent st s).fiu = s.fiu ∧ (declareAbsent st s).psq = s.psq ∧ (declareAbsent st s).bus = s.bus ∧ (declareAbsent st s).pnl = s.pnl := by unfold declareAbsent; simp

@[simp] theorem renewWait_frame (st : Addr) (s : State) :
    (renewWait st s).pending = s.pending ∧ (renewWait st s).pins = s.pins ∧ (renewWait st s).tmb = s.tmb ∧ (renewWait st s).loader = s.loader ∧ (renewWait st s).config = s.config ∧ (renewWait st s).fiu = s.fiu ∧ (renewWait st s).psq = s.psq ∧ (renewWait st s).gat = s.gat ∧ (renewWait st s).pnl = s.pnl ∧ (renewWait st s).hrn = s.hrn ∧ (renewWait st s).jnl = s.jnl := by unfold renewWait; simp

end Sys2Proof.Machine
end

