-- ==== Sys2Proof/Laws/StageFrames.lean ====
section
/-! SUPPORT. What the operations that go over the points, and the stages of a delivery, leave alone. -/
namespace Sys2Proof.Machine

/-- What one turn of a fold keeps, the fold keeps. -/
theorem foldl_keeps {σ α β : Type} (g : σ → β) (f : σ → α → σ) (h : ∀ s a, g (f s a) = g s) (l : List α) (s : σ) :
    g (l.foldl f s) = g s := by
  induction l generalizing s with
  | nil => rfl
  | cons a l ih => rw [List.foldl_cons, ih, h]

/-- What every turn of a fold keeps true stays true through the fold. -/
theorem foldl_invariant {σ α : Type} (P : σ → Prop) (f : σ → α → σ) (h : ∀ s a, P s → P (f s a)) (l : List α) (s : σ)
    (hs : P s) : P (l.foldl f s) := by
  induction l generalizing s with
  | nil => exact hs
  | cons a l ih => exact ih _ (h s a hs)

@[simp] theorem hornNotice_frame (old : Gat) (st : Addr) (s : State) (p : Point) :
    (hornNotice old st s p).pending = s.pending ∧ (hornNotice old st s p).pins = s.pins ∧ (hornNotice old st s p).tmb = s.tmb ∧ (hornNotice old st s p).loader = s.loader ∧ (hornNotice old st s p).config = s.config ∧ (hornNotice old st s p).fiu = s.fiu ∧ (hornNotice old st s p).psq = s.psq ∧ (hornNotice old st s p).gat = s.gat ∧ (hornNotice old st s p).bus = s.bus ∧ (hornNotice old st s p).mbu = s.mbu ∧ (hornNotice old st s p).pnl = s.pnl ∧ (hornNotice old st s p).jnl = s.jnl := by unfold hornNotice; dsimp only; (repeat' split) <;> simp

@[simp] theorem journalNotice_frame (old : Gat) (st : Addr) (c : Count) (s : State) (p : Point) :
    (journalNotice old st c s p).pending = s.pending ∧ (journalNotice old st c s p).pins = s.pins ∧ (journalNotice old st c s p).tmb = s.tmb ∧ (journalNotice old st c s p).loader = s.loader ∧ (journalNotice old st c s p).config = s.config ∧ (journalNotice old st c s p).fiu = s.fiu ∧ (journalNotice old st c s p).psq = s.psq ∧ (journalNotice old st c s p).gat = s.gat ∧ (journalNotice old st c s p).bus = s.bus ∧ (journalNotice old st c s p).mbu = s.mbu ∧ (journalNotice old st c s p).pnl = s.pnl ∧ (journalNotice old st c s p).hrn = s.hrn := by unfold journalNotice; dsimp only; split <;> simp

@[simp] theorem foldl_hornNotice_frame (old : Gat) (st : Addr) (ps : List Point) (s : State) :
    (ps.foldl (hornNotice old st) s).pending = s.pending ∧ (ps.foldl (hornNotice old st) s).pins = s.pins ∧ (ps.foldl (hornNotice old st) s).tmb = s.tmb ∧ (ps.foldl (hornNotice old st) s).loader = s.loader ∧ (ps.foldl (hornNotice old st) s).config = s.config ∧ (ps.foldl (hornNotice old st) s).fiu = s.fiu ∧ (ps.foldl (hornNotice old st) s).psq = s.psq ∧ (ps.foldl (hornNotice old st) s).gat = s.gat ∧ (ps.foldl (hornNotice old st) s).bus = s.bus ∧ (ps.foldl (hornNotice old st) s).mbu = s.mbu ∧ (ps.foldl (hornNotice old st) s).pnl = s.pnl ∧ (ps.foldl (hornNotice old st) s).jnl = s.jnl := by
  refine ⟨foldl_keeps State.pending _ (fun s p => by simp) _ s, foldl_keeps State.pins _ (fun s p => by simp) _ s, foldl_keeps State.tmb _ (fun s p => by simp) _ s, foldl_keeps State.loader _ (fun s p => by simp) _ s, foldl_keeps State.config _ (fun s p => by simp) _ s, foldl_keeps State.fiu _ (fun s p => by simp) _ s, foldl_keeps State.psq _ (fun s p => by simp) _ s, foldl_keeps State.gat _ (fun s p => by simp) _ s, foldl_keeps State.bus _ (fun s p => by simp) _ s, foldl_keeps State.mbu _ (fun s p => by simp) _ s, foldl_keeps State.pnl _ (fun s p => by simp) _ s, foldl_keeps State.jnl _ (fun s p => by simp) _ s⟩

@[simp] theorem foldl_journalNotice_frame (old : Gat) (st : Addr) (c : Count) (ps : List Point) (s : State) :
    (ps.foldl (journalNotice old st c) s).pending = s.pending ∧ (ps.foldl (journalNotice old st c) s).pins = s.pins ∧ (ps.foldl (journalNotice old st c) s).tmb = s.tmb ∧ (ps.foldl (journalNotice old st c) s).loader = s.loader ∧ (ps.foldl (journalNotice old st c) s).config = s.config ∧ (ps.foldl (journalNotice old st c) s).fiu = s.fiu ∧ (ps.foldl (journalNotice old st c) s).psq = s.psq ∧ (ps.foldl (journalNotice old st c) s).gat = s.gat ∧ (ps.foldl (journalNotice old st c) s).bus = s.bus ∧ (ps.foldl (journalNotice old st c) s).mbu = s.mbu ∧ (ps.foldl (journalNotice old st c) s).pnl = s.pnl ∧ (ps.foldl (journalNotice old st c) s).hrn = s.hrn := by
  refine ⟨foldl_keeps State.pending _ (fun s p => by simp) _ s, foldl_keeps State.pins _ (fun s p => by simp) _ s, foldl_keeps State.tmb _ (fun s p => by simp) _ s, foldl_keeps State.loader _ (fun s p => by simp) _ s, foldl_keeps State.config _ (fun s p => by simp) _ s, foldl_keeps State.fiu _ (fun s p => by simp) _ s, foldl_keeps State.psq _ (fun s p => by simp) _ s, foldl_keeps State.gat _ (fun s p => by simp) _ s, foldl_keeps State.bus _ (fun s p => by simp) _ s, foldl_keeps State.mbu _ (fun s p => by simp) _ s, foldl_keeps State.pnl _ (fun s p => by simp) _ s, foldl_keeps State.hrn _ (fun s p => by simp) _ s⟩

@[simp] theorem applicationNotices_frame (old : Gat) (st : Addr) (ps : List Point) (c : Count) (s : State) :
    (applicationNotices old st ps c s).pending = s.pending ∧ (applicationNotices old st ps c s).pins = s.pins ∧ (applicationNotices old st ps c s).tmb = s.tmb ∧ (applicationNotices old st ps c s).loader = s.loader ∧ (applicationNotices old st ps c s).config = s.config ∧ (applicationNotices old st ps c s).fiu = s.fiu ∧ (applicationNotices old st ps c s).psq = s.psq ∧ (applicationNotices old st ps c s).gat = s.gat ∧ (applicationNotices old st ps c s).bus = s.bus ∧ (applicationNotices old st ps c s).mbu = s.mbu ∧ (applicationNotices old st ps c s).pnl = s.pnl := by unfold applicationNotices; dsimp only; split <;> simp

@[simp] theorem gtuState_frame (st : Addr) (b : StateBody) (s : State) :
    (gtuState st b s).pending = s.pending ∧ (gtuState st b s).pins = s.pins ∧ (gtuState st b s).tmb = s.tmb ∧ (gtuState st b s).loader = s.loader ∧ (gtuState st b s).config = s.config ∧ (gtuState st b s).fiu = s.fiu ∧ (gtuState st b s).psq = s.psq ∧ (gtuState st b s).bus = s.bus ∧ (gtuState st b s).mbu = s.mbu ∧ (gtuState st b s).pnl = s.pnl := by unfold gtuState; simp

@[simp] theorem gtuSnapshot_frame (st : Addr) (es : Tab Entry) (s : State) :
    (gtuSnapshot st es s).pending = s.pending ∧ (gtuSnapshot st es s).pins = s.pins ∧ (gtuSnapshot st es s).tmb = s.tmb ∧ (gtuSnapshot st es s).loader = s.loader ∧ (gtuSnapshot st es s).config = s.config ∧ (gtuSnapshot st es s).fiu = s.fiu ∧ (gtuSnapshot st es s).psq = s.psq ∧ (gtuSnapshot st es s).bus = s.bus ∧ (gtuSnapshot st es s).mbu = s.mbu ∧ (gtuSnapshot st es s).pnl = s.pnl := by unfold gtuSnapshot; simp

@[simp] theorem requestTurn_frame (mask : ZoneMask) (acts : SeqState) (ev : PointEvent) (s : State) (p : Point) :
    (if requestApplies mask acts s p then takeEvent p ev s.tmb.groupTime s else s).pending = s.pending ∧ (if requestApplies mask acts s p then takeEvent p ev s.tmb.groupTime s else s).pins = s.pins ∧ (if requestApplies mask acts s p then takeEvent p ev s.tmb.groupTime s else s).tmb = s.tmb ∧ (if requestApplies mask acts s p then takeEvent p ev s.tmb.groupTime s else s).loader = s.loader ∧ (if requestApplies mask acts s p then takeEvent p ev s.tmb.groupTime s else s).config = s.config ∧ (if requestApplies mask acts s p then takeEvent p ev s.tmb.groupTime s else s).fiu = s.fiu ∧ (if requestApplies mask acts s p then takeEvent p ev s.tmb.groupTime s else s).gat = s.gat ∧ (if requestApplies mask acts s p then takeEvent p ev s.tmb.groupTime s else s).mbu = s.mbu ∧ (if requestApplies mask acts s p then takeEvent p ev s.tmb.groupTime s else s).pnl = s.pnl ∧ (if requestApplies mask acts s p then takeEvent p ev s.tmb.groupTime s else s).hrn = s.hrn ∧ (if requestApplies mask acts s p then takeEvent p ev s.tmb.groupTime s else s).jnl = s.jnl := by split <;> simp

@[simp] theorem takeRequest_frame (mask : ZoneMask) (acts : SeqState) (ev : PointEvent) (s : State) :
    (takeRequest mask acts ev s).pending = s.pending ∧ (takeRequest mask acts ev s).pins = s.pins ∧ (takeRequest mask acts ev s).tmb = s.tmb ∧ (takeRequest mask acts ev s).loader = s.loader ∧ (takeRequest mask acts ev s).config = s.config ∧ (takeRequest mask acts ev s).fiu = s.fiu ∧ (takeRequest mask acts ev s).gat = s.gat ∧ (takeRequest mask acts ev s).mbu = s.mbu ∧ (takeRequest mask acts ev s).pnl = s.pnl ∧ (takeRequest mask acts ev s).hrn = s.hrn ∧ (takeRequest mask acts ev s).jnl = s.jnl := by
  unfold takeRequest; split
  · exact ⟨foldl_keeps State.pending _ (fun s p => by split <;> simp) _ s, foldl_keeps State.pins _ (fun s p => by split <;> simp) _ s, foldl_keeps State.tmb _ (fun s p => by split <;> simp) _ s, foldl_keeps State.loader _ (fun s p => by split <;> simp) _ s, foldl_keeps State.config _ (fun s p => by split <;> simp) _ s, foldl_keeps State.fiu _ (fun s p => by split <;> simp) _ s, foldl_keeps State.gat _ (fun s p => by split <;> simp) _ s, foldl_keeps State.mbu _ (fun s p => by split <;> simp) _ s, foldl_keeps State.pnl _ (fun s p => by split <;> simp) _ s, foldl_keeps State.hrn _ (fun s p => by split <;> simp) _ s, foldl_keeps State.jnl _ (fun s p => by split <;> simp) _ s⟩
  · simp

@[simp] theorem gtuStage_frame (f : Frame) (s : State) :
    (gtuStage f s).pending = s.pending ∧ (gtuStage f s).pins = s.pins ∧ (gtuStage f s).tmb = s.tmb ∧ (gtuStage f s).loader = s.loader ∧ (gtuStage f s).config = s.config ∧ (gtuStage f s).fiu = s.fiu ∧ (gtuStage f s).psq = s.psq ∧ (gtuStage f s).bus = s.bus ∧ (gtuStage f s).mbu = s.mbu ∧ (gtuStage f s).pnl = s.pnl := by unfold gtuStage; (repeat' split) <;> simp

@[simp] theorem psqStage_frame (d : Bool) (f : Frame) (s : State) :
    (psqStage d f s).pending = s.pending ∧ (psqStage d f s).pins = s.pins ∧ (psqStage d f s).tmb = s.tmb ∧ (psqStage d f s).loader = s.loader ∧ (psqStage d f s).config = s.config ∧ (psqStage d f s).fiu = s.fiu ∧ (psqStage d f s).gat = s.gat ∧ (psqStage d f s).hrn = s.hrn ∧ (psqStage d f s).jnl = s.jnl := by unfold psqStage; (repeat' split) <;> simp

@[simp] theorem tmbStage_frame (f : Frame) (s : State) :
    (tmbStage f s).pending = s.pending ∧ (tmbStage f s).pins = s.pins ∧ (tmbStage f s).loader = s.loader ∧ (tmbStage f s).config = s.config ∧ (tmbStage f s).fiu = s.fiu ∧ (tmbStage f s).psq = s.psq ∧ (tmbStage f s).gat = s.gat ∧ (tmbStage f s).mbu = s.mbu ∧ (tmbStage f s).pnl = s.pnl ∧ (tmbStage f s).hrn = s.hrn ∧ (tmbStage f s).jnl = s.jnl := by unfold tmbStage; (repeat' split) <;> simp

@[simp] theorem deliverStages_frame (e : RxEntry) (s : State) :
    (deliverStages e s).pending = s.pending ∧ (deliverStages e s).pins = s.pins ∧ (deliverStages e s).loader = s.loader ∧ (deliverStages e s).config = s.config ∧ (deliverStages e s).fiu = s.fiu := by unfold deliverStages; simp

@[simp] theorem endDelivery_frame (s : State) :
    (endDelivery s).pending = s.pending ∧ (endDelivery s).pins = s.pins ∧ (endDelivery s).tmb = s.tmb ∧ (endDelivery s).loader = s.loader ∧ (endDelivery s).config = s.config ∧ (endDelivery s).fiu = s.fiu ∧ (endDelivery s).psq = s.psq ∧ (endDelivery s).gat = s.gat ∧ (endDelivery s).mbu = s.mbu ∧ (endDelivery s).pnl = s.pnl ∧ (endDelivery s).hrn = s.hrn ∧ (endDelivery s).jnl = s.jnl := by unfold endDelivery; simp

@[simp] theorem countActivation_frame (p : Point) (s : State) :
    (countActivation p s).pending = s.pending ∧ (countActivation p s).pins = s.pins ∧ (countActivation p s).tmb = s.tmb ∧ (countActivation p s).loader = s.loader ∧ (countActivation p s).config = s.config ∧ (countActivation p s).gat = s.gat ∧ (countActivation p s).mbu = s.mbu ∧ (countActivation p s).pnl = s.pnl ∧ (countActivation p s).hrn = s.hrn ∧ (countActivation p s).jnl = s.jnl := by unfold countActivation; dsimp only; (repeat' split) <;> simp

@[simp] theorem qualify_frame (p : Point) (s : State) :
    (qualify p s).pending = s.pending ∧ (qualify p s).pins = s.pins ∧ (qualify p s).tmb = s.tmb ∧ (qualify p s).loader = s.loader ∧ (qualify p s).config = s.config ∧ (qualify p s).gat = s.gat ∧ (qualify p s).mbu = s.mbu ∧ (qualify p s).pnl = s.pnl ∧ (qualify p s).hrn = s.hrn ∧ (qualify p s).jnl = s.jnl := by unfold qualify; dsimp only; split <;> simp

@[simp] theorem releasePoint_frame (b : Tab FieldPoint) (s : State) (p : Point) :
    (releasePoint b s p).pending = s.pending ∧ (releasePoint b s p).pins = s.pins ∧ (releasePoint b s p).tmb = s.tmb ∧ (releasePoint b s p).loader = s.loader ∧ (releasePoint b s p).config = s.config ∧ (releasePoint b s p).fiu = s.fiu ∧ (releasePoint b s p).gat = s.gat ∧ (releasePoint b s p).mbu = s.mbu ∧ (releasePoint b s p).pnl = s.pnl ∧ (releasePoint b s p).hrn = s.hrn ∧ (releasePoint b s p).jnl = s.jnl := by unfold releasePoint; split <;> simp

@[simp] theorem foldl_releasePoint_frame (b : Tab FieldPoint) (ps : List Point) (s : State) :
    (ps.foldl (releasePoint b) s).pending = s.pending ∧ (ps.foldl (releasePoint b) s).pins = s.pins ∧ (ps.foldl (releasePoint b) s).tmb = s.tmb ∧ (ps.foldl (releasePoint b) s).loader = s.loader ∧ (ps.foldl (releasePoint b) s).config = s.config ∧ (ps.foldl (releasePoint b) s).fiu = s.fiu ∧ (ps.foldl (releasePoint b) s).gat = s.gat ∧ (ps.foldl (releasePoint b) s).mbu = s.mbu ∧ (ps.foldl (releasePoint b) s).pnl = s.pnl ∧ (ps.foldl (releasePoint b) s).hrn = s.hrn ∧ (ps.foldl (releasePoint b) s).jnl = s.jnl := by
  refine ⟨foldl_keeps State.pending _ (fun s p => by simp) _ s, foldl_keeps State.pins _ (fun s p => by simp) _ s, foldl_keeps State.tmb _ (fun s p => by simp) _ s, foldl_keeps State.loader _ (fun s p => by simp) _ s, foldl_keeps State.config _ (fun s p => by simp) _ s, foldl_keeps State.fiu _ (fun s p => by simp) _ s, foldl_keeps State.gat _ (fun s p => by simp) _ s, foldl_keeps State.mbu _ (fun s p => by simp) _ s, foldl_keeps State.pnl _ (fun s p => by simp) _ s, foldl_keeps State.hrn _ (fun s p => by simp) _ s, foldl_keeps State.jnl _ (fun s p => by simp) _ s⟩

@[simp] theorem drainStep_frame (s : State) :
    (drainStep s).pending = s.pending ∧ (drainStep s).pins = s.pins ∧ (drainStep s).tmb = s.tmb ∧ (drainStep s).loader = s.loader ∧ (drainStep s).config = s.config ∧ (drainStep s).gat = s.gat ∧ (drainStep s).mbu = s.mbu ∧ (drainStep s).pnl = s.pnl ∧ (drainStep s).hrn = s.hrn ∧ (drainStep s).jnl = s.jnl := by unfold drainStep; simp

@[simp] theorem press_frame (b : Button) (s : State) :
    (press b s).pending = s.pending ∧ (press b s).pins = s.pins ∧ (press b s).tmb = s.tmb ∧ (press b s).loader = s.loader ∧ (press b s).config = s.config ∧ (press b s).fiu = s.fiu ∧ (press b s).psq = s.psq ∧ (press b s).gat = s.gat ∧ (press b s).mbu = s.mbu ∧ (press b s).jnl = s.jnl := by unfold press; (repeat' split) <;> simp

@[simp] theorem release_frame (b : Button) (s : State) :
    (release b s).pending = s.pending ∧ (release b s).pins = s.pins ∧ (release b s).tmb = s.tmb ∧ (release b s).loader = s.loader ∧ (release b s).config = s.config ∧ (release b s).fiu = s.fiu ∧ (release b s).psq = s.psq ∧ (release b s).gat = s.gat ∧ (release b s).bus = s.bus ∧ (release b s).mbu = s.mbu ∧ (release b s).hrn = s.hrn ∧ (release b s).jnl = s.jnl := by unfold release; split <;> simp

@[simp] theorem debounce_frame (b : Button) (s : State) :
    (debounce b s).pending = s.pending ∧ (debounce b s).pins = s.pins ∧ (debounce b s).tmb = s.tmb ∧ (debounce b s).loader = s.loader ∧ (debounce b s).config = s.config ∧ (debounce b s).fiu = s.fiu ∧ (debounce b s).psq = s.psq ∧ (debounce b s).gat = s.gat ∧ (debounce b s).mbu = s.mbu ∧ (debounce b s).jnl = s.jnl := by unfold debounce; dsimp only; split <;> simp

@[simp] theorem failAttempt_frame (c : Candidate) (s : State) :
    (failAttempt c s).pending = s.pending ∧ (failAttempt c s).pins = s.pins ∧ (failAttempt c s).loader = s.loader ∧ (failAttempt c s).config = s.config ∧ (failAttempt c s).fiu = s.fiu ∧ (failAttempt c s).gat = s.gat ∧ (failAttempt c s).hrn = s.hrn := by unfold failAttempt; simp

@[simp] theorem fillHeartbeat_frame (b : Bool) (s : State) :
    (fillHeartbeat b s).pending = s.pending ∧ (fillHeartbeat b s).pins = s.pins ∧ (fillHeartbeat b s).tmb = s.tmb ∧ (fillHeartbeat b s).loader = s.loader ∧ (fillHeartbeat b s).config = s.config ∧ (fillHeartbeat b s).fiu = s.fiu ∧ (fillHeartbeat b s).psq = s.psq ∧ (fillHeartbeat b s).gat = s.gat ∧ (fillHeartbeat b s).mbu = s.mbu ∧ (fillHeartbeat b s).pnl = s.pnl ∧ (fillHeartbeat b s).hrn = s.hrn ∧ (fillHeartbeat b s).jnl = s.jnl := by unfold fillHeartbeat; split <;> simp

@[simp] theorem fillMark_frame (s : State) :
    (fillMark s).pending = s.pending ∧ (fillMark s).pins = s.pins ∧ (fillMark s).tmb = s.tmb ∧ (fillMark s).loader = s.loader ∧ (fillMark s).config = s.config ∧ (fillMark s).fiu = s.fiu ∧ (fillMark s).psq = s.psq ∧ (fillMark s).gat = s.gat ∧ (fillMark s).mbu = s.mbu ∧ (fillMark s).pnl = s.pnl ∧ (fillMark s).hrn = s.hrn ∧ (fillMark s).jnl = s.jnl := by unfold fillMark; split <;> simp

@[simp] theorem beatHeart_frame (s : State) :
    (beatHeart s).pending = s.pending ∧ (beatHeart s).pins = s.pins ∧ (beatHeart s).tmb = s.tmb ∧ (beatHeart s).loader = s.loader ∧ (beatHeart s).config = s.config ∧ (beatHeart s).fiu = s.fiu ∧ (beatHeart s).psq = s.psq ∧ (beatHeart s).gat = s.gat ∧ (beatHeart s).pnl = s.pnl ∧ (beatHeart s).hrn = s.hrn ∧ (beatHeart s).jnl = s.jnl := by unfold beatHeart; dsimp only; split <;> simp

@[simp] theorem placeProbe_frame (s : State) :
    (placeProbe s).pending = s.pending ∧ (placeProbe s).pins = s.pins ∧ (placeProbe s).tmb = s.tmb ∧ (placeProbe s).loader = s.loader ∧ (placeProbe s).config = s.config ∧ (placeProbe s).fiu = s.fiu ∧ (placeProbe s).psq = s.psq ∧ (placeProbe s).gat = s.gat ∧ (placeProbe s).mbu = s.mbu ∧ (placeProbe s).pnl = s.pnl ∧ (placeProbe s).hrn = s.hrn ∧ (placeProbe s).jnl = s.jnl := by unfold placeProbe; simp

@[simp] theorem markExpired_frame (s : State) :
    (markExpired s).pending = s.pending ∧ (markExpired s).pins = s.pins ∧ (markExpired s).loader = s.loader ∧ (markExpired s).config = s.config ∧ (markExpired s).fiu = s.fiu ∧ (markExpired s).psq = s.psq ∧ (markExpired s).gat = s.gat ∧ (markExpired s).mbu = s.mbu ∧ (markExpired s).pnl = s.pnl ∧ (markExpired s).hrn = s.hrn ∧ (markExpired s).jnl = s.jnl := by unfold markExpired; split <;> simp

@[simp] theorem resyncExpired_frame (st : Addr) (s : State) :
    (resyncExpired st s).pending = s.pending ∧ (resyncExpired st s).pins = s.pins ∧ (resyncExpired st s).tmb = s.tmb ∧ (resyncExpired st s).loader = s.loader ∧ (resyncExpired st s).config = s.config ∧ (resyncExpired st s).fiu = s.fiu ∧ (resyncExpired st s).psq = s.psq ∧ (resyncExpired st s).pnl = s.pnl := by unfold resyncExpired; split <;> simp

@[simp] theorem takeTick_frame (pt : BitVec 16) (b : ButtonLevels) (s : State) :
    (takeTick pt b s).pending = s.pending ∧ (takeTick pt b s).loader = s.loader ∧ (takeTick pt b s).config = s.config ∧ (takeTick pt b s).psq = s.psq ∧ (takeTick pt b s).gat = s.gat ∧ (takeTick pt b s).bus = s.bus ∧ (takeTick pt b s).mbu = s.mbu ∧ (takeTick pt b s).hrn = s.hrn ∧ (takeTick pt b s).jnl = s.jnl := by unfold takeTick sampleInputs; dsimp only; split <;> simp

end Sys2Proof.Machine
end

