-- ==== Sys2Proof/Laws/Fields.lean ====
section
/-! SUPPORT. What each shared operation leaves alone inside the Bus Interface and the Membership Unit. -/
namespace Sys2Proof.Machine

@[simp] theorem settleIdleWait_fields (s : State) :
    (settleIdleWait s).bus.line = s.bus.line ∧ (settleIdleWait s).bus.queue = s.bus.queue ∧ (settleIdleWait s).bus.markSlot = s.bus.markSlot ∧ (settleIdleWait s).bus.heartbeatSlot = s.bus.heartbeatSlot ∧ (settleIdleWait s).bus.owedSnapshot = s.bus.owedSnapshot ∧ (settleIdleWait s).bus.owedJoin = s.bus.owedJoin ∧ (settleIdleWait s).bus.counter = s.bus.counter ∧ (settleIdleWait s).bus.lastEnded = s.bus.lastEnded ∧ (settleIdleWait s).bus.streak = s.bus.streak ∧ (settleIdleWait s).bus.rx = s.bus.rx ∧ (settleIdleWait s).bus.probe = s.bus.probe ∧ (settleIdleWait s).bus.clash = s.bus.clash := by unfold settleIdleWait; (repeat' split) <;> simp

@[simp] theorem restartIdleWait_fields (s : State) :
    (restartIdleWait s).bus.line = s.bus.line ∧ (restartIdleWait s).bus.queue = s.bus.queue ∧ (restartIdleWait s).bus.markSlot = s.bus.markSlot ∧ (restartIdleWait s).bus.heartbeatSlot = s.bus.heartbeatSlot ∧ (restartIdleWait s).bus.owedSnapshot = s.bus.owedSnapshot ∧ (restartIdleWait s).bus.owedJoin = s.bus.owedJoin ∧ (restartIdleWait s).bus.counter = s.bus.counter ∧ (restartIdleWait s).bus.lastEnded = s.bus.lastEnded ∧ (restartIdleWait s).bus.streak = s.bus.streak ∧ (restartIdleWait s).bus.rx = s.bus.rx ∧ (restartIdleWait s).bus.probe = s.bus.probe ∧ (restartIdleWait s).bus.clash = s.bus.clash := by unfold restartIdleWait; simp

@[simp] theorem changeMode_fields (m : Mode) (c : ModeCause) (s : State) :
    (changeMode m c s).mbu.members = s.mbu.members ∧ (changeMode m c s).mbu.heartbeat = s.mbu.heartbeat ∧ (changeMode m c s).mbu.joinState = s.mbu.joinState ∧ (changeMode m c s).mbu.joinWindow = s.mbu.joinWindow := by unfold changeMode; simp

@[simp] theorem placeTail_fields (b : TxBody) (s : State) :
    (placeTail b s).bus.line = s.bus.line ∧ (placeTail b s).bus.markSlot = s.bus.markSlot ∧ (placeTail b s).bus.heartbeatSlot = s.bus.heartbeatSlot ∧ (placeTail b s).bus.owedSnapshot = s.bus.owedSnapshot ∧ (placeTail b s).bus.owedJoin = s.bus.owedJoin ∧ (placeTail b s).bus.counter = s.bus.counter ∧ (placeTail b s).bus.lastEnded = s.bus.lastEnded ∧ (placeTail b s).bus.streak = s.bus.streak ∧ (placeTail b s).bus.rx = s.bus.rx ∧ (placeTail b s).bus.idleWait = s.bus.idleWait ∧ (placeTail b s).bus.probe = s.bus.probe ∧ (placeTail b s).bus.clash = s.bus.clash := by unfold placeTail; simp

@[simp] theorem placeRequest_fields (b : TxBody) (s : State) :
    (placeRequest b s).bus.line = s.bus.line ∧ (placeRequest b s).bus.markSlot = s.bus.markSlot ∧ (placeRequest b s).bus.heartbeatSlot = s.bus.heartbeatSlot ∧ (placeRequest b s).bus.owedSnapshot = s.bus.owedSnapshot ∧ (placeRequest b s).bus.owedJoin = s.bus.owedJoin ∧ (placeRequest b s).bus.counter = s.bus.counter ∧ (placeRequest b s).bus.lastEnded = s.bus.lastEnded ∧ (placeRequest b s).bus.streak = s.bus.streak ∧ (placeRequest b s).bus.rx = s.bus.rx ∧ (placeRequest b s).bus.idleWait = s.bus.idleWait ∧ (placeRequest b s).bus.probe = s.bus.probe ∧ (placeRequest b s).bus.clash = s.bus.clash := by unfold placeRequest; simp

@[simp] theorem supersede_fields (s : State) :
    (supersede s).bus.line = s.bus.line ∧ (supersede s).bus.markSlot = s.bus.markSlot ∧ (supersede s).bus.heartbeatSlot = s.bus.heartbeatSlot ∧ (supersede s).bus.owedSnapshot = s.bus.owedSnapshot ∧ (supersede s).bus.owedJoin = s.bus.owedJoin ∧ (supersede s).bus.counter = s.bus.counter ∧ (supersede s).bus.lastEnded = s.bus.lastEnded ∧ (supersede s).bus.streak = s.bus.streak ∧ (supersede s).bus.rx = s.bus.rx ∧ (supersede s).bus.idleWait = s.bus.idleWait ∧ (supersede s).bus.probe = s.bus.probe ∧ (supersede s).bus.clash = s.bus.clash := by unfold supersede; simp

@[simp] theorem placeSnapshot_fields (s : State) :
    (placeSnapshot s).bus.line = s.bus.line ∧ (placeSnapshot s).bus.markSlot = s.bus.markSlot ∧ (placeSnapshot s).bus.heartbeatSlot = s.bus.heartbeatSlot ∧ (placeSnapshot s).bus.owedSnapshot = s.bus.owedSnapshot ∧ (placeSnapshot s).bus.owedJoin = s.bus.owedJoin ∧ (placeSnapshot s).bus.counter = s.bus.counter ∧ (placeSnapshot s).bus.lastEnded = s.bus.lastEnded ∧ (placeSnapshot s).bus.streak = s.bus.streak ∧ (placeSnapshot s).bus.rx = s.bus.rx ∧ (placeSnapshot s).bus.idleWait = s.bus.idleWait ∧ (placeSnapshot s).bus.probe = s.bus.probe ∧ (placeSnapshot s).bus.clash = s.bus.clash := by unfold placeSnapshot; (repeat' split) <;> simp

@[simp] theorem serveOwed_fields (p : Point) (s : State) :
    (serveOwed p s).bus.line = s.bus.line ∧ (serveOwed p s).bus.markSlot = s.bus.markSlot ∧ (serveOwed p s).bus.heartbeatSlot = s.bus.heartbeatSlot ∧ (serveOwed p s).bus.owedSnapshot = s.bus.owedSnapshot ∧ (serveOwed p s).bus.owedJoin = s.bus.owedJoin ∧ (serveOwed p s).bus.counter = s.bus.counter ∧ (serveOwed p s).bus.lastEnded = s.bus.lastEnded ∧ (serveOwed p s).bus.streak = s.bus.streak ∧ (serveOwed p s).bus.rx = s.bus.rx ∧ (serveOwed p s).bus.idleWait = s.bus.idleWait ∧ (serveOwed p s).bus.probe = s.bus.probe ∧ (serveOwed p s).bus.clash = s.bus.clash := by unfold serveOwed; simp

/-- One offer of a free entry moves claims into the queue; of the Bus Interface and the Membership Unit it touches nothing else. -/
theorem offerOne_fields (s t : State) (h : offerOne s = some t) :
    t.bus.line = s.bus.line ∧ t.bus.markSlot = s.bus.markSlot ∧ t.bus.heartbeatSlot = s.bus.heartbeatSlot ∧ t.bus.counter = s.bus.counter ∧ t.bus.lastEnded = s.bus.lastEnded ∧ t.bus.streak = s.bus.streak ∧ t.bus.rx = s.bus.rx ∧ t.bus.idleWait = s.bus.idleWait ∧ t.bus.probe = s.bus.probe ∧ t.bus.clash = s.bus.clash ∧ t.mbu.mode = s.mbu.mode ∧ t.mbu.heartbeat = s.mbu.heartbeat ∧ t.mbu.joinState = s.mbu.joinState ∧ t.mbu.joinWindow = s.mbu.joinWindow := by
  revert h; unfold offerOne; (repeat' split) <;> intro h <;> simp_all <;> (subst h; simp)

@[simp] theorem offerMany_fields (s : State) (n : Nat) :
    (offerMany n s).bus.line = s.bus.line ∧ (offerMany n s).bus.markSlot = s.bus.markSlot ∧ (offerMany n s).bus.heartbeatSlot = s.bus.heartbeatSlot ∧ (offerMany n s).bus.counter = s.bus.counter ∧ (offerMany n s).bus.lastEnded = s.bus.lastEnded ∧ (offerMany n s).bus.streak = s.bus.streak ∧ (offerMany n s).bus.rx = s.bus.rx ∧ (offerMany n s).bus.idleWait = s.bus.idleWait ∧ (offerMany n s).bus.probe = s.bus.probe ∧ (offerMany n s).bus.clash = s.bus.clash ∧ (offerMany n s).mbu.mode = s.mbu.mode ∧ (offerMany n s).mbu.heartbeat = s.mbu.heartbeat ∧ (offerMany n s).mbu.joinState = s.mbu.joinState ∧ (offerMany n s).mbu.joinWindow = s.mbu.joinWindow := by
  induction n generalizing s with
  | zero => simp [offerMany]
  | succ n ih =>
    unfold offerMany
    split
    · rename_i s' h
      have h1 := offerOne_fields s s' h
      have h2 := ih s'
      simp only [h1, h2, and_self]
    · simp

@[simp] theorem offers_fields (s : State) :
    (offers s).bus.line = s.bus.line ∧ (offers s).bus.markSlot = s.bus.markSlot ∧ (offers s).bus.heartbeatSlot = s.bus.heartbeatSlot ∧ (offers s).bus.counter = s.bus.counter ∧ (offers s).bus.lastEnded = s.bus.lastEnded ∧ (offers s).bus.streak = s.bus.streak ∧ (offers s).bus.rx = s.bus.rx ∧ (offers s).bus.idleWait = s.bus.idleWait ∧ (offers s).bus.probe = s.bus.probe ∧ (offers s).bus.clash = s.bus.clash ∧ (offers s).mbu.mode = s.mbu.mode ∧ (offers s).mbu.heartbeat = s.mbu.heartbeat ∧ (offers s).mbu.joinState = s.mbu.joinState ∧ (offers s).mbu.joinWindow = s.mbu.joinWindow := by unfold offers; exact offerMany_fields s 52

@[simp] theorem claimSnapshot_fields (s : State) :
    (claimSnapshot s).bus.line = s.bus.line ∧ (claimSnapshot s).bus.markSlot = s.bus.markSlot ∧ (claimSnapshot s).bus.heartbeatSlot = s.bus.heartbeatSlot ∧ (claimSnapshot s).bus.counter = s.bus.counter ∧ (claimSnapshot s).bus.lastEnded = s.bus.lastEnded ∧ (claimSnapshot s).bus.streak = s.bus.streak ∧ (claimSnapshot s).bus.rx = s.bus.rx ∧ (claimSnapshot s).bus.idleWait = s.bus.idleWait ∧ (claimSnapshot s).bus.probe = s.bus.probe ∧ (claimSnapshot s).bus.clash = s.bus.clash ∧ (claimSnapshot s).mbu.mode = s.mbu.mode ∧ (claimSnapshot s).mbu.heartbeat = s.mbu.heartbeat ∧ (claimSnapshot s).mbu.joinState = s.mbu.joinState ∧ (claimSnapshot s).mbu.joinWindow = s.mbu.joinWindow := by unfold claimSnapshot; (repeat' split) <;> simp

@[simp] theorem claimJoin_fields (s : State) :
    (claimJoin s).bus.line = s.bus.line ∧ (claimJoin s).bus.markSlot = s.bus.markSlot ∧ (claimJoin s).bus.heartbeatSlot = s.bus.heartbeatSlot ∧ (claimJoin s).bus.owedSnapshot = s.bus.owedSnapshot ∧ (claimJoin s).bus.counter = s.bus.counter ∧ (claimJoin s).bus.lastEnded = s.bus.lastEnded ∧ (claimJoin s).bus.streak = s.bus.streak ∧ (claimJoin s).bus.rx = s.bus.rx ∧ (claimJoin s).bus.idleWait = s.bus.idleWait ∧ (claimJoin s).bus.probe = s.bus.probe ∧ (claimJoin s).bus.clash = s.bus.clash := by unfold claimJoin; (repeat' split) <;> simp

@[simp] theorem claimResync_fields (t : Addr) (s : State) :
    (claimResync t s).bus.line = s.bus.line ∧ (claimResync t s).bus.markSlot = s.bus.markSlot ∧ (claimResync t s).bus.heartbeatSlot = s.bus.heartbeatSlot ∧ (claimResync t s).bus.owedSnapshot = s.bus.owedSnapshot ∧ (claimResync t s).bus.owedJoin = s.bus.owedJoin ∧ (claimResync t s).bus.counter = s.bus.counter ∧ (claimResync t s).bus.lastEnded = s.bus.lastEnded ∧ (claimResync t s).bus.streak = s.bus.streak ∧ (claimResync t s).bus.rx = s.bus.rx ∧ (claimResync t s).bus.idleWait = s.bus.idleWait ∧ (claimResync t s).bus.probe = s.bus.probe ∧ (claimResync t s).bus.clash = s.bus.clash ∧ (claimResync t s).mbu.mode = s.mbu.mode ∧ (claimResync t s).mbu.heartbeat = s.mbu.heartbeat ∧ (claimResync t s).mbu.joinState = s.mbu.joinState ∧ (claimResync t s).mbu.joinWindow = s.mbu.joinWindow := by unfold claimResync; (repeat' split) <;> simp

@[simp] theorem claimReplay_fields (t : Addr) (s : State) :
    (claimReplay t s).bus.line = s.bus.line ∧ (claimReplay t s).bus.markSlot = s.bus.markSlot ∧ (claimReplay t s).bus.heartbeatSlot = s.bus.heartbeatSlot ∧ (claimReplay t s).bus.owedSnapshot = s.bus.owedSnapshot ∧ (claimReplay t s).bus.owedJoin = s.bus.owedJoin ∧ (claimReplay t s).bus.counter = s.bus.counter ∧ (claimReplay t s).bus.lastEnded = s.bus.lastEnded ∧ (claimReplay t s).bus.streak = s.bus.streak ∧ (claimReplay t s).bus.rx = s.bus.rx ∧ (claimReplay t s).bus.idleWait = s.bus.idleWait ∧ (claimReplay t s).bus.probe = s.bus.probe ∧ (claimReplay t s).bus.clash = s.bus.clash ∧ (claimReplay t s).mbu.mode = s.mbu.mode ∧ (claimReplay t s).mbu.heartbeat = s.mbu.heartbeat ∧ (claimReplay t s).mbu.joinState = s.mbu.joinState ∧ (claimReplay t s).mbu.joinWindow = s.mbu.joinWindow := by unfold claimReplay; (repeat' split) <;> simp

@[simp] theorem claimAck_fields (s : State) :
    (claimAck s).bus.line = s.bus.line ∧ (claimAck s).bus.markSlot = s.bus.markSlot ∧ (claimAck s).bus.heartbeatSlot = s.bus.heartbeatSlot ∧ (claimAck s).bus.owedSnapshot = s.bus.owedSnapshot ∧ (claimAck s).bus.owedJoin = s.bus.owedJoin ∧ (claimAck s).bus.counter = s.bus.counter ∧ (claimAck s).bus.lastEnded = s.bus.lastEnded ∧ (claimAck s).bus.streak = s.bus.streak ∧ (claimAck s).bus.rx = s.bus.rx ∧ (claimAck s).bus.idleWait = s.bus.idleWait ∧ (claimAck s).bus.probe = s.bus.probe ∧ (claimAck s).bus.clash = s.bus.clash := by unfold claimAck; (repeat' split) <;> simp

@[simp] theorem claimReset_fields (s : State) :
    (claimReset s).bus.line = s.bus.line ∧ (claimReset s).bus.markSlot = s.bus.markSlot ∧ (claimReset s).bus.heartbeatSlot = s.bus.heartbeatSlot ∧ (claimReset s).bus.owedSnapshot = s.bus.owedSnapshot ∧ (claimReset s).bus.owedJoin = s.bus.owedJoin ∧ (claimReset s).bus.counter = s.bus.counter ∧ (claimReset s).bus.lastEnded = s.bus.lastEnded ∧ (claimReset s).bus.streak = s.bus.streak ∧ (claimReset s).bus.rx = s.bus.rx ∧ (claimReset s).bus.idleWait = s.bus.idleWait ∧ (claimReset s).bus.probe = s.bus.probe ∧ (claimReset s).bus.clash = s.bus.clash := by unfold claimReset; (repeat' split) <;> simp

@[simp] theorem withdrawReplay_fields (t : Addr) (s : State) :
    (withdrawReplay t s).bus.markSlot = s.bus.markSlot ∧ (withdrawReplay t s).bus.heartbeatSlot = s.bus.heartbeatSlot ∧ (withdrawReplay t s).bus.counter = s.bus.counter ∧ (withdrawReplay t s).bus.lastEnded = s.bus.lastEnded ∧ (withdrawReplay t s).bus.streak = s.bus.streak ∧ (withdrawReplay t s).bus.rx = s.bus.rx ∧ (withdrawReplay t s).bus.idleWait = s.bus.idleWait ∧ (withdrawReplay t s).bus.probe = s.bus.probe ∧ (withdrawReplay t s).bus.clash = s.bus.clash ∧ (withdrawReplay t s).mbu.mode = s.mbu.mode ∧ (withdrawReplay t s).mbu.heartbeat = s.mbu.heartbeat ∧ (withdrawReplay t s).mbu.joinState = s.mbu.joinState ∧ (withdrawReplay t s).mbu.joinWindow = s.mbu.joinWindow := by unfold withdrawReplay; dsimp only; split <;> simp

@[simp] theorem withdrawMark_fields (s : State) :
    (withdrawMark s).bus.queue = s.bus.queue ∧ (withdrawMark s).bus.heartbeatSlot = s.bus.heartbeatSlot ∧ (withdrawMark s).bus.owedSnapshot = s.bus.owedSnapshot ∧ (withdrawMark s).bus.owedJoin = s.bus.owedJoin ∧ (withdrawMark s).bus.counter = s.bus.counter ∧ (withdrawMark s).bus.lastEnded = s.bus.lastEnded ∧ (withdrawMark s).bus.streak = s.bus.streak ∧ (withdrawMark s).bus.rx = s.bus.rx ∧ (withdrawMark s).bus.idleWait = s.bus.idleWait ∧ (withdrawMark s).bus.probe = s.bus.probe ∧ (withdrawMark s).bus.clash = s.bus.clash := by unfold withdrawMark; (repeat' split) <;> simp

@[simp] theorem announce_fields (p : Point) (s : State) :
    (announce p s).bus.line = s.bus.line ∧ (announce p s).bus.markSlot = s.bus.markSlot ∧ (announce p s).bus.heartbeatSlot = s.bus.heartbeatSlot ∧ (announce p s).bus.owedSnapshot = s.bus.owedSnapshot ∧ (announce p s).bus.owedJoin = s.bus.owedJoin ∧ (announce p s).bus.counter = s.bus.counter ∧ (announce p s).bus.lastEnded = s.bus.lastEnded ∧ (announce p s).bus.streak = s.bus.streak ∧ (announce p s).bus.rx = s.bus.rx ∧ (announce p s).bus.idleWait = s.bus.idleWait ∧ (announce p s).bus.probe = s.bus.probe ∧ (announce p s).bus.clash = s.bus.clash := by unfold announce; dsimp only; (repeat' split) <;> simp

@[simp] theorem takeEvent_fields (p : Point) (ev : PointEvent) (stamp : Millis) (s : State) :
    (takeEvent p ev stamp s).bus.line = s.bus.line ∧ (takeEvent p ev stamp s).bus.markSlot = s.bus.markSlot ∧ (takeEvent p ev stamp s).bus.heartbeatSlot = s.bus.heartbeatSlot ∧ (takeEvent p ev stamp s).bus.owedSnapshot = s.bus.owedSnapshot ∧ (takeEvent p ev stamp s).bus.owedJoin = s.bus.owedJoin ∧ (takeEvent p ev stamp s).bus.counter = s.bus.counter ∧ (takeEvent p ev stamp s).bus.lastEnded = s.bus.lastEnded ∧ (takeEvent p ev stamp s).bus.streak = s.bus.streak ∧ (takeEvent p ev stamp s).bus.rx = s.bus.rx ∧ (takeEvent p ev stamp s).bus.idleWait = s.bus.idleWait ∧ (takeEvent p ev stamp s).bus.probe = s.bus.probe ∧ (takeEvent p ev stamp s).bus.clash = s.bus.clash := by unfold takeEvent; dsimp only; (repeat' split) <;> simp

@[simp] theorem reconcileAll_fields (s : State) :
    (reconcileAll s).bus.line = s.bus.line ∧ (reconcileAll s).bus.markSlot = s.bus.markSlot ∧ (reconcileAll s).bus.heartbeatSlot = s.bus.heartbeatSlot ∧ (reconcileAll s).bus.counter = s.bus.counter ∧ (reconcileAll s).bus.lastEnded = s.bus.lastEnded ∧ (reconcileAll s).bus.streak = s.bus.streak ∧ (reconcileAll s).bus.rx = s.bus.rx ∧ (reconcileAll s).bus.idleWait = s.bus.idleWait ∧ (reconcileAll s).bus.probe = s.bus.probe ∧ (reconcileAll s).bus.clash = s.bus.clash ∧ (reconcileAll s).mbu.mode = s.mbu.mode ∧ (reconcileAll s).mbu.heartbeat = s.mbu.heartbeat ∧ (reconcileAll s).mbu.joinState = s.mbu.joinState ∧ (reconcileAll s).mbu.joinWindow = s.mbu.joinWindow := by unfold reconcileAll; simp

@[simp] theorem adoptReplay_fields (es : Tab Entry) (s : State) :
    (adoptReplay es s).bus.line = s.bus.line ∧ (adoptReplay es s).bus.markSlot = s.bus.markSlot ∧ (adoptReplay es s).bus.heartbeatSlot = s.bus.heartbeatSlot ∧ (adoptReplay es s).bus.counter = s.bus.counter ∧ (adoptReplay es s).bus.lastEnded = s.bus.lastEnded ∧ (adoptReplay es s).bus.streak = s.bus.streak ∧ (adoptReplay es s).bus.rx = s.bus.rx ∧ (adoptReplay es s).bus.idleWait = s.bus.idleWait ∧ (adoptReplay es s).bus.probe = s.bus.probe ∧ (adoptReplay es s).bus.clash = s.bus.clash ∧ (adoptReplay es s).mbu.mode = s.mbu.mode ∧ (adoptReplay es s).mbu.heartbeat = s.mbu.heartbeat ∧ (adoptReplay es s).mbu.joinState = s.mbu.joinState ∧ (adoptReplay es s).mbu.joinWindow = s.mbu.joinWindow := by unfold adoptReplay; (repeat' split) <;> simp

@[simp] theorem freshStart_fields (s : State) :
    (freshStart s).bus.line = s.bus.line ∧ (freshStart s).bus.markSlot = s.bus.markSlot ∧ (freshStart s).bus.heartbeatSlot = s.bus.heartbeatSlot ∧ (freshStart s).bus.counter = s.bus.counter ∧ (freshStart s).bus.lastEnded = s.bus.lastEnded ∧ (freshStart s).bus.streak = s.bus.streak ∧ (freshStart s).bus.rx = s.bus.rx ∧ (freshStart s).bus.idleWait = s.bus.idleWait ∧ (freshStart s).bus.probe = s.bus.probe ∧ (freshStart s).bus.clash = s.bus.clash ∧ (freshStart s).mbu.mode = s.mbu.mode ∧ (freshStart s).mbu.heartbeat = s.mbu.heartbeat ∧ (freshStart s).mbu.joinState = s.mbu.joinState ∧ (freshStart s).mbu.joinWindow = s.mbu.joinWindow := by unfold freshStart; (repeat' split) <;> simp

@[simp] theorem applyMark_fields (t : Millis) (s : State) :
    (applyMark t s).bus.queue = s.bus.queue ∧ (applyMark t s).bus.heartbeatSlot = s.bus.heartbeatSlot ∧ (applyMark t s).bus.owedSnapshot = s.bus.owedSnapshot ∧ (applyMark t s).bus.owedJoin = s.bus.owedJoin ∧ (applyMark t s).bus.counter = s.bus.counter ∧ (applyMark t s).bus.lastEnded = s.bus.lastEnded ∧ (applyMark t s).bus.streak = s.bus.streak ∧ (applyMark t s).bus.rx = s.bus.rx ∧ (applyMark t s).bus.idleWait = s.bus.idleWait ∧ (applyMark t s).bus.probe = s.bus.probe ∧ (applyMark t s).bus.clash = s.bus.clash := by unfold applyMark; simp

@[simp] theorem enterIsolated_fields (s : State) :
    (enterIsolated s).bus.line = s.bus.line ∧ (enterIsolated s).bus.counter = s.bus.counter ∧ (enterIsolated s).bus.streak = s.bus.streak ∧ (enterIsolated s).bus.rx = s.bus.rx ∧ (enterIsolated s).bus.idleWait = s.bus.idleWait ∧ (enterIsolated s).bus.clash = s.bus.clash ∧ (enterIsolated s).mbu.heartbeat = s.mbu.heartbeat ∧ (enterIsolated s).mbu.joinState = s.mbu.joinState ∧ (enterIsolated s).mbu.joinWindow = s.mbu.joinWindow := by unfold enterIsolated; dsimp only; (repeat' split) <;> simp

@[simp] theorem exitIsolated_fields (s : State) :
    (exitIsolated s).bus.line = s.bus.line ∧ (exitIsolated s).bus.markSlot = s.bus.markSlot ∧ (exitIsolated s).bus.heartbeatSlot = s.bus.heartbeatSlot ∧ (exitIsolated s).bus.counter = s.bus.counter ∧ (exitIsolated s).bus.lastEnded = s.bus.lastEnded ∧ (exitIsolated s).bus.rx = s.bus.rx ∧ (exitIsolated s).bus.idleWait = s.bus.idleWait ∧ (exitIsolated s).bus.clash = s.bus.clash ∧ (exitIsolated s).mbu.heartbeat = s.mbu.heartbeat := by unfold exitIsolated; dsimp only; (repeat' split) <;> simp

@[simp] theorem enterHalted_fields (c : HaltCause) (s : State) :
    (enterHalted c s).bus.queue = s.bus.queue ∧ (enterHalted c s).bus.markSlot = s.bus.markSlot ∧ (enterHalted c s).bus.heartbeatSlot = s.bus.heartbeatSlot ∧ (enterHalted c s).bus.owedSnapshot = s.bus.owedSnapshot ∧ (enterHalted c s).bus.owedJoin = s.bus.owedJoin ∧ (enterHalted c s).bus.counter = s.bus.counter ∧ (enterHalted c s).bus.lastEnded = s.bus.lastEnded ∧ (enterHalted c s).bus.streak = s.bus.streak ∧ (enterHalted c s).bus.rx = s.bus.rx ∧ (enterHalted c s).bus.clash = s.bus.clash ∧ (enterHalted c s).mbu.joinState = s.mbu.joinState := by unfold enterHalted; simp [Mbu.holdTimers]

@[simp] theorem loadAccepted_fields (c : StationConfig) (s : State) :
    (loadAccepted c s).bus.markSlot = s.bus.markSlot ∧ (loadAccepted c s).bus.heartbeatSlot = s.bus.heartbeatSlot ∧ (loadAccepted c s).bus.owedSnapshot = s.bus.owedSnapshot ∧ (loadAccepted c s).bus.counter = s.bus.counter ∧ (loadAccepted c s).bus.lastEnded = s.bus.lastEnded ∧ (loadAccepted c s).bus.streak = s.bus.streak ∧ (loadAccepted c s).bus.rx = s.bus.rx ∧ (loadAccepted c s).bus.idleWait = s.bus.idleWait ∧ (loadAccepted c s).bus.probe = s.bus.probe ∧ (loadAccepted c s).bus.clash = s.bus.clash ∧ (loadAccepted c s).mbu.members = s.mbu.members ∧ (loadAccepted c s).mbu.joinWindow = s.mbu.joinWindow := by unfold loadAccepted; simp

@[simp] theorem beginHead_fields (e : TxEntry) (rest : List TxEntry) (s : State) :
    (beginHead e rest s).bus.line = s.bus.line ∧ (beginHead e rest s).bus.markSlot = s.bus.markSlot ∧ (beginHead e rest s).bus.heartbeatSlot = s.bus.heartbeatSlot ∧ (beginHead e rest s).bus.lastEnded = s.bus.lastEnded ∧ (beginHead e rest s).bus.streak = s.bus.streak ∧ (beginHead e rest s).bus.rx = s.bus.rx ∧ (beginHead e rest s).bus.idleWait = s.bus.idleWait ∧ (beginHead e rest s).bus.probe = s.bus.probe ∧ (beginHead e rest s).bus.clash = s.bus.clash ∧ (beginHead e rest s).mbu.mode = s.mbu.mode ∧ (beginHead e rest s).mbu.heartbeat = s.mbu.heartbeat ∧ (beginHead e rest s).mbu.joinState = s.mbu.joinState ∧ (beginHead e rest s).mbu.joinWindow = s.mbu.joinWindow := by unfold beginHead; (repeat' split) <;> simp

@[simp] theorem beginCandidate_fields (c : Candidate) (s : State) :
    (beginCandidate c s).bus.line = s.bus.line ∧ (beginCandidate c s).bus.lastEnded = s.bus.lastEnded ∧ (beginCandidate c s).bus.streak = s.bus.streak ∧ (beginCandidate c s).bus.rx = s.bus.rx ∧ (beginCandidate c s).bus.idleWait = s.bus.idleWait ∧ (beginCandidate c s).bus.probe = s.bus.probe ∧ (beginCandidate c s).bus.clash = s.bus.clash ∧ (beginCandidate c s).mbu.mode = s.mbu.mode ∧ (beginCandidate c s).mbu.heartbeat = s.mbu.heartbeat ∧ (beginCandidate c s).mbu.joinState = s.mbu.joinState ∧ (beginCandidate c s).mbu.joinWindow = s.mbu.joinWindow := by unfold beginCandidate; (repeat' split) <;> simp

@[simp] theorem winContention_fields (c : Candidate) (s : State) :
    (winContention c s).bus.lastEnded = s.bus.lastEnded ∧ (winContention c s).bus.streak = s.bus.streak ∧ (winContention c s).bus.rx = s.bus.rx ∧ (winContention c s).bus.idleWait = s.bus.idleWait ∧ (winContention c s).bus.probe = s.bus.probe ∧ (winContention c s).bus.clash = s.bus.clash ∧ (winContention c s).mbu.mode = s.mbu.mode ∧ (winContention c s).mbu.heartbeat = s.mbu.heartbeat ∧ (winContention c s).mbu.joinState = s.mbu.joinState ∧ (winContention c s).mbu.joinWindow = s.mbu.joinWindow := by unfold winContention; dsimp only; (repeat' split) <;> simp

@[simp] theorem countDiscard_fields (s : State) :
    (countDiscard s).bus.line = s.bus.line ∧ (countDiscard s).bus.queue = s.bus.queue ∧ (countDiscard s).bus.markSlot = s.bus.markSlot ∧ (countDiscard s).bus.heartbeatSlot = s.bus.heartbeatSlot ∧ (countDiscard s).bus.owedSnapshot = s.bus.owedSnapshot ∧ (countDiscard s).bus.owedJoin = s.bus.owedJoin ∧ (countDiscard s).bus.counter = s.bus.counter ∧ (countDiscard s).bus.lastEnded = s.bus.lastEnded ∧ (countDiscard s).bus.rx = s.bus.rx ∧ (countDiscard s).bus.idleWait = s.bus.idleWait ∧ (countDiscard s).bus.probe = s.bus.probe ∧ (countDiscard s).bus.clash = s.bus.clash := by unfold countDiscard; simp

@[simp] theorem afterDiscard_fields (s : State) :
    (afterDiscard s).bus.line = s.bus.line ∧ (afterDiscard s).bus.counter = s.bus.counter ∧ (afterDiscard s).bus.rx = s.bus.rx ∧ (afterDiscard s).bus.idleWait = s.bus.idleWait ∧ (afterDiscard s).bus.clash = s.bus.clash ∧ (afterDiscard s).mbu.heartbeat = s.mbu.heartbeat ∧ (afterDiscard s).mbu.joinState = s.mbu.joinState ∧ (afterDiscard s).mbu.joinWindow = s.mbu.joinWindow := by unfold afterDiscard; dsimp only; (repeat' split) <;> simp

@[simp] theorem settleDiscard_fields (e : TxEntry) (s : State) :
    (settleDiscard e s).bus.line = s.bus.line ∧ (settleDiscard e s).bus.queue = s.bus.queue ∧ (settleDiscard e s).bus.markSlot = s.bus.markSlot ∧ (settleDiscard e s).bus.heartbeatSlot = s.bus.heartbeatSlot ∧ (settleDiscard e s).bus.counter = s.bus.counter ∧ (settleDiscard e s).bus.streak = s.bus.streak ∧ (settleDiscard e s).bus.rx = s.bus.rx ∧ (settleDiscard e s).bus.idleWait = s.bus.idleWait ∧ (settleDiscard e s).bus.probe = s.bus.probe ∧ (settleDiscard e s).bus.clash = s.bus.clash := by unfold settleDiscard; (repeat' split) <;> simp

@[simp] theorem chargeAttempt_fields (c : Candidate) (s : State) :
    (chargeAttempt c s).bus.line = s.bus.line ∧ (chargeAttempt c s).bus.counter = s.bus.counter ∧ (chargeAttempt c s).bus.rx = s.bus.rx ∧ (chargeAttempt c s).bus.idleWait = s.bus.idleWait ∧ (chargeAttempt c s).bus.clash = s.bus.clash ∧ (chargeAttempt c s).mbu.heartbeat = s.mbu.heartbeat ∧ (chargeAttempt c s).mbu.joinState = s.mbu.joinState ∧ (chargeAttempt c s).mbu.joinWindow = s.mbu.joinWindow := by unfold chargeAttempt; (repeat' split) <;> simp

@[simp] theorem releaseCandidate_fields (c : Candidate) (f : Frame) (s : State) :
    (releaseCandidate c f s).bus.line = s.bus.line ∧ (releaseCandidate c f s).bus.owedSnapshot = s.bus.owedSnapshot ∧ (releaseCandidate c f s).bus.owedJoin = s.bus.owedJoin ∧ (releaseCandidate c f s).bus.counter = s.bus.counter ∧ (releaseCandidate c f s).bus.streak = s.bus.streak ∧ (releaseCandidate c f s).bus.rx = s.bus.rx ∧ (releaseCandidate c f s).bus.idleWait = s.bus.idleWait ∧ (releaseCandidate c f s).bus.probe = s.bus.probe ∧ (releaseCandidate c f s).bus.clash = s.bus.clash := by unfold releaseCandidate; (repeat' split) <;> simp

@[simp] theorem receive_fields (f : Frame) (o : Origin) (s : State) :
    (receive f o s).bus.line = s.bus.line ∧ (receive f o s).bus.queue = s.bus.queue ∧ (receive f o s).bus.markSlot = s.bus.markSlot ∧ (receive f o s).bus.heartbeatSlot = s.bus.heartbeatSlot ∧ (receive f o s).bus.owedSnapshot = s.bus.owedSnapshot ∧ (receive f o s).bus.owedJoin = s.bus.owedJoin ∧ (receive f o s).bus.counter = s.bus.counter ∧ (receive f o s).bus.lastEnded = s.bus.lastEnded ∧ (receive f o s).bus.streak = s.bus.streak ∧ (receive f o s).bus.idleWait = s.bus.idleWait ∧ (receive f o s).bus.probe = s.bus.probe ∧ (receive f o s).bus.clash = s.bus.clash := by unfold receive; simp

@[simp] theorem completeFrame_fields (c : Candidate) (f : Frame) (s : State) :
    (completeFrame c f s).bus.counter = s.bus.counter ∧ (completeFrame c f s).bus.idleWait = s.bus.idleWait ∧ (completeFrame c f s).bus.clash = s.bus.clash ∧ (completeFrame c f s).mbu.heartbeat = s.mbu.heartbeat := by unfold completeFrame; dsimp only; (repeat' split) <;> simp

@[simp] theorem passLooped_fields (s : State) :
    (passLooped s).bus.line = s.bus.line ∧ (passLooped s).bus.markSlot = s.bus.markSlot ∧ (passLooped s).bus.heartbeatSlot = s.bus.heartbeatSlot ∧ (passLooped s).bus.counter = s.bus.counter ∧ (passLooped s).bus.lastEnded = s.bus.lastEnded ∧ (passLooped s).bus.streak = s.bus.streak ∧ (passLooped s).bus.idleWait = s.bus.idleWait ∧ (passLooped s).bus.probe = s.bus.probe ∧ (passLooped s).bus.clash = s.bus.clash ∧ (passLooped s).mbu.mode = s.mbu.mode ∧ (passLooped s).mbu.heartbeat = s.mbu.heartbeat ∧ (passLooped s).mbu.joinState = s.mbu.joinState ∧ (passLooped s).mbu.joinWindow = s.mbu.joinWindow := by unfold passLooped; (repeat' split) <;> simp

@[simp] theorem beginWait_fields (st : Addr) (s : State) :
    (beginWait st s).bus.line = s.bus.line ∧ (beginWait st s).bus.markSlot = s.bus.markSlot ∧ (beginWait st s).bus.heartbeatSlot = s.bus.heartbeatSlot ∧ (beginWait st s).bus.owedSnapshot = s.bus.owedSnapshot ∧ (beginWait st s).bus.owedJoin = s.bus.owedJoin ∧ (beginWait st s).bus.counter = s.bus.counter ∧ (beginWait st s).bus.lastEnded = s.bus.lastEnded ∧ (beginWait st s).bus.streak = s.bus.streak ∧ (beginWait st s).bus.rx = s.bus.rx ∧ (beginWait st s).bus.idleWait = s.bus.idleWait ∧ (beginWait st s).bus.probe = s.bus.probe ∧ (beginWait st s).bus.clash = s.bus.clash ∧ (beginWait st s).mbu.mode = s.mbu.mode ∧ (beginWait st s).mbu.heartbeat = s.mbu.heartbeat ∧ (beginWait st s).mbu.joinState = s.mbu.joinState ∧ (beginWait st s).mbu.joinWindow = s.mbu.joinWindow := by unfold beginWait; simp

@[simp] theorem considerReplay_fields (st : Addr) (m : BitVec 16) (s : State) :
    (considerReplay st m s).mbu.mode = s.mbu.mode ∧ (considerReplay st m s).mbu.heartbeat = s.mbu.heartbeat ∧ (considerReplay st m s).mbu.joinState = s.mbu.joinState ∧ (considerReplay st m s).mbu.joinWindow = s.mbu.joinWindow := by unfold considerReplay; (repeat' split) <;> simp

@[simp] theorem joinHeard_fields (st : Addr) (c : SeqNo) (m : BitVec 16) (s : State) :
    (joinHeard st c m s).bus.line = s.bus.line ∧ (joinHeard st c m s).bus.markSlot = s.bus.markSlot ∧ (joinHeard st c m s).bus.heartbeatSlot = s.bus.heartbeatSlot ∧ (joinHeard st c m s).bus.counter = s.bus.counter ∧ (joinHeard st c m s).bus.lastEnded = s.bus.lastEnded ∧ (joinHeard st c m s).bus.streak = s.bus.streak ∧ (joinHeard st c m s).bus.rx = s.bus.rx ∧ (joinHeard st c m s).bus.idleWait = s.bus.idleWait ∧ (joinHeard st c m s).bus.probe = s.bus.probe ∧ (joinHeard st c m s).bus.clash = s.bus.clash ∧ (joinHeard st c m s).mbu.mode = s.mbu.mode ∧ (joinHeard st c m s).mbu.heartbeat = s.mbu.heartbeat ∧ (joinHeard st c m s).mbu.joinState = s.mbu.joinState ∧ (joinHeard st c m s).mbu.joinWindow = s.mbu.joinWindow := by unfold joinHeard; dsimp only; (repeat' split) <;> simp

@[simp] theorem snapshotHeard_fields (st : Addr) (c : SeqNo) (s : State) :
    (snapshotHeard st c s).mbu.mode = s.mbu.mode ∧ (snapshotHeard st c s).mbu.heartbeat = s.mbu.heartbeat ∧ (snapshotHeard st c s).mbu.joinState = s.mbu.joinState ∧ (snapshotHeard st c s).mbu.joinWindow = s.mbu.joinWindow := by unfold snapshotHeard; dsimp only; (repeat' split) <;> simp

@[simp] theorem streamHeard_fields (st : Addr) (c : SeqNo) (b : Body) (s : State) :
    (streamHeard st c b s).bus.line = s.bus.line ∧ (streamHeard st c b s).bus.markSlot = s.bus.markSlot ∧ (streamHeard st c b s).bus.heartbeatSlot = s.bus.heartbeatSlot ∧ (streamHeard st c b s).bus.owedSnapshot = s.bus.owedSnapshot ∧ (streamHeard st c b s).bus.owedJoin = s.bus.owedJoin ∧ (streamHeard st c b s).bus.counter = s.bus.counter ∧ (streamHeard st c b s).bus.lastEnded = s.bus.lastEnded ∧ (streamHeard st c b s).bus.streak = s.bus.streak ∧ (streamHeard st c b s).bus.rx = s.bus.rx ∧ (streamHeard st c b s).bus.idleWait = s.bus.idleWait ∧ (streamHeard st c b s).bus.probe = s.bus.probe ∧ (streamHeard st c b s).bus.clash = s.bus.clash ∧ (streamHeard st c b s).mbu.mode = s.mbu.mode ∧ (streamHeard st c b s).mbu.heartbeat = s.mbu.heartbeat ∧ (streamHeard st c b s).mbu.joinState = s.mbu.joinState ∧ (streamHeard st c b s).mbu.joinWindow = s.mbu.joinWindow := by unfold streamHeard; dsimp only; (repeat' split) <;> simp

@[simp] theorem restartSilence_fields (st : Addr) (s : State) :
    (restartSilence st s).mbu.mode = s.mbu.mode ∧ (restartSilence st s).mbu.heartbeat = s.mbu.heartbeat ∧ (restartSilence st s).mbu.joinState = s.mbu.joinState ∧ (restartSilence st s).mbu.joinWindow = s.mbu.joinWindow := by unfold restartSilence; simp

@[simp] theorem peerHeard_fields (f : Frame) (s : State) :
    (peerHeard f s).bus.line = s.bus.line ∧ (peerHeard f s).bus.markSlot = s.bus.markSlot ∧ (peerHeard f s).bus.heartbeatSlot = s.bus.heartbeatSlot ∧ (peerHeard f s).bus.counter = s.bus.counter ∧ (peerHeard f s).bus.lastEnded = s.bus.lastEnded ∧ (peerHeard f s).bus.streak = s.bus.streak ∧ (peerHeard f s).bus.rx = s.bus.rx ∧ (peerHeard f s).bus.idleWait = s.bus.idleWait ∧ (peerHeard f s).bus.probe = s.bus.probe ∧ (peerHeard f s).bus.clash = s.bus.clash ∧ (peerHeard f s).mbu.mode = s.mbu.mode ∧ (peerHeard f s).mbu.heartbeat = s.mbu.heartbeat ∧ (peerHeard f s).mbu.joinState = s.mbu.joinState ∧ (peerHeard f s).mbu.joinWindow = s.mbu.joinWindow := by unfold peerHeard; dsimp only; (repeat' split) <;> simp

@[simp] theorem openJoinWindow_fields (s : State) :
    (openJoinWindow s).mbu.members = s.mbu.members ∧ (openJoinWindow s).mbu.mode = s.mbu.mode ∧ (openJoinWindow s).mbu.heartbeat = s.mbu.heartbeat := by unfold openJoinWindow; (repeat' split) <;> simp

@[simp] theorem closeJoin_fields (s : State) :
    (closeJoin s).mbu.members = s.mbu.members ∧ (closeJoin s).mbu.mode = s.mbu.mode ∧ (closeJoin s).mbu.heartbeat = s.mbu.heartbeat := by unfold closeJoin; simp

@[simp] theorem ownHeard_fields (e : RxEntry) (s : State) :
    (ownHeard e s).bus.markSlot = s.bus.markSlot ∧ (ownHeard e s).bus.heartbeatSlot = s.bus.heartbeatSlot ∧ (ownHeard e s).bus.counter = s.bus.counter ∧ (ownHeard e s).bus.lastEnded = s.bus.lastEnded ∧ (ownHeard e s).bus.streak = s.bus.streak ∧ (ownHeard e s).bus.rx = s.bus.rx ∧ (ownHeard e s).bus.idleWait = s.bus.idleWait ∧ (ownHeard e s).bus.probe = s.bus.probe ∧ (ownHeard e s).bus.clash = s.bus.clash ∧ (ownHeard e s).mbu.heartbeat = s.mbu.heartbeat := by unfold ownHeard; (repeat' split) <;> simp

@[simp] theorem peerClassHandling_fields (e : RxEntry) (s : State) :
    (peerClassHandling e s).bus.markSlot = s.bus.markSlot ∧ (peerClassHandling e s).bus.heartbeatSlot = s.bus.heartbeatSlot ∧ (peerClassHandling e s).bus.counter = s.bus.counter ∧ (peerClassHandling e s).bus.lastEnded = s.bus.lastEnded ∧ (peerClassHandling e s).bus.streak = s.bus.streak ∧ (peerClassHandling e s).bus.rx = s.bus.rx ∧ (peerClassHandling e s).bus.idleWait = s.bus.idleWait ∧ (peerClassHandling e s).bus.probe = s.bus.probe ∧ (peerClassHandling e s).bus.clash = s.bus.clash ∧ (peerClassHandling e s).mbu.mode = s.mbu.mode ∧ (peerClassHandling e s).mbu.heartbeat = s.mbu.heartbeat := by unfold peerClassHandling; (repeat' split) <;> simp

@[simp] theorem mbuStage_fields (e : RxEntry) (s : State) :
    (mbuStage e s).bus.markSlot = s.bus.markSlot ∧ (mbuStage e s).bus.heartbeatSlot = s.bus.heartbeatSlot ∧ (mbuStage e s).bus.counter = s.bus.counter ∧ (mbuStage e s).bus.lastEnded = s.bus.lastEnded ∧ (mbuStage e s).bus.streak = s.bus.streak ∧ (mbuStage e s).bus.rx = s.bus.rx ∧ (mbuStage e s).bus.idleWait = s.bus.idleWait ∧ (mbuStage e s).bus.probe = s.bus.probe ∧ (mbuStage e s).bus.clash = s.bus.clash ∧ (mbuStage e s).mbu.heartbeat = s.mbu.heartbeat := by unfold mbuStage; (repeat' split) <;> simp

@[simp] theorem declareAbsent_fields (st : Addr) (s : State) :
    (declareAbsent st s).mbu.mode = s.mbu.mode ∧ (declareAbsent st s).mbu.heartbeat = s.mbu.heartbeat ∧ (declareAbsent st s).mbu.joinState = s.mbu.joinState ∧ (declareAbsent st s).mbu.joinWindow = s.mbu.joinWindow := by unfold declareAbsent; simp

@[simp] theorem renewWait_fields (st : Addr) (s : State) :
    (renewWait st s).bus.line = s.bus.line ∧ (renewWait st s).bus.markSlot = s.bus.markSlot ∧ (renewWait st s).bus.heartbeatSlot = s.bus.heartbeatSlot ∧ (renewWait st s).bus.owedSnapshot = s.bus.owedSnapshot ∧ (renewWait st s).bus.owedJoin = s.bus.owedJoin ∧ (renewWait st s).bus.counter = s.bus.counter ∧ (renewWait st s).bus.lastEnded = s.bus.lastEnded ∧ (renewWait st s).bus.streak = s.bus.streak ∧ (renewWait st s).bus.rx = s.bus.rx ∧ (renewWait st s).bus.idleWait = s.bus.idleWait ∧ (renewWait st s).bus.probe = s.bus.probe ∧ (renewWait st s).bus.clash = s.bus.clash ∧ (renewWait st s).mbu.mode = s.mbu.mode ∧ (renewWait st s).mbu.heartbeat = s.mbu.heartbeat ∧ (renewWait st s).mbu.joinState = s.mbu.joinState ∧ (renewWait st s).mbu.joinWindow = s.mbu.joinWindow := by unfold renewWait; simp

@[simp] theorem takeRequest_fields (mask : ZoneMask) (acts : SeqState) (ev : PointEvent) (s : State) :
    (takeRequest mask acts ev s).bus.line = s.bus.line ∧ (takeRequest mask acts ev s).bus.markSlot = s.bus.markSlot ∧ (takeRequest mask acts ev s).bus.heartbeatSlot = s.bus.heartbeatSlot ∧ (takeRequest mask acts ev s).bus.owedSnapshot = s.bus.owedSnapshot ∧ (takeRequest mask acts ev s).bus.owedJoin = s.bus.owedJoin ∧ (takeRequest mask acts ev s).bus.counter = s.bus.counter ∧ (takeRequest mask acts ev s).bus.lastEnded = s.bus.lastEnded ∧ (takeRequest mask acts ev s).bus.streak = s.bus.streak ∧ (takeRequest mask acts ev s).bus.rx = s.bus.rx ∧ (takeRequest mask acts ev s).bus.idleWait = s.bus.idleWait ∧ (takeRequest mask acts ev s).bus.probe = s.bus.probe ∧ (takeRequest mask acts ev s).bus.clash = s.bus.clash := by
  unfold takeRequest; split
  · exact ⟨foldl_keeps (fun s => s.bus.line) _ (fun s p => by split <;> simp) _ s, foldl_keeps (fun s => s.bus.markSlot) _ (fun s p => by split <;> simp) _ s, foldl_keeps (fun s => s.bus.heartbeatSlot) _ (fun s p => by split <;> simp) _ s, foldl_keeps (fun s => s.bus.owedSnapshot) _ (fun s p => by split <;> simp) _ s, foldl_keeps (fun s => s.bus.owedJoin) _ (fun s p => by split <;> simp) _ s, foldl_keeps (fun s => s.bus.counter) _ (fun s p => by split <;> simp) _ s, foldl_keeps (fun s => s.bus.lastEnded) _ (fun s p => by split <;> simp) _ s, foldl_keeps (fun s => s.bus.streak) _ (fun s p => by split <;> simp) _ s, foldl_keeps (fun s => s.bus.rx) _ (fun s p => by split <;> simp) _ s, foldl_keeps (fun s => s.bus.idleWait) _ (fun s p => by split <;> simp) _ s, foldl_keeps (fun s => s.bus.probe) _ (fun s p => by split <;> simp) _ s, foldl_keeps (fun s => s.bus.clash) _ (fun s p => by split <;> simp) _ s⟩
  · simp

@[simp] theorem psqStage_fields (d : Bool) (f : Frame) (s : State) :
    (psqStage d f s).bus.line = s.bus.line ∧ (psqStage d f s).bus.markSlot = s.bus.markSlot ∧ (psqStage d f s).bus.heartbeatSlot = s.bus.heartbeatSlot ∧ (psqStage d f s).bus.counter = s.bus.counter ∧ (psqStage d f s).bus.lastEnded = s.bus.lastEnded ∧ (psqStage d f s).bus.streak = s.bus.streak ∧ (psqStage d f s).bus.rx = s.bus.rx ∧ (psqStage d f s).bus.idleWait = s.bus.idleWait ∧ (psqStage d f s).bus.probe = s.bus.probe ∧ (psqStage d f s).bus.clash = s.bus.clash ∧ (psqStage d f s).mbu.mode = s.mbu.mode ∧ (psqStage d f s).mbu.heartbeat = s.mbu.heartbeat ∧ (psqStage d f s).mbu.joinState = s.mbu.joinState ∧ (psqStage d f s).mbu.joinWindow = s.mbu.joinWindow := by unfold psqStage; (repeat' split) <;> simp

@[simp] theorem tmbStage_fields (f : Frame) (s : State) :
    (tmbStage f s).bus.queue = s.bus.queue ∧ (tmbStage f s).bus.heartbeatSlot = s.bus.heartbeatSlot ∧ (tmbStage f s).bus.owedSnapshot = s.bus.owedSnapshot ∧ (tmbStage f s).bus.owedJoin = s.bus.owedJoin ∧ (tmbStage f s).bus.counter = s.bus.counter ∧ (tmbStage f s).bus.lastEnded = s.bus.lastEnded ∧ (tmbStage f s).bus.streak = s.bus.streak ∧ (tmbStage f s).bus.rx = s.bus.rx ∧ (tmbStage f s).bus.idleWait = s.bus.idleWait ∧ (tmbStage f s).bus.probe = s.bus.probe ∧ (tmbStage f s).bus.clash = s.bus.clash := by unfold tmbStage; (repeat' split) <;> simp

@[simp] theorem deliverStages_fields (e : RxEntry) (s : State) :
    (deliverStages e s).bus.heartbeatSlot = s.bus.heartbeatSlot ∧ (deliverStages e s).bus.counter = s.bus.counter ∧ (deliverStages e s).bus.lastEnded = s.bus.lastEnded ∧ (deliverStages e s).bus.streak = s.bus.streak ∧ (deliverStages e s).bus.rx = s.bus.rx ∧ (deliverStages e s).bus.idleWait = s.bus.idleWait ∧ (deliverStages e s).bus.probe = s.bus.probe ∧ (deliverStages e s).bus.clash = s.bus.clash ∧ (deliverStages e s).mbu.heartbeat = s.mbu.heartbeat := by unfold deliverStages; simp

@[simp] theorem endDelivery_fields (s : State) :
    (endDelivery s).bus.line = s.bus.line ∧ (endDelivery s).bus.queue = s.bus.queue ∧ (endDelivery s).bus.markSlot = s.bus.markSlot ∧ (endDelivery s).bus.heartbeatSlot = s.bus.heartbeatSlot ∧ (endDelivery s).bus.owedSnapshot = s.bus.owedSnapshot ∧ (endDelivery s).bus.owedJoin = s.bus.owedJoin ∧ (endDelivery s).bus.counter = s.bus.counter ∧ (endDelivery s).bus.lastEnded = s.bus.lastEnded ∧ (endDelivery s).bus.streak = s.bus.streak ∧ (endDelivery s).bus.probe = s.bus.probe ∧ (endDelivery s).bus.clash = s.bus.clash := by unfold endDelivery; simp

@[simp] theorem countActivation_fields (p : Point) (s : State) :
    (countActivation p s).bus.line = s.bus.line ∧ (countActivation p s).bus.markSlot = s.bus.markSlot ∧ (countActivation p s).bus.heartbeatSlot = s.bus.heartbeatSlot ∧ (countActivation p s).bus.owedSnapshot = s.bus.owedSnapshot ∧ (countActivation p s).bus.owedJoin = s.bus.owedJoin ∧ (countActivation p s).bus.counter = s.bus.counter ∧ (countActivation p s).bus.lastEnded = s.bus.lastEnded ∧ (countActivation p s).bus.streak = s.bus.streak ∧ (countActivation p s).bus.rx = s.bus.rx ∧ (countActivation p s).bus.idleWait = s.bus.idleWait ∧ (countActivation p s).bus.probe = s.bus.probe ∧ (countActivation p s).bus.clash = s.bus.clash := by unfold countActivation; dsimp only; (repeat' split) <;> simp

@[simp] theorem qualify_fields (p : Point) (s : State) :
    (qualify p s).bus.line = s.bus.line ∧ (qualify p s).bus.markSlot = s.bus.markSlot ∧ (qualify p s).bus.heartbeatSlot = s.bus.heartbeatSlot ∧ (qualify p s).bus.owedSnapshot = s.bus.owedSnapshot ∧ (qualify p s).bus.owedJoin = s.bus.owedJoin ∧ (qualify p s).bus.counter = s.bus.counter ∧ (qualify p s).bus.lastEnded = s.bus.lastEnded ∧ (qualify p s).bus.streak = s.bus.streak ∧ (qualify p s).bus.rx = s.bus.rx ∧ (qualify p s).bus.idleWait = s.bus.idleWait ∧ (qualify p s).bus.probe = s.bus.probe ∧ (qualify p s).bus.clash = s.bus.clash := by unfold qualify; dsimp only; (repeat' split) <;> simp

@[simp] theorem releasePoint_fields (b : Tab FieldPoint) (s : State) (p : Point) :
    (releasePoint b s p).bus.line = s.bus.line ∧ (releasePoint b s p).bus.markSlot = s.bus.markSlot ∧ (releasePoint b s p).bus.heartbeatSlot = s.bus.heartbeatSlot ∧ (releasePoint b s p).bus.owedSnapshot = s.bus.owedSnapshot ∧ (releasePoint b s p).bus.owedJoin = s.bus.owedJoin ∧ (releasePoint b s p).bus.counter = s.bus.counter ∧ (releasePoint b s p).bus.lastEnded = s.bus.lastEnded ∧ (releasePoint b s p).bus.streak = s.bus.streak ∧ (releasePoint b s p).bus.rx = s.bus.rx ∧ (releasePoint b s p).bus.idleWait = s.bus.idleWait ∧ (releasePoint b s p).bus.probe = s.bus.probe ∧ (releasePoint b s p).bus.clash = s.bus.clash := by unfold releasePoint; split <;> simp

@[simp] theorem foldl_releasePoint_fields (b : Tab FieldPoint) (ps : List Point) (s : State) :
    (ps.foldl (releasePoint b) s).bus.line = s.bus.line ∧ (ps.foldl (releasePoint b) s).bus.markSlot = s.bus.markSlot ∧ (ps.foldl (releasePoint b) s).bus.heartbeatSlot = s.bus.heartbeatSlot ∧ (ps.foldl (releasePoint b) s).bus.owedSnapshot = s.bus.owedSnapshot ∧ (ps.foldl (releasePoint b) s).bus.owedJoin = s.bus.owedJoin ∧ (ps.foldl (releasePoint b) s).bus.counter = s.bus.counter ∧ (ps.foldl (releasePoint b) s).bus.lastEnded = s.bus.lastEnded ∧ (ps.foldl (releasePoint b) s).bus.streak = s.bus.streak ∧ (ps.foldl (releasePoint b) s).bus.rx = s.bus.rx ∧ (ps.foldl (releasePoint b) s).bus.idleWait = s.bus.idleWait ∧ (ps.foldl (releasePoint b) s).bus.probe = s.bus.probe ∧ (ps.foldl (releasePoint b) s).bus.clash = s.bus.clash := ⟨foldl_keeps (fun s => s.bus.line) _ (fun s p => by simp) _ s, foldl_keeps (fun s => s.bus.markSlot) _ (fun s p => by simp) _ s, foldl_keeps (fun s => s.bus.heartbeatSlot) _ (fun s p => by simp) _ s, foldl_keeps (fun s => s.bus.owedSnapshot) _ (fun s p => by simp) _ s, foldl_keeps (fun s => s.bus.owedJoin) _ (fun s p => by simp) _ s, foldl_keeps (fun s => s.bus.counter) _ (fun s p => by simp) _ s, foldl_keeps (fun s => s.bus.lastEnded) _ (fun s p => by simp) _ s, foldl_keeps (fun s => s.bus.streak) _ (fun s p => by simp) _ s, foldl_keeps (fun s => s.bus.rx) _ (fun s p => by simp) _ s, foldl_keeps (fun s => s.bus.idleWait) _ (fun s p => by simp) _ s, foldl_keeps (fun s => s.bus.probe) _ (fun s p => by simp) _ s, foldl_keeps (fun s => s.bus.clash) _ (fun s p => by simp) _ s⟩

@[simp] theorem drainStep_fields (s : State) :
    (drainStep s).bus.line = s.bus.line ∧ (drainStep s).bus.markSlot = s.bus.markSlot ∧ (drainStep s).bus.heartbeatSlot = s.bus.heartbeatSlot ∧ (drainStep s).bus.owedSnapshot = s.bus.owedSnapshot ∧ (drainStep s).bus.owedJoin = s.bus.owedJoin ∧ (drainStep s).bus.counter = s.bus.counter ∧ (drainStep s).bus.lastEnded = s.bus.lastEnded ∧ (drainStep s).bus.streak = s.bus.streak ∧ (drainStep s).bus.rx = s.bus.rx ∧ (drainStep s).bus.idleWait = s.bus.idleWait ∧ (drainStep s).bus.probe = s.bus.probe ∧ (drainStep s).bus.clash = s.bus.clash := by unfold drainStep; simp

@[simp] theorem press_fields (b : Button) (s : State) :
    (press b s).bus.line = s.bus.line ∧ (press b s).bus.markSlot = s.bus.markSlot ∧ (press b s).bus.heartbeatSlot = s.bus.heartbeatSlot ∧ (press b s).bus.owedSnapshot = s.bus.owedSnapshot ∧ (press b s).bus.owedJoin = s.bus.owedJoin ∧ (press b s).bus.counter = s.bus.counter ∧ (press b s).bus.lastEnded = s.bus.lastEnded ∧ (press b s).bus.streak = s.bus.streak ∧ (press b s).bus.rx = s.bus.rx ∧ (press b s).bus.idleWait = s.bus.idleWait ∧ (press b s).bus.probe = s.bus.probe ∧ (press b s).bus.clash = s.bus.clash := by unfold press; (repeat' split) <;> simp

@[simp] theorem debounce_fields (b : Button) (s : State) :
    (debounce b s).bus.line = s.bus.line ∧ (debounce b s).bus.markSlot = s.bus.markSlot ∧ (debounce b s).bus.heartbeatSlot = s.bus.heartbeatSlot ∧ (debounce b s).bus.owedSnapshot = s.bus.owedSnapshot ∧ (debounce b s).bus.owedJoin = s.bus.owedJoin ∧ (debounce b s).bus.counter = s.bus.counter ∧ (debounce b s).bus.lastEnded = s.bus.lastEnded ∧ (debounce b s).bus.streak = s.bus.streak ∧ (debounce b s).bus.rx = s.bus.rx ∧ (debounce b s).bus.idleWait = s.bus.idleWait ∧ (debounce b s).bus.probe = s.bus.probe ∧ (debounce b s).bus.clash = s.bus.clash := by unfold debounce release; dsimp only; (repeat' split) <;> simp

@[simp] theorem failAttempt_fields (c : Candidate) (s : State) :
    (failAttempt c s).bus.counter = s.bus.counter ∧ (failAttempt c s).bus.rx = s.bus.rx ∧ (failAttempt c s).bus.clash = s.bus.clash ∧ (failAttempt c s).mbu.heartbeat = s.mbu.heartbeat ∧ (failAttempt c s).mbu.joinState = s.mbu.joinState ∧ (failAttempt c s).mbu.joinWindow = s.mbu.joinWindow := by unfold failAttempt; simp

@[simp] theorem fillHeartbeat_fields (p : Bool) (s : State) :
    (fillHeartbeat p s).bus.line = s.bus.line ∧ (fillHeartbeat p s).bus.queue = s.bus.queue ∧ (fillHeartbeat p s).bus.markSlot = s.bus.markSlot ∧ (fillHeartbeat p s).bus.owedSnapshot = s.bus.owedSnapshot ∧ (fillHeartbeat p s).bus.owedJoin = s.bus.owedJoin ∧ (fillHeartbeat p s).bus.counter = s.bus.counter ∧ (fillHeartbeat p s).bus.lastEnded = s.bus.lastEnded ∧ (fillHeartbeat p s).bus.streak = s.bus.streak ∧ (fillHeartbeat p s).bus.rx = s.bus.rx ∧ (fillHeartbeat p s).bus.idleWait = s.bus.idleWait ∧ (fillHeartbeat p s).bus.probe = s.bus.probe ∧ (fillHeartbeat p s).bus.clash = s.bus.clash := by unfold fillHeartbeat; split <;> simp

@[simp] theorem fillMark_fields (s : State) :
    (fillMark s).bus.line = s.bus.line ∧ (fillMark s).bus.queue = s.bus.queue ∧ (fillMark s).bus.heartbeatSlot = s.bus.heartbeatSlot ∧ (fillMark s).bus.owedSnapshot = s.bus.owedSnapshot ∧ (fillMark s).bus.owedJoin = s.bus.owedJoin ∧ (fillMark s).bus.counter = s.bus.counter ∧ (fillMark s).bus.lastEnded = s.bus.lastEnded ∧ (fillMark s).bus.streak = s.bus.streak ∧ (fillMark s).bus.rx = s.bus.rx ∧ (fillMark s).bus.idleWait = s.bus.idleWait ∧ (fillMark s).bus.probe = s.bus.probe ∧ (fillMark s).bus.clash = s.bus.clash := by unfold fillMark; split <;> simp

@[simp] theorem beatHeart_fields (s : State) :
    (beatHeart s).bus.line = s.bus.line ∧ (beatHeart s).bus.queue = s.bus.queue ∧ (beatHeart s).bus.markSlot = s.bus.markSlot ∧ (beatHeart s).bus.owedSnapshot = s.bus.owedSnapshot ∧ (beatHeart s).bus.owedJoin = s.bus.owedJoin ∧ (beatHeart s).bus.counter = s.bus.counter ∧ (beatHeart s).bus.lastEnded = s.bus.lastEnded ∧ (beatHeart s).bus.streak = s.bus.streak ∧ (beatHeart s).bus.rx = s.bus.rx ∧ (beatHeart s).bus.idleWait = s.bus.idleWait ∧ (beatHeart s).bus.probe = s.bus.probe ∧ (beatHeart s).bus.clash = s.bus.clash ∧ (beatHeart s).mbu.members = s.mbu.members ∧ (beatHeart s).mbu.mode = s.mbu.mode ∧ (beatHeart s).mbu.joinState = s.mbu.joinState ∧ (beatHeart s).mbu.joinWindow = s.mbu.joinWindow := by unfold beatHeart; dsimp only; split <;> simp

@[simp] theorem placeProbe_fields (s : State) :
    (placeProbe s).bus.line = s.bus.line ∧ (placeProbe s).bus.queue = s.bus.queue ∧ (placeProbe s).bus.markSlot = s.bus.markSlot ∧ (placeProbe s).bus.owedSnapshot = s.bus.owedSnapshot ∧ (placeProbe s).bus.owedJoin = s.bus.owedJoin ∧ (placeProbe s).bus.counter = s.bus.counter ∧ (placeProbe s).bus.lastEnded = s.bus.lastEnded ∧ (placeProbe s).bus.streak = s.bus.streak ∧ (placeProbe s).bus.rx = s.bus.rx ∧ (placeProbe s).bus.idleWait = s.bus.idleWait ∧ (placeProbe s).bus.clash = s.bus.clash := by unfold placeProbe; simp

@[simp] theorem markExpired_fields (s : State) :
    (markExpired s).bus.line = s.bus.line ∧ (markExpired s).bus.queue = s.bus.queue ∧ (markExpired s).bus.heartbeatSlot = s.bus.heartbeatSlot ∧ (markExpired s).bus.owedSnapshot = s.bus.owedSnapshot ∧ (markExpired s).bus.owedJoin = s.bus.owedJoin ∧ (markExpired s).bus.counter = s.bus.counter ∧ (markExpired s).bus.lastEnded = s.bus.lastEnded ∧ (markExpired s).bus.streak = s.bus.streak ∧ (markExpired s).bus.rx = s.bus.rx ∧ (markExpired s).bus.idleWait = s.bus.idleWait ∧ (markExpired s).bus.probe = s.bus.probe ∧ (markExpired s).bus.clash = s.bus.clash := by unfold markExpired; split <;> simp

@[simp] theorem resyncExpired_fields (st : Addr) (s : State) :
    (resyncExpired st s).bus.line = s.bus.line ∧ (resyncExpired st s).bus.markSlot = s.bus.markSlot ∧ (resyncExpired st s).bus.heartbeatSlot = s.bus.heartbeatSlot ∧ (resyncExpired st s).bus.owedSnapshot = s.bus.owedSnapshot ∧ (resyncExpired st s).bus.owedJoin = s.bus.owedJoin ∧ (resyncExpired st s).bus.counter = s.bus.counter ∧ (resyncExpired st s).bus.lastEnded = s.bus.lastEnded ∧ (resyncExpired st s).bus.streak = s.bus.streak ∧ (resyncExpired st s).bus.rx = s.bus.rx ∧ (resyncExpired st s).bus.idleWait = s.bus.idleWait ∧ (resyncExpired st s).bus.probe = s.bus.probe ∧ (resyncExpired st s).bus.clash = s.bus.clash ∧ (resyncExpired st s).mbu.mode = s.mbu.mode ∧ (resyncExpired st s).mbu.heartbeat = s.mbu.heartbeat ∧ (resyncExpired st s).mbu.joinState = s.mbu.joinState ∧ (resyncExpired st s).mbu.joinWindow = s.mbu.joinWindow := by unfold resyncExpired; split <;> simp

end Sys2Proof.Machine
end

