-- ==== Sys2Proof/Laws/Outcome.lean ====
section
/-! SUPPORT. The outcome of an event that can or cannot arise, and of a step. -/
namespace Sys2Proof.Machine

@[simp] theorem arise_true {cond : Bool} (h : cond = true) (f : State → State) (s : State) : arise cond f s = .next (f s) := by
  simp [arise, h]

@[simp] theorem arise_false {cond : Bool} (h : cond = false) (f : State → State) (s : State) : arise cond f s = .next s := by
  simp [arise, h]

/-- An event always answers a next state. -/
theorem arise_next (cond : Bool) (f : State → State) (s : State) : ∃ t, arise cond f s = .next t ∧ (t = f s ∨ t = s) := by
  cases cond with
  | true => exact ⟨_, rfl, Or.inl rfl⟩
  | false => exact ⟨_, rfl, Or.inr rfl⟩

/-- The delivery of a head frame of the class. -/
theorem deliver_some {cls : FrameClass} {s : State} {e : RxEntry} (h : s.deliverable cls = some e) :
    deliver cls s = .next (endDelivery (deliverStages e s)) := by simp [deliver, h]

/-- No delivery arises without a head frame of the class in a running mode. -/
theorem deliver_none {cls : FrameClass} {s : State} (h : s.deliverable cls = none) : deliver cls s = .next s := by
  simp [deliver, h]

theorem deliverable_eq_some {cls : FrameClass} {s : State} {e : RxEntry} {rest : List RxEntry} (hrx : s.bus.rx = e :: rest)
    (hrun : s.runs = true) (hcls : e.frame.body.cls = cls) : s.deliverable cls = some e := by
  simp [State.deliverable, hrx, hrun, hcls]

/-- What settling the idle-wait timer leaves: the state with some idle-wait timer. -/
theorem settleIdleWait_eq (s : State) : ∃ t, settleIdleWait s = s.setBif { s.bus with idleWait := t } := by
  unfold settleIdleWait
  split
  · split
    · exact ⟨s.bus.idleWait, rfl⟩
    · exact ⟨_, rfl⟩
    · exact ⟨_, rfl⟩
  · exact ⟨_, rfl⟩

end Sys2Proof.Machine
end

