-- ==== Sys2Proof/Laws/PerInstr.lean ====
section
/-! SUPPORT. Statements about every command as syntax, one lemma per constructor. -/
namespace Sys2Proof.Laws

/-- A command that is not well formed is a read that brings no whole image (R184) or a received frame that is no whole
frame (R69). -/
def OnlyBytesAreChecked.Statement (i : Instr) : Prop :=
  i.wellFormed = true
    ∨ (∃ image, i = .readComplete image ∧ image.length ≠ 136)
    ∨ ∃ bytes, i = .frameReceived bytes ∧ frameComplete bytes = false

theorem OnlyBytesAreChecked.coldStart (cause : ColdStartCause) : OnlyBytesAreChecked.Statement (.coldStart cause) := Or.inl rfl
theorem OnlyBytesAreChecked.readStart : OnlyBytesAreChecked.Statement .readStart := Or.inl rfl
theorem OnlyBytesAreChecked.readComplete (image : List Byte) : OnlyBytesAreChecked.Statement (.readComplete image) := by
  by_cases h : image.length = 136
  · exact Or.inl (by simp [Instr.wellFormed, imageComplete, Config.imageSize, h])
  · exact Or.inr (Or.inl ⟨image, rfl, h⟩)
theorem OnlyBytesAreChecked.tick (points : BitVec 16) (buttons : ButtonLevels) : OnlyBytesAreChecked.Statement (.tick points buttons) := Or.inl rfl
theorem OnlyBytesAreChecked.countdownExpiry (p : Point) : OnlyBytesAreChecked.Statement (.countdownExpiry p) := Or.inl rfl
theorem OnlyBytesAreChecked.drainTimerExpiry : OnlyBytesAreChecked.Statement .drainTimerExpiry := Or.inl rfl
theorem OnlyBytesAreChecked.debounce (b : Button) : OnlyBytesAreChecked.Statement (.debounce b) := Or.inl rfl
theorem OnlyBytesAreChecked.beginFrame : OnlyBytesAreChecked.Statement .beginFrame := Or.inl rfl
theorem OnlyBytesAreChecked.loseContention : OnlyBytesAreChecked.Statement .loseContention := Or.inl rfl
theorem OnlyBytesAreChecked.winContention : OnlyBytesAreChecked.Statement .winContention := Or.inl rfl
theorem OnlyBytesAreChecked.transmitError : OnlyBytesAreChecked.Statement .transmitError := Or.inl rfl
theorem OnlyBytesAreChecked.idleWaitExpiry : OnlyBytesAreChecked.Statement .idleWaitExpiry := Or.inl rfl
theorem OnlyBytesAreChecked.frameCompletion : OnlyBytesAreChecked.Statement .frameCompletion := Or.inl rfl
theorem OnlyBytesAreChecked.frameReceived (bytes : List Byte) : OnlyBytesAreChecked.Statement (.frameReceived bytes) := by
  cases h : frameComplete bytes with
  | true => exact Or.inl h
  | false => exact Or.inr (Or.inr ⟨bytes, rfl, h⟩)
theorem OnlyBytesAreChecked.frameAbandoned (reason : AbandonReason) : OnlyBytesAreChecked.Statement (.frameAbandoned reason) := Or.inl rfl
theorem OnlyBytesAreChecked.addressClashHalt : OnlyBytesAreChecked.Statement .addressClashHalt := Or.inl rfl
theorem OnlyBytesAreChecked.loopbackPassage : OnlyBytesAreChecked.Statement .loopbackPassage := Or.inl rfl
theorem OnlyBytesAreChecked.deliverTimeMark : OnlyBytesAreChecked.Statement .deliverTimeMark := Or.inl rfl
theorem OnlyBytesAreChecked.deliverState : OnlyBytesAreChecked.Statement .deliverState := Or.inl rfl
theorem OnlyBytesAreChecked.deliverAck : OnlyBytesAreChecked.Statement .deliverAck := Or.inl rfl
theorem OnlyBytesAreChecked.deliverReset : OnlyBytesAreChecked.Statement .deliverReset := Or.inl rfl
theorem OnlyBytesAreChecked.deliverSnapshot : OnlyBytesAreChecked.Statement .deliverSnapshot := Or.inl rfl
theorem OnlyBytesAreChecked.deliverReplay : OnlyBytesAreChecked.Statement .deliverReplay := Or.inl rfl
theorem OnlyBytesAreChecked.deliverResyncRequest : OnlyBytesAreChecked.Statement .deliverResyncRequest := Or.inl rfl
theorem OnlyBytesAreChecked.deliverJoin : OnlyBytesAreChecked.Statement .deliverJoin := Or.inl rfl
theorem OnlyBytesAreChecked.deliverHeartbeat : OnlyBytesAreChecked.Statement .deliverHeartbeat := Or.inl rfl
theorem OnlyBytesAreChecked.heartbeatTimerExpiry : OnlyBytesAreChecked.Statement .heartbeatTimerExpiry := Or.inl rfl
theorem OnlyBytesAreChecked.silenceTimerExpiry (station : Addr) : OnlyBytesAreChecked.Statement (.silenceTimerExpiry station) := Or.inl rfl
theorem OnlyBytesAreChecked.resyncTimerExpiry (station : Addr) : OnlyBytesAreChecked.Statement (.resyncTimerExpiry station) := Or.inl rfl
theorem OnlyBytesAreChecked.replayTimerExpiry (station : Addr) : OnlyBytesAreChecked.Statement (.replayTimerExpiry station) := Or.inl rfl
theorem OnlyBytesAreChecked.joinWindowExpiry : OnlyBytesAreChecked.Statement .joinWindowExpiry := Or.inl rfl
theorem OnlyBytesAreChecked.probeTimerExpiry : OnlyBytesAreChecked.Statement .probeTimerExpiry := Or.inl rfl
theorem OnlyBytesAreChecked.markTimerExpiry : OnlyBytesAreChecked.Statement .markTimerExpiry := Or.inl rfl
theorem OnlyBytesAreChecked.stageTimerExpiry : OnlyBytesAreChecked.Statement .stageTimerExpiry := Or.inl rfl
theorem OnlyBytesAreChecked.chimeTimerExpiry : OnlyBytesAreChecked.Statement .chimeTimerExpiry := Or.inl rfl
theorem OnlyBytesAreChecked.logrdyChange (high : Bool) : OnlyBytesAreChecked.Statement (.logrdyChange high) := Or.inl rfl
theorem OnlyBytesAreChecked.recordDeparture : OnlyBytesAreChecked.Statement .recordDeparture := Or.inl rfl
theorem OnlyBytesAreChecked.resetRelease (straps : BitVec 4) : OnlyBytesAreChecked.Statement (.resetRelease straps) := Or.inl rfl
theorem OnlyBytesAreChecked.millisecond : OnlyBytesAreChecked.Statement .millisecond := Or.inl rfl
theorem OnlyBytesAreChecked.idleGap : OnlyBytesAreChecked.Statement .idleGap := Or.inl rfl

end Sys2Proof.Laws
end

