-- ==== Sys2Proof/Laws/Rules.lean ====
section
/-! SUPPORT. What each shared operation can do, in the words of `Safety`: the horn's notices, the journal's offers, the
idle-wait timer, the offers of a free entry, the timers at a halt. -/
namespace Sys2Proof.Machine

/-! ## The horn -/

theorem inAlertSet_iff (c : StationConfig) (g : Gat) (a : Addr) (p : Point) :
    inAlertSet c.hornMask (recordAt g a p) = true ↔ InAlertSet c g a p := by
  simp [inAlertSet, inMask, InAlertSet, and_assoc]

theorem anyRecord_iff (f : GatRecord → Bool) (g : Gat) : anyRecord f g = true ↔ ∃ a p, f (recordAt g a p) = true := by
  simp only [anyRecord, Tab.any_iff, recordAt]

theorem alertStands_iff (s : State) : s.alertStands = true ↔ ∃ a p, InAlertSet s.conf s.gat a p := by
  simp only [State.alertStands, anyRecord_iff, inAlertSet_iff]

theorem alertStands_false_iff (s : State) : s.alertStands = false ↔ ∀ a p, ¬ InAlertSet s.conf s.gat a p := by
  rw [← Bool.not_eq_true, alertStands_iff]; simp only [not_exists]

theorem alertOfPriority_iff (s : State) (k : Nat) : s.alertOfPriority k = true ↔ PriorityStands s.conf s.gat k := by
  simp only [State.alertOfPriority, anyRecord_iff, Bool.and_eq_true, inAlertSet_iff, beq_iff_eq, PriorityStands]

/-- The tone chosen is that of the highest priority in the alert set (R161). -/
theorem chosenTone_spec (s : State) : ToneChosen s.conf s.gat s.chosenTone := by
  unfold ToneChosen
  simp only [← alertOfPriority_iff, State.chosenTone]
  refine ⟨fun h => by simp [h], fun h1 h2 => by simp [h1, h2], fun h1 h2 h3 => by simp [h1, h2, h3]⟩

/-- A review leaves the horn as R159 says. -/
theorem reviewHorn_spec (s : State) : Reviewed s.conf s.gat s.hrn (reviewHorn s).hrn := by
  have tone := chosenTone_spec s
  unfold Reviewed
  simp only [← alertStands_iff, ← alertStands_false_iff]
  cases h : s.hrn.horn <;> cases ha : s.alertStands <;> simp [reviewHorn, h, ha]
  exact tone

/-- An entered-ALERT notice of a record in the alert set sounds the horn (R156). -/
theorem sound_spec (s : State) : Sounded s.conf s.gat s.tmb.localCount (sound s).hrn := by
  refine ⟨rfl, rfl, rfl, rfl, chosenTone_spec s, ?_⟩
  simp only [sound, State.setHrn_hrn, State.stageAt, State.timer]
  cases s.conf.stage <;> simp [StageInterval.ms]

/-- A chime claim leaves the horn as R157 says. -/
theorem chimeClaim_spec (s : State) : ChimeClaimed s.conf s.tmb.localCount s.hrn (chimeClaim s).hrn := by
  unfold ChimeClaimed
  cases h : s.hrn.horn <;> cases hc : s.conf.chime <;> simp [chimeClaim, h, hc, State.timer, ChimeLength.ms]

/-! ## The journal -/

/-- A record offered while the logger line may run is admitted or counted, and begins if it can (R171, R175). -/
theorem offerRecord_spec (r : JournalRecord) (s : State) (h : s.mbu.mode.loggerRuns = true) : Offered s (offerRecord r s) [r] := by
  have key : ∀ j : Jnl, j.journal ≠ [] → (beginRecord (s.setJnl j)).jnl
      = { j with inProgress := if j.inProgress ≠ none ∨ s.pins.logrdyHigh = true then j.inProgress else j.journal.head?.map recordBytes } := by
    intro j hj
    obtain ⟨l, d, i⟩ := j
    cases l with
    | nil => exact absurd rfl hj
    | cons r' rest => cases i <;> cases hp : s.pins.logrdyHigh <;> simp [beginRecord, State.recordMayBegin, h, hp]
  unfold offerRecord
  by_cases hl : s.jnl.journal.length < 64
  · have ho : s.jnl.offer r = { s.jnl with journal := s.jnl.journal ++ [r] } := if_pos hl
    rw [ho]
    unfold Offered
    rw [key _ (by simp)]
    have h1 : List.take (64 - s.jnl.journal.length) [r] = [r] := List.take_of_length_le (by simp only [List.length_singleton]; omega)
    have h2 : s.jnl.journal.length + [r].length ≤ 64 := by simp only [List.length_singleton]; omega
    refine ⟨by rw [h1], (if_pos (Or.inl h2)).symm, by simp⟩
  · have ho : s.jnl.offer r = { s.jnl with dropped := min (s.jnl.dropped + 1) 65535 } := if_neg hl
    have hne : s.jnl.journal ≠ [] := by intro e; rw [e] at hl; simp at hl
    rw [ho]
    unfold Offered
    rw [key { s.jnl with dropped := min (s.jnl.dropped + 1) 65535 } hne]
    have h0 : 64 - s.jnl.journal.length = 0 := by omega
    have h2 : ¬ (s.jnl.journal.length + [r].length ≤ 64 ∨ [r] = []) := by simp only [List.length_singleton, List.cons_ne_nil, or_false]; omega
    refine ⟨by rw [h0]; simp, ?_, by simp⟩
    rw [if_neg h2, h0]
    simp [Nat.min_comm]

/-! ## The idle-wait timer -/

theorem candidate_isSome_iff (b : Bif) :
    b.candidate.isSome = true ↔ b.markSlot.isSome = true ∨ b.heartbeatSlot.isSome = true ∨ b.queue.head?.any (fun e => e.disposition != .loopedBack) = true := by
  have hd : b.headOffered = b.queue.head?.any (fun e => e.disposition != .loopedBack) := by
    unfold Bif.headOffered; cases b.queue <;> rfl
  unfold Bif.candidate
  rw [hd]
  cases b.markSlot.isSome <;> cases b.heartbeatSlot.isSome <;> cases b.queue.head?.any (fun e => e.disposition != .loopedBack) <;> simp

/-- The conditions of R78 as the model computes them. -/
theorem idleWaitRuns_iff (s : State) : s.idleWaitRuns = true ↔ IdleWaitDue s := by
  have free : s.bus.heldOff = false ↔ s.bus.rx.length < 6 := by
    unfold Bif.heldOff; rw [Bool.not_eq_false', decide_eq_true_eq]; rfl
  unfold State.idleWaitRuns State.onLine IdleWaitDue
  simp only [Bool.and_eq_true, candidate_isSome_iff, Bool.not_eq_true', free, Option.isNone_iff_eq_none]
  tauto

/-- The conditions of R78 do not look at the timer itself. -/
theorem idleWaitRuns_setTimer (s : State) (w : Timer) : (s.setBif { s.bus with idleWait := w }).idleWaitRuns = s.idleWaitRuns := rfl

/-- Settled, the idle-wait timer runs on, has started or is stopped by its conditions (R78). -/
theorem settleIdleWait_spec (s : State) : IdleWaitSettled s (settleIdleWait s) := by
  have same : (settleIdleWait s).idleWaitRuns = s.idleWaitRuns := by
    obtain ⟨w, hw⟩ := settleIdleWait_eq s; rw [hw]; rfl
  unfold IdleWaitSettled
  rw [← idleWaitRuns_iff, same]
  cases h : s.idleWaitRuns <;> cases hw : s.bus.idleWait <;> simp [settleIdleWait, h, hw, State.timer, Config.idleWaitMs]

/-- Restarted, the idle-wait timer runs from 0 or is stopped by its conditions (R78). -/
theorem restartIdleWait_spec (s : State) : IdleWaitRestarted (restartIdleWait s) := by
  have h := settleIdleWait_spec (s.setBif { s.bus with idleWait := .stopped })
  exact ⟨fun hd => h.1 hd, fun hd => h.2 hd⟩

/-- A completed gap moves the line and restarts the idle-wait timer, and nothing else (R66, R78). -/
theorem completeGap_spec (s : State) :
    completeGap s = { s with bus := { s.bus with line := .gap, idleWait := (completeGap s).bus.idleWait } } ∧ IdleWaitRestarted (completeGap s) := by
  refine ⟨?_, restartIdleWait_spec _⟩
  obtain ⟨w, hw⟩ := settleIdleWait_eq ((s.setLine .gap).setBif { (s.setLine .gap).bus with idleWait := .stopped })
  have : completeGap s = _ := hw
  rw [this]; rfl

/-- A gap completed twice at one instant is completed once, so IDLE_GAP and a frame abandoned at that gap commute (R66, R69). -/
theorem completeGap_idem (s : State) : completeGap (completeGap s) = completeGap s := by
  obtain ⟨h, _⟩ := completeGap_spec s
  conv => lhs; rw [h]
  rfl

/-- An abandoned frame leaves its own gap complete, or the line seeking the next (R69). -/
theorem abandonFrame_spec (reason : AbandonReason) (s : State) :
    abandonFrame reason s = completeGap s ∨ abandonFrame reason s = settleIdleWait (s.setLine .seeking) := by
  cases reason <;> simp [abandonFrame]

/-! ## Offers of a free entry -/

theorem entryFor_eq (s : State) (body : TxBody) : entryFor s.isolated s.bus body = s.entryOf body (loopbackSeq s.bus body) := by
  unfold entryFor State.entryOf State.isolated
  by_cases h : s.mbu.mode = .isolated <;> simp [h]

theorem announcement_eq (r : PointRecord) (p : Point) (n : Count) : announcement r p n = toldOf r p (r.cause.getD .activate) n := rfl

/-- The first waiting claim, by the units that hold claims (R74, R90). -/
theorem firstClaim_eq (s : State) : s.firstClaim =
    ((s.psq.points.lowest (·.owed)).map Claim.state).or
      (if s.bus.owedSnapshot then some .snapshot
       else if s.bus.owedJoin && !s.isolated then some .join
       else if s.pnl.pendingAck then some .ack
       else if s.pnl.pendingReset then some .reset
       else if s.isolated then none
       else ((s.mbu.members.lowest (·.resyncOwed)).map Claim.resyncRequest).or ((s.mbu.members.lowest (·.replay == .due)).map Claim.replay)) := by
  unfold State.firstClaim Claim.order
  simp only [List.find?_append, List.find?_map, Tab.lowest]
  have hs : ((fun c => s.holds c && !(s.mbu.mode == Mode.isolated && c.passedOver)) ∘ Claim.state) = fun i => (s.psq.points.get i).owed := by
    funext i; simp [State.holds, Claim.passedOver, State.point]
  have hr : ((fun c => s.holds c && !(s.mbu.mode == Mode.isolated && c.passedOver)) ∘ Claim.resyncRequest) = fun i => (s.mbu.members.get i).resyncOwed && !s.isolated := by
    funext i; simp [State.holds, Claim.passedOver, State.member, State.isolated]
  have hp : ((fun c => s.holds c && !(s.mbu.mode == Mode.isolated && c.passedOver)) ∘ Claim.replay) = fun i => (s.mbu.members.get i).replay == .due && !s.isolated := by
    funext i; simp [State.holds, Claim.passedOver, State.member, State.isolated]
  rw [hs, hr, hp]
  have hi : (s.mbu.mode == Mode.isolated) = s.isolated := rfl
  simp only [List.find?_cons, List.find?_nil, State.holds, Claim.passedOver, hi, Bool.and_true, Bool.and_false, Bool.not_false]
  cases List.find? (fun i => (s.psq.points.get i).owed) indices with
  | some p => simp
  | none =>
    cases s.bus.owedSnapshot <;> cases s.bus.owedJoin <;> cases s.pnl.pendingAck <;> cases s.pnl.pendingReset <;> cases s.isolated <;> simp

/-! What serving each claim places, against `Claim.placed`. -/

theorem serveOwed_eq_placed (s : State) (p : Point) : serveOwed p s = Claim.placed s (.state p) := by
  simp only [serveOwed, placeTail, entryFor_eq, announcement_eq]; rfl

theorem join_eq_placed (s : State) : placeTail (.join s.inUseMask) (s.setBif { s.bus with owedJoin := false }) = Claim.placed s .join := by
  simp only [placeTail, entryFor_eq]; rfl

theorem ack_eq_placed (s : State) : placeTail (.ack s.conf.panelMask) (s.setPnl { s.pnl with pendingAck := false }) = Claim.placed s .ack := by
  simp only [placeTail, entryFor_eq]; rfl

theorem reset_eq_placed (s : State) :
    placeTail (.reset s.conf.panelMask) (s.setPnl { s.pnl with pendingReset := false }) = Claim.placed s .reset := by
  simp only [placeTail, entryFor_eq]; rfl

theorem resyncRequest_eq_placed (s : State) (a : Addr) :
    placeTail (.resyncRequest a) (s.setMember a { s.member a with resyncOwed := false }) = Claim.placed s (.resyncRequest a) := by
  simp only [placeTail, entryFor_eq]; rfl

theorem replay_eq_placed (s : State) (a : Addr) :
    placeTail (.replay a none) (s.setMember a { s.member a with replay := .none }) = Claim.placed s (.replay a) := by
  simp only [placeTail, entryFor_eq]; rfl

theorem snapshot_eq_placed (s : State) : placeSnapshot (s.setBif { s.bus with owedSnapshot := false }) = Claim.placed s .snapshot := by
  have hi : (s.setBif { s.bus with owedSnapshot := false }).isolated = s.isolated := rfl
  by_cases h : s.mbu.mode = .isolated
  · have iso : s.isolated = true := by simp [State.isolated, h]
    rw [placeSnapshot, hi, if_pos iso, placeTail, entryFor_eq, Claim.placed, if_pos h]
    cases hp : s.psq.phase <;> simp [hp, Phase.afterSnapshot, supersede] <;> rfl
  · have iso : s.isolated = false := by simp [State.isolated, h]
    rw [placeSnapshot, hi, iso, if_neg Bool.false_ne_true, placeTail, entryFor_eq, Claim.placed, if_neg h]
    rfl

/-- One offer goes to the first waiting claim in the order of R74, under the limits of R90, and places it. -/
theorem offerOne_spec (s : State) (free : s.bus.hasFree = true) : offerOne s = s.firstClaim.map (Claim.placed s) := by
  rw [firstClaim_eq]
  unfold offerOne
  simp only [free, Bool.not_true, Bool.false_eq_true, if_false, serveOwed_eq_placed, join_eq_placed, ack_eq_placed, reset_eq_placed,
    resyncRequest_eq_placed, replay_eq_placed, snapshot_eq_placed]
  cases s.psq.points.lowest (·.owed) with
  | some p => rfl
  | none =>
    simp only [Option.map_none, Option.none_or]
    split_ifs <;> try rfl
    cases s.mbu.members.lowest (·.resyncOwed) with
    | some a => rfl
    | none => cases s.mbu.members.lowest (·.replay == .due) <;> rfl

/-- What serving a claim may change: the waiting claims and the queue, the phase and the point records' owed marks. -/
theorem placed_frame (s : State) (c : Claim) : Claim.placed s c =
    { s with psq := (Claim.placed s c).psq, pnl := { s.pnl with pendingAck := (Claim.placed s c).pnl.pendingAck, pendingReset := (Claim.placed s c).pnl.pendingReset }
             mbu := { s.mbu with members := (Claim.placed s c).mbu.members }
             bus := { s.bus with queue := (Claim.placed s c).bus.queue, owedSnapshot := (Claim.placed s c).bus.owedSnapshot, owedJoin := (Claim.placed s c).bus.owedJoin } } := by
  cases c with
  | snapshot => unfold Claim.placed; dsimp only; split <;> rfl
  | state p => rfl
  | join => rfl
  | ack => rfl
  | reset => rfl
  | resyncRequest a => rfl
  | replay a => rfl

/-- Outside ISOLATED a served claim is one unsent entry more at the tail. -/
theorem placed_appends (s : State) (c : Claim) (h : s.mbu.mode ≠ .isolated) :
    ∃ e, (Claim.placed s c).bus.queue = s.bus.queue ++ [e] ∧ e.disposition = .unsent := by
  have hu : ∀ body byte, (s.entryOf body byte).disposition = .unsent := by intro body byte; simp [State.entryOf, h]
  cases c with
  | snapshot => exact ⟨_, by unfold Claim.placed; rw [if_neg h], hu _ _⟩
  | state p => exact ⟨_, rfl, hu _ _⟩
  | join => exact ⟨_, rfl, hu _ _⟩
  | ack => exact ⟨_, rfl, hu _ _⟩
  | reset => exact ⟨_, rfl, hu _ _⟩
  | resyncRequest a => exact ⟨_, rfl, hu _ _⟩
  | replay a => exact ⟨_, rfl, hu _ _⟩

/-- A served claim leaves of a member entry all but its owed request and its replay as it was. -/
theorem placed_member (s : State) (c : Claim) (a : Addr) : (Claim.placed s c).member a =
    { s.member a with resyncOwed := ((Claim.placed s c).member a).resyncOwed, replay := ((Claim.placed s c).member a).replay } := by
  cases c with
  | snapshot => unfold Claim.placed; dsimp only; split <;> rfl
  | state p => rfl
  | join => rfl
  | ack => rfl
  | reset => rfl
  | resyncRequest b =>
    by_cases h : a = b
    · subst h; simp [Claim.placed, State.member]
    · have same : ∀ m, (s.mbu.members.set b m).get a = s.mbu.members.get a := fun m => Tab.get_set_of_ne _ _ _ _ h
      simp only [Claim.placed, State.member, same]
  | replay b =>
    by_cases h : a = b
    · subst h; simp [Claim.placed, State.member]
    · have same : ∀ m, (s.mbu.members.set b m).get a = s.mbu.members.get a := fun m => Tab.get_set_of_ne _ _ _ _ h
      simp only [Claim.placed, State.member, same]

/-- What every service of one claim keeps, the services of all claims keep: `kept` relates a state to a later one. -/
theorem offeredTimes_induction {kept : State → State → Prop} (refl : ∀ s, kept s s) (step : ∀ s c t, kept (Claim.placed s c) t → kept s t)
    (n : Nat) (s : State) : kept s (s.offeredTimes n) := by
  induction n generalizing s with
  | zero => exact refl s
  | succ n ih =>
    unfold State.offeredTimes
    split
    · split
      · exact step s _ _ (ih _)
      · exact refl s
    · exact refl s

/-- Serving the waiting claims changes only what serving one may. -/
theorem served_frame (s : State) : s.served =
    { s with psq := s.served.psq, pnl := { s.pnl with pendingAck := s.served.pnl.pendingAck, pendingReset := s.served.pnl.pendingReset }
             mbu := { s.mbu with members := s.served.mbu.members }
             bus := { s.bus with queue := s.served.bus.queue, owedSnapshot := s.served.bus.owedSnapshot, owedJoin := s.served.bus.owedJoin } } := by
  refine offeredTimes_induction (kept := fun s t => t =
    { s with psq := t.psq, pnl := { s.pnl with pendingAck := t.pnl.pendingAck, pendingReset := t.pnl.pendingReset }, mbu := { s.mbu with members := t.mbu.members }
             bus := { s.bus with queue := t.bus.queue, owedSnapshot := t.bus.owedSnapshot, owedJoin := t.bus.owedJoin } }) (fun s => rfl) ?_ _ s
  intro s c t h
  rw [placed_frame s c] at h
  exact h

/-- Outside ISOLATED the entries that stand stay in order, and what is served stands behind them, unsent. -/
theorem served_appends (s : State) (h : s.mbu.mode ≠ .isolated) :
    ∃ more, s.served.bus.queue = s.bus.queue ++ more ∧ ∀ e ∈ more, e.disposition = .unsent := by
  refine offeredTimes_induction (kept := fun s t => s.mbu.mode ≠ .isolated → ∃ more, t.bus.queue = s.bus.queue ++ more ∧ ∀ e ∈ more, e.disposition = .unsent)
    (fun s _ => ⟨[], by simp, by simp⟩) ?_ _ s h
  intro s c t ih hm
  obtain ⟨e, he, hd⟩ := placed_appends s c hm
  have same : (Claim.placed s c).mbu.mode = s.mbu.mode := by rw [placed_frame s c]
  obtain ⟨more, hq, hall⟩ := ih (by rw [same]; exact hm)
  exact ⟨e :: more, by rw [hq, he]; simp, by simpa [hd] using hall⟩

/-- Serving the waiting claims leaves of a member entry all but its owed request and its replay as it was. -/
theorem served_member (s : State) (a : Addr) : s.served.member a =
    { s.member a with resyncOwed := (s.served.member a).resyncOwed, replay := (s.served.member a).replay } := by
  refine offeredTimes_induction (kept := fun s t => t.member a = { s.member a with resyncOwed := (t.member a).resyncOwed, replay := (t.member a).replay })
    (fun s => rfl) ?_ _ s
  intro s c t h
  rw [placed_member s c a] at h
  exact h

/-- A claim is offered an entry in the present mode. -/
def State.offers (s : State) (c : Claim) : Bool := s.holds c && !(s.mbu.mode == .isolated && c.passedOver)

theorem mem_order (c : Claim) : c ∈ Claim.order := by
  cases c <;> simp [Claim.order, mem_indices]

/-- Serving a claim makes no claim wait, and the served one no longer does. -/
theorem placed_offers (s : State) (c c' : Claim) (h : (Claim.placed s c).offers c' = true) : s.offers c' = true ∧ c' ≠ c := by
  have mode : (Claim.placed s c).mbu.mode = s.mbu.mode := by rw [placed_frame s c]
  simp only [State.offers, mode, Bool.and_eq_true] at h ⊢
  obtain ⟨hh, hm⟩ := h
  suffices s.holds c' = true ∧ c' ≠ c from ⟨⟨this.1, hm⟩, this.2⟩
  cases c with
  | snapshot =>
    by_cases iso : s.mbu.mode = .isolated
    · cases c' <;> simp [State.holds, Claim.placed, iso, State.point, State.member] at hh ⊢ <;> exact hh
    · cases c' <;> simp [State.holds, Claim.placed, iso, State.point, State.member] at hh ⊢ <;> exact hh
  | state p =>
    cases c' with
    | state q =>
      by_cases e : q = p
      · subst e; simp [State.holds, Claim.placed, State.point] at hh
      · exact ⟨by simpa [State.holds, Claim.placed, State.point, Tab.get_set_of_ne _ _ _ _ e] using hh, by simpa using e⟩
    | _ => simp_all [State.holds, Claim.placed, State.member]
  | resyncRequest a =>
    cases c' with
    | resyncRequest b =>
      by_cases e : b = a
      · subst e; simp [State.holds, Claim.placed, State.member] at hh
      · exact ⟨by simpa [State.holds, Claim.placed, State.member, Tab.get_set_of_ne _ _ _ _ e] using hh, by simpa using e⟩
    | replay b =>
      refine ⟨?_, by simp⟩
      by_cases e : b = a
      · subst e; simpa [State.holds, Claim.placed, State.member] using hh
      · simpa [State.holds, Claim.placed, State.member, Tab.get_set_of_ne _ _ _ _ e] using hh
    | _ => simp_all [State.holds, Claim.placed, State.point]
  | replay a =>
    cases c' with
    | replay b =>
      by_cases e : b = a
      · subst e; simp [State.holds, Claim.placed, State.member] at hh
      · exact ⟨by simpa [State.holds, Claim.placed, State.member, Tab.get_set_of_ne _ _ _ _ e] using hh, by simpa using e⟩
    | resyncRequest b =>
      refine ⟨?_, by simp⟩
      by_cases e : b = a
      · subst e; simpa [State.holds, Claim.placed, State.member] using hh
      · simpa [State.holds, Claim.placed, State.member, Tab.get_set_of_ne _ _ _ _ e] using hh
    | _ => simp_all [State.holds, Claim.placed, State.point]
  | join => cases c' <;> simp_all [State.holds, Claim.placed, State.point, State.member]
  | ack => cases c' <;> simp_all [State.holds, Claim.placed, State.point, State.member]
  | reset => cases c' <;> simp_all [State.holds, Claim.placed, State.point, State.member]

/-- A pass over the claims that is as long as their order leaves a full queue or none to offer to (R74). -/
theorem served_exhausts (s : State) : s.served.bus.queue.length < 24 → s.served.firstClaim = none := by
  have key : ∀ n (s : State), (Claim.order.filter s.offers).length ≤ n → (s.offeredTimes n).bus.queue.length < 24 → (s.offeredTimes n).firstClaim = none := by
    intro n
    induction n with
    | zero =>
      intro s hn _
      have : Claim.order.filter s.offers = [] := List.eq_nil_of_length_eq_zero (by omega)
      exact List.find?_eq_none.2 fun c hc => List.filter_eq_nil_iff.1 this c hc
    | succ n ih =>
      intro s hn
      unfold State.offeredTimes
      by_cases free : s.bus.queue.length < 24
      · rw [if_pos free]
        cases hf : s.firstClaim with
        | none => exact fun _ => hf
        | some c =>
          have hc : s.offers c = true := List.find?_some hf
          refine ih _ ?_
          have less : (Claim.order.filter (Claim.placed s c).offers).length < (Claim.order.filter s.offers).length := by
            have sub : Claim.order.filter (Claim.placed s c).offers = (Claim.order.filter s.offers).filter (Claim.placed s c).offers := by
              rw [List.filter_filter]
              refine List.filter_congr fun x _ => ?_
              cases hx : (Claim.placed s c).offers x with
              | false => rfl
              | true => simp [(placed_offers s c x hx).1]
            rw [sub]
            exact List.length_filter_lt_length_iff_exists.2
              ⟨c, List.mem_filter.2 ⟨mem_order c, hc⟩, fun h => (placed_offers s c c h).2 rfl⟩
          omega
      · rw [if_neg free]; exact fun h => absurd h free
  exact key _ s (List.length_filter_le _ _)

/-- With no claim waiting nothing is served. -/
theorem served_of_nothingWaits (s : State) (h : NothingWaits s) : s.served = s := by
  have none : s.firstClaim = none := by
    obtain ⟨hw, hj, hm⟩ := h
    simp only [State.claimWaits, Bool.or_eq_false_iff] at hw
    refine List.find?_eq_none.2 fun c _ => ?_
    have points : ∀ p, (s.point p).owed = false := by
      intro p
      by_contra hp
      have : s.psq.points.any (·.owed) = true := (Tab.any_iff ..).2 ⟨p, by simpa [State.point] using hp⟩
      simp [this] at hw
    cases c <;> simp [State.holds, hw, hj, hm, points]
  unfold State.served
  show s.offeredTimes (51 + 1) = s
  unfold State.offeredTimes
  rw [none]
  simp

/-- A free entry, in numbers. -/
theorem hasFree_iff (b : Bif) : b.hasFree = true ↔ b.queue.length < 24 := by unfold Bif.hasFree; rw [decide_eq_true_eq]; rfl

/-- The offers of R74 serve the waiting claims in their order. -/
theorem offers_eq_served (s : State) : offers s = s.served := by
  have key : ∀ n s, offerMany n s = s.offeredTimes n := by
    intro n
    induction n with
    | zero => intro s; rfl
    | succ n ih =>
      intro s
      unfold offerMany State.offeredTimes
      by_cases free : s.bus.hasFree = true
      · rw [if_pos ((hasFree_iff _).1 free), offerOne_spec s free]
        cases s.firstClaim with
        | some c => exact ih _
        | none => rfl
      · have full : offerOne s = none := by unfold offerOne; rw [if_pos (by simpa using free)]
        rw [if_neg (fun h => free ((hasFree_iff _).2 h)), full]
  exact key 52 s

/-- A SNAPSHOT claim is absorbed, placed or owed (R73, R90). -/
theorem claimSnapshot_eq (s : State) : claimSnapshot s = s.snapshotClaimed := by
  have iso : s.isolated = true ↔ s.mbu.mode = .isolated := by simp [State.isolated]
  unfold claimSnapshot State.snapshotClaimed
  simp only [Bool.or_eq_true, Bool.and_eq_true, Bool.not_eq_true', hasFree_iff, ← Bool.not_eq_true, iso]
  split_ifs with absorbed free isolated
  · rfl
  all_goals first
    | rfl
    | (have same : s.setBif { s.bus with owedSnapshot := false } = s := by
         have : s.bus.owedSnapshot = false := by simpa using fun e => absorbed (Or.inl e)
         rw [← this]; rfl
       simp only [offers_eq_served, ← snapshot_eq_placed, same])

/-- A JOIN claim is absorbed, placed or owed (R73, R117). -/
theorem claimJoin_eq (s : State) : claimJoin s = s.joinClaimed := by
  unfold claimJoin State.joinClaimed
  simp only [Bool.or_eq_true, hasFree_iff]
  split_ifs with absorbed free
  · rfl
  · have same : s.setBif { s.bus with owedJoin := false } = s := by
      have : s.bus.owedJoin = false := by simpa using fun e => absorbed (Or.inl e)
      rw [← this]; rfl
    rw [← join_eq_placed, same]
  · rfl

/-! ## The timers at a halt -/

theorem hold_spec (now : Millis) (t : Timer) : HeldIn now t (t.hold now) := by cases t <;> rfl

end Sys2Proof.Machine
end

