-- ==== Sys2Proof/Tests/Slice0.lean ====
section
/-! SUPPORT. Checks of the model: ill-formed commands are refused, some of the spec's own examples come out, and the
hypotheses of every statement are met by concrete states. -/
namespace Sys2Proof.Tests
open Sys2Proof Sys2Proof.Machine
set_option Elab.async false

/-! ## Small states -/

/-- Sixteen points in zone 0 at priority 1, on-delay 0, off-delay 2, threshold 2; horn envelope of eight levels. -/
def cfg : StationConfig :=
  { StationConfig.unset with hCode := 1, markSeconds := 1, drainSeconds := 1, panelMask := 0xFF, hornMask := 0xFF, journalMask := 0xFF, floor := 8, stage := .s1, points := .fill { inUse := true, polarity := .activeClosed, zone := 0, priority := 1, onDelay := 0, offDelay := 2, threshold := 2 } }

/-- A record of an in-use point in a state with its condition. -/
def pt (st : SeqState) (c : Condition) : PointRecord :=
  { PointRecord.cold with inUse := true, priority := 1, state := st, condition := c, field := c }

/-- Station 5, configured, at 1000 ms in a mode and phase, every point in one record. -/
def live (m : Mode) (ph : Phase) (r : PointRecord) : State :=
  { State.reset with
    pins := { State.reset.pins with resetLow := false }
    tmb := { localCount := 1000, groupTime := 1000, markTimer := .running 0, tickDue := false }
    loader := { load := .accepted, readNumber := 1, address := 5 }
    config := some cfg
    psq := { points := .fill r, phase := ph }
    mbu := { Mbu.cold with mode := m, members := Mbu.cold.members.set 5 { Member.cold with presence := .self } } }

/-- Station 5 ACTIVE and RUNNING with its points NORMAL. -/
def active : State := live .active .running (pt .normal .normal)

/-- A state with its Bus Interface replaced. -/
def withBus (s : State) (f : Bif → Bif) : State := s.setBif (f s.bus)

/-- A state with one frame waiting for delivery. -/
def waiting (s : State) (o : Origin) (src : Addr) (seq : SeqNo) (b : Body) : State :=
  withBus s fun x => { x with rx := [{ frame := { src := src, seq := seq, body := b }, origin := o }] }

/-- A state whose member entry for a station is replaced. -/
def knowing (s : State) (st : Addr) (f : Member → Member) : State := s.setMember st (f (s.member st))

/-- A peer PRESENT, IN STEP, expected sequence 7. -/
def present (m : Member) : Member := { m with presence := .present, expected := 7, reported := some .active }

/-- A queue entry of a body, unsent. -/
def entry (b : TxBody) : TxEntry := { body := b, disposition := .unsent, attempts := 0, seq := none }

/-- An announcement of a point in ALERT. -/
def told (p : Point) : StateBody :=
  { point := p, inUse := true, cause := .activate, state := .alert, condition := .active, priority := 1, zone := 0, count := 15, stamp := 9 }

/-- The announcements of the points 0..13 and ten ACKs: a full queue. -/
def full : List TxEntry := (indices.take 14).map (fun p => entry (.state (told p))) ++ List.replicate 10 (entry (.ack 1))

/-- Sixteen entries alike. -/
def entries (st : SeqState) (c : Condition) (mark : Bool) : Tab Entry :=
  .fill { inUse := true, firstOut := mark, status := .current, state := st, condition := c, priority := 1, zone := 0, stamp := 3 }

/-- The point `p` with a change due toward a raw condition, at a chatter count. -/
def dueFor (s : State) (p : Point) (raw : Condition) (chatter : Count) : State :=
  s.setFieldPoint p { s.fieldPoint p with raw := raw, due := true, chatter := chatter }

/-- A button whose change is due from a tick in the present mode. -/
def buttonDue (s : State) (b : Button) (pressed : Bool) : State :=
  s.setPnl { s.pnl.setButton b { pressed := pressed, count := 2, due := true } with tickMode := s.mbu.mode }

/-- An image that is accepted, but for its two check bytes. -/
def imageBody : List Byte :=
  [0x5A, 1, 3, 20, 16, 255, 3, 0xFF, 0xFF, 0xFF, 7, 7, 7, 7, 3, 8, 1, 0, 0, 0]
    ++ (List.replicate 16 [0xC0, 0xEC, 255, 255, 15]).flatten ++ (List.replicate 8 [1, 0xFF, 2, 7]).flatten ++ [0, 0]

/-- The accepted image with every field at its upper bound. -/
def image : List Byte := imageBody ++ [0xE2, 0xAF]

/-- LOADING at a local count in a load state of a read number. -/
def loading (count : Millis) (l : LoadState) (k : Nat) : State :=
  { State.reset with
    pins := { State.reset.pins with resetLow := false }
    tmb := { Tmb.cold with localCount := count, groupTime := count }
    loader := { load := l, readNumber := k, address := 5 }
    mbu := { Mbu.cold with members := Mbu.cold.members.set 5 { Member.cold with presence := .self } } }

/-- An outcome is a refusal for bytes that are no whole image or frame. -/
def refusesBytes : Host.Outcome State Fault Refusal → Bool
  | .refused .illFormed => true
  | .refused (.notModelled _) => false
  | .next _ => false
  | .fault f => nomatch f

/-- An outcome is the next state given. -/
def answers (t : State) : Host.Outcome State Fault Refusal → Bool
  | .next u => decide (u = t)
  | .refused _ => false
  | .fault f => nomatch f

/-! ## Ill-formed commands are refused -/

theorem test_short_image_refused : refusesBytes (exec (.readComplete (image.take 135)) (loading 50 .reading 1)) = true := by decide +kernel
theorem test_header_alone_refused : refusesBytes (exec (.frameReceived [0x25, 1, 0xFF]) active) = true := by decide +kernel
theorem test_long_payload_refused : refusesBytes (exec (.frameReceived ([0x25, 1, 0xFF, 113] ++ List.replicate 115 0)) active) = true := by decide +kernel
theorem test_cut_frame_refused : refusesBytes (exec (.frameReceived [0x25, 1, 0xFF, 7, 0, 0]) active) = true := by decide +kernel
theorem test_no_word_spells_a_command : decodeTableWord 16 0x1234 = none := by decide

/-! ## Examples of the spec -/

theorem test_contention_bytes : contentionByte .state 5 = 0x25 ∧ contentionByte .timeMark 3 = 0x13 ∧ contentionByte .ack 12 = 0x3C := by decide
theorem test_crc_of_digits : crc16 [0x31, 0x32, 0x33, 0x34, 0x35, 0x36, 0x37, 0x38, 0x39] = 0x29B1 := by decide +kernel
theorem test_start_record : recordBytes .start = [0xA5, 7, 0xFF, 0xFF, 0, 0, 0, 0, 0, 0, 0, 0, 0, 0, 0x56] := by decide
theorem test_slow_lamp_at_10620 : Pattern.slow.on 10620 = true ∧ Pattern.slow.on 11000 = false := by decide
theorem test_resync_request_bytes : (encodeFrame { src := 2, seq := 91, body := .resyncRequest 4 }).take 4 = [0x72, 91, 4, 0] := by decide +kernel
theorem test_frame_levels : frameLevels [0x25] = [false, false, false, true, false, false, true, false, true, true] := by decide
theorem test_state_reads_back : decodeFrame (encodeFrame { src := 3, seq := 18, body := .state (told 6) }) = some { src := 3, seq := 18, body := .state (told 6) } := by decide +kernel
theorem image_crc_1 : (imageBody.take 27).foldl crcByte 0xFFFF = 0xF289 := by decide +kernel
theorem image_crc_2 : ((imageBody.drop 27).take 27).foldl crcByte 0xF289 = 0xCBE8 := by decide +kernel
theorem image_crc_3 : ((imageBody.drop 54).take 27).foldl crcByte 0xCBE8 = 0xAA71 := by decide +kernel
theorem image_crc_4 : ((imageBody.drop 81).take 27).foldl crcByte 0xAA71 = 0x40FB := by decide +kernel
theorem image_crc_5 : (imageBody.drop 108).foldl crcByte 0x40FB = 0xE2AF := by decide +kernel
theorem image_in_parts : imageBody = imageBody.take 27 ++ ((imageBody.drop 27).take 27 ++ ((imageBody.drop 54).take 27 ++ ((imageBody.drop 81).take 27 ++ imageBody.drop 108))) := by decide +kernel
theorem image_crc : crc16 (image.take 134) = 0xE2AF := by
  have body : image.take 134 = imageBody := by decide +kernel
  rw [body, crc16, image_in_parts]
  simp only [List.foldl_append, image_crc_1, image_crc_2, image_crc_3, image_crc_4, image_crc_5]
theorem image_intact : imageIntact image = true := by
  unfold imageIntact
  rw [image_crc]
  decide +kernel
theorem test_image_accepted : (decodeImage image).isSome = true := by
  unfold decodeImage
  rw [image_intact]
  decide +kernel
theorem test_threshold_one_refused : thresholdOf 1 = none ∧ (thresholdOf 2).isSome = true ∧ (thresholdOf 15).isSome = true ∧ thresholdOf 16 = none := by decide

/-! ## The hypotheses of the statements are met -/

theorem witness_EmptyQueue : State.reset.pending = [] := rfl
theorem witness_WellFormed : (Instr.readComplete image).wellFormed = true ∧ (Instr.frameReceived []).wellFormed = false := by decide +kernel
theorem witness_Release : State.reset.pins.resetLow = true ∧ (5 : Addr).val = (5 : BitVec 4).toNat ∧ active.pins.resetLow = false := by decide
theorem witness_ReadStart :
    let s := loading 50 .waiting 1
    (1, 50) ∈ [(1, 50), (2, 450), (3, 850)] ∧ s.pins.resetLow = false ∧ s.mbu.mode = .loading ∧ s.loader.load = .waiting ∧ s.loader.readNumber = 1
      ∧ 50 ≤ s.tmb.localCount.toNat ∧ (loading 849 .waiting 3).tmb.localCount.toNat < 850 := by decide
theorem witness_Image : image.length = 136 := by decide +kernel
theorem witness_Accepted : LoadingHolds (loading 50 .reading 1) ∧ (decodeImage image).isSome = true ∧ (loading 50 .reading 1).loader.load = .reading :=
  ⟨by decide +kernel, test_image_accepted, by decide⟩
theorem witness_Refused : LoadingHolds (loading 850 .reading 3) ∧ LoadingHolds (loading 450 .reading 2) ∧ (decodeImage (List.replicate 136 0xFF)).isNone = true :=
  ⟨by decide +kernel, by decide +kernel, by decide +kernel⟩

/-- A tick is due; point 0 agrees, 1 and 2 start, 3 and 4 run on, and the buttons stand at counts 0, 1 and 2. -/
def ticking : State :=
  let s := active.setTmb { active.tmb with tickDue := true }
  let s := s.setFieldPoint 2 { FieldPoint.cold with qualified := .active }
  let s := s.setFieldPoint 3 { FieldPoint.cold with qualified := .active, countdown := some 2 }
  let s := s.setFieldPoint 4 { FieldPoint.cold with qualified := .active, countdown := some 1 }
  s.setPnl { s.pnl with reset := { Debouncer.cold with count := 1 }, silence := { Debouncer.cold with count := 2 } }
theorem witness_Tick : ticking.tmb.tickDue = true ∧ ticking.runs = true ∧ (∀ p, (ticking.fieldPoint p).due = false) ∧ ticking.drainReached = false
    ∧ (ticking.pnl.button .ack).due = false ∧ (ticking.pnl.button .reset).due = false ∧ (ticking.pnl.button .silence).due = false ∧ (ticking.pnl.button .test).due = false := by decide +kernel
/-- The points after that tick with contact 1 closed and the others open. -/
def tickedPoints : Tab FieldPoint :=
  (((ticking.fiu.points.set 1 { FieldPoint.cold with raw := .active, due := true }).set 2 { FieldPoint.cold with qualified := .active, countdown := some 2 }).set 3
    { FieldPoint.cold with qualified := .active, countdown := some 1 }).set 4 { FieldPoint.cold with qualified := .active, due := true }
theorem test_tick_cases : answers
    { ticking with tmb := { ticking.tmb with tickDue := false }, pins := { ticking.pins with points := 0xFFFD, buttons := ⟨true, false, false, false⟩ }
                   fiu := { ticking.fiu with points := tickedPoints, tickStamp := 1000 }
                   pnl := { ticking.pnl with reset := { Debouncer.cold with count := 2 }, silence := { Debouncer.cold with count := 2, due := true }, test := { Debouncer.cold with count := 1 }, tickMode := .active } }
    (exec (.tick 0xFFFD ⟨true, false, false, false⟩) ticking) = true := by decide +kernel
theorem witness_TickHalted : (live (.halted .addressClash) .running (pt .normal .normal)).runs = false := by decide

/-- The hypotheses of the statement on COUNTDOWN_EXPIRY. -/
abbrev Qualifies (s : State) (p : Point) : Prop :=
  PointsAgree s.psq ∧ s.runs = true ∧ (s.fieldPoint p).due = true ∧ ∀ q, q < p → (s.fieldPoint q).due = false
theorem witness_QualifiedActive : Qualifies (dueFor active 3 .active 0) 3 := by decide +kernel
theorem witness_QualifiedShelves : Qualifies (dueFor active 15 .active 1) 15 ∧ ((dueFor active 15 .active 1).conf.points.get 15).threshold.val = 2 := by decide +kernel
theorem witness_QualifiedHolding : Qualifies (dueFor (live .joining .holding (pt .normal .normal)) 0 .active 0) 0 := by decide +kernel
theorem witness_QualifiedClear : Qualifies (dueFor (live .active .running (pt .alert .active)) 0 .normal 0) 0 ∧ Qualifies (dueFor (live .active .settling (pt .held .active)) 0 .normal 0) 0
    ∧ Qualifies (dueFor (live .active .running (pt .shelved .active)) 0 .normal 1) 0 := by decide +kernel
theorem witness_ClearAnnounced :
    let s := dueFor (live .active .running (pt .alert .active)) 0 .normal 0
    Qualifies s 0 ∧ s.psq.phase = .running ∧ s.bus.queue.length < 24 ∧ (∀ x ∈ s.bus.queue, x.unsentStateFor 0 = false)
      ∧ (entry (.state (told 0))).unsentStateFor 0 = true ∧ (15 : Count).val = min 15 ((told 0).count.val + 1) := by decide +kernel
theorem witness_ClearOwed :
    let s := withBus (dueFor (live .active .running (pt .held .active)) 14 .normal 0) fun b => { b with queue := full }
    Qualifies s 14 ∧ 24 ≤ s.bus.queue.length ∧ ∀ x ∈ s.bus.queue, x.unsentStateFor 14 = false := by decide +kernel
theorem witness_Drain :
    let s := live .active .running (pt .shelved .active)
    let s := (s.setFiu { s.fiu with drainRunning := true, drainCount := 100 }).setFieldPoint 0 { FieldPoint.cold with chatter := 1, qualified := .active }
    s.runs = true ∧ s.conf.drainSeconds * 100 ≤ s.fiu.drainCount ∧ (∀ p, (s.fieldPoint p).due = false) ∧ (s.conf.points.get 0).inUse = true := by decide +kernel
theorem witness_Debounce : let s := buttonDue active .test false
    s.runs = true ∧ (s.pnl.button .test).due = true ∧ ∀ b' ∈ actedBefore .test, (s.pnl.button b').due = false := by decide
theorem witness_Request : let s := buttonDue active .ack false
    (s.pnl.button .ack).pressed = false ∧ s.pnl.tickMode = .active ∧ s.conf.panelMask ≠ 0 ∧ s.bus.queue.length < 24 ∧ s.pnl.pendingAck = false
      ∧ 24 ≤ (withBus s fun b => { b with queue := full }).bus.queue.length := by decide +kernel
theorem witness_Silence : let s := buttonDue (active.setHrn { active.hrn with horn := .sounding }) .silence false
    (s.pnl.button .silence).due = true ∧ (∀ b' ∈ actedBefore .silence, (s.pnl.button b').due = false) ∧ s.hrn.horn = .sounding := by decide

/-- A station whose line stands in a state, with a queue, both slots full and nothing waiting. -/
def onLine (l : Line) (q : List TxEntry) : State :=
  withBus active fun b => { b with line := l, queue := q, markSlot := some { attempts := 6, time := none }, heartbeatSlot := some { attempts := 6, mode := none, probe := false } }
theorem witness_Begin : (onLine .gap []).runs = true ∧ (onLine .gap []).bus.clash = false ∧ (onLine .gap []).bus.markSlot ≠ none ∧ (onLine .gap []).bus.rx.length < 6 := by decide +kernel
theorem witness_BeginHead : (withBus active fun b => { b with line := .gap, queue := full }).bus.queue.head? = some (entry (.state (told 0))) := by decide +kernel
theorem witness_LineEvents : (onLine (.contending .markSlot) []).bus.line = .contending .markSlot ∧ (onLine .receiving []).bus.line.own = none := by decide +kernel
theorem witness_WonState : (onLine (.contending .queueHead) full).bus.queue.head? = some (entry (.state (told 0))) ∧ (entry (.state (told 0))).disposition = .unsent := by decide +kernel
theorem witness_WonSnapshot : let s := onLine (.contending .queueHead) [entry (.snapshot none), entry (.state (told 1))]
    s.bus.line = .contending .queueHead ∧ s.bus.queue = [entry (.snapshot none), entry (.state (told 1))] ∧ NothingWaits s := by decide +kernel
theorem witness_WonSlots : let s := onLine (.contending .markSlot) []
    s.bus.markSlot = some { attempts := 6, time := none } ∧ s.bus.heartbeatSlot = some { attempts := 6, mode := none, probe := false } ∧ s.mbu.mode = .active := by decide +kernel
theorem witness_WonOthers : (onLine (.contending .queueHead) [entry (.replay 3 none)]).bus.queue = [entry (.replay 3 none)] ∧ (entry (.join 1)).seq = none ∧ (entry (.ack 1)).body = .ack 1 := by decide +kernel
theorem witness_Retry : let e : TxEntry := { entry (.state (told 0)) with disposition := .begun, seq := some 9 }
    e.disposition = .begun ∧ e.body.toBody = some (.state (told 0)) := by decide
/-- A station whose idle-wait timer has reached 20 ms. -/
def waitedOut (q : List TxEntry) : State := withBus (onLine .seeking q) fun b => { b with idleWait := .running 980 20 }
theorem witness_Charged : ChargesAttempt (onLine (.contending .markSlot) []) .markSlot .transmitError .receiving
    ∧ ChargesAttempt (waitedOut []) .markSlot .idleWaitExpiry .seeking ∧ (waitedOut []).bus.attemptsOf .markSlot = some 6 :=
  ⟨.inl (by decide +kernel), .inr ⟨rfl, by decide +kernel, by decide +kernel, rfl, 980, by decide +kernel⟩, by decide +kernel⟩

/-- A begun STATE of point 0 at its last attempt. -/
def lastTry : TxEntry := { body := .state (told 0), disposition := .begun, attempts := 7, seq := some 1 }
/-- A frame's entry at its last attempt, unsent. -/
def failing (b : TxBody) : TxEntry := { entry b with attempts := 7 }
/-- A station about to fail the head of a queue for the eighth time, in an attempt. -/
def lastAttempt (q : List TxEntry) : State := withBus (onLine (.contending .queueHead) q) fun b => { b with counter := 1 }
/-- The same station waiting in vain for an idle gap, its slots empty. -/
def lastWait (q : List TxEntry) : State := withBus (waitedOut q) fun b => { b with markSlot := none, heartbeatSlot := none }
theorem witness_Discarded : let s := lastAttempt [lastTry]
    ChargesAttempt s .queueHead .transmitError .receiving ∧ s.mbu.mode ≠ .isolated ∧ s.bus.attemptsOf .queueHead = some 7 ∧ s.bus.streak < 2 ∧ s.bus.queue.length ≤ 24 ∧ NothingWaits s :=
  ⟨.inl (by decide +kernel), by decide +kernel⟩
theorem witness_DiscardedWaiting : let s := lastWait [failing (.snapshot none), entry (.state (told 1))]
    ChargesAttempt s .queueHead .idleWaitExpiry .seeking ∧ s.bus.attemptsOf .queueHead = some 7 ∧ NothingWaits s :=
  ⟨.inr ⟨rfl, by decide +kernel, by decide +kernel, rfl, 980, by decide +kernel⟩, by decide +kernel⟩
theorem witness_DiscardedQueued : [entry (.state (told 0))].any (TxEntry.unsentStateFor 0) = true ∧ [entry (.snapshot none)].any TxEntry.unsentSnapshot = true
    ∧ [entry (.join 1)].any TxEntry.unsentJoin = true ∧ (failing (.replay 3 none)).attempts = 7 ∧ (failing (.join 1)).attempts = 7 := by decide
theorem witness_DiscardedSlot : (withBus active fun b => { b with line := .contending .markSlot, markSlot := some { attempts := 7, time := none } }).bus.attemptsOf .markSlot = some 7 := by decide +kernel

/-- A station that has discarded two frames and fails a third, with an ACK, a SNAPSHOT, a STATE and a JOIN behind it. -/
def thirdFailure (head : TxEntry) (rest : List TxEntry) : State := withBus (lastAttempt (head :: rest)) fun b => { b with streak := 2 }
theorem witness_ThirdDiscard : let s := thirdFailure lastTry [entry (.ack 1), entry (.snapshot none), entry (.state (told 1)), entry (.join 1)]
    BusAgrees s ∧ ChargesAttempt s .queueHead .transmitError .receiving ∧ s.mbu.mode = .active ∧ s.bus.attemptsOf .queueHead = some 7 ∧ s.bus.streak = 2
      ∧ s.bus.queue.length ≤ 24 ∧ NothingWaits s ∧ (s.bus.without .queueHead).queue.any TxEntry.unsentSnapshot = true :=
  ⟨by decide +kernel, .inl (by decide +kernel), by decide +kernel⟩
theorem witness_ThirdDiscardOwes : let s := thirdFailure lastTry [entry (.state (told 1))]
    BusAgrees s ∧ NothingWaits s ∧ (s.bus.without .queueHead).queue.any TxEntry.unsentSnapshot = false ∧ (s.bus.without .queueHead).queue.any (TxEntry.unsentStateFor 0) = false := by decide +kernel
theorem witness_ThirdDiscardSnapshot : let s := withBus (thirdFailure (failing (.snapshot none)) []) fun b => { b with lastEnded := 1 }
    BusAgrees s ∧ NothingWaits s ∧ s.bus.queue.head?.map (·.body) = some (.snapshot none) := by decide +kernel

theorem witness_Completed : let s := onLine (.sending .queueHead { src := 5, seq := 1, body := .state (told 0) }) [lastTry]
    s.bus.line = .sending .queueHead { src := 5, seq := 1, body := .state (told 0) } ∧ NothingWaits s := by decide +kernel

/-- An ISOLATED station whose probe is on the line. -/
def probing (ph : Phase) (j : JoinState) : State :=
  let s := live .isolated ph (pt .normal .normal)
  withBus (s.setMbu { s.mbu with joinState := j }) fun b =>
    { b with line := .sending .heartbeatSlot { src := 5, seq := 0, body := .heartbeat .isolated }, heartbeatSlot := some { attempts := 0, mode := some .isolated, probe := true }, streak := 3 }
theorem witness_Probe : (probing .running .closed).bus.line = .sending .heartbeatSlot { src := 5, seq := 0, body := .heartbeat .isolated }
    ∧ (probing .running .closed).bus.heartbeatSlot = some { attempts := 0, mode := some .isolated, probe := true } ∧ (probing .holding .opened).psq.phase = .holding
    ∧ BusAgrees (probing .holding .opened) := by decide +kernel

/-- The bytes of a peer's ACK, and of one under the own address. -/
def ackFrom (src : Addr) : List Byte := encodeFrame { src := src, seq := 0, body := .ack 0xFF }
theorem witness_Received : frameComplete (ackFrom 3) = true ∧ decodeFrame (ackFrom 3) = some { src := 3, seq := 0, body := .ack 0xFF } ∧ (onLine .gap []).own = 5
    ∧ decodeFrame ((ackFrom 3).set 5 0) = none ∧ frameComplete ((ackFrom 3).set 5 0) = true := by decide +kernel
theorem witness_ReceivedFull : 6 ≤ (withBus active fun b => { b with line := .receiving, rx := List.replicate 6 { frame := { src := 3, seq := 0, body := .ack 0 }, origin := .peer } }).bus.rx.length := by decide +kernel
theorem witness_Clash : decodeFrame (ackFrom 5) = some { src := 5, seq := 0, body := .ack 0xFF } ∧ (onLine .receiving []).bus.rx = []
    ∧ (waiting active .peer 3 0 (.ack 0)).bus.rx ≠ [] := by decide +kernel
/-- A station whose clash is found and whose receive queue is empty, with timers running. -/
def clashed : State :=
  let s := withBus (knowing active 3 fun m => { present m with silence := .running 900 300, resync := .running 950 200, replay := .scheduled, replayTimer := .running 990 60 }) fun b => { b with clash := true }
  s.setMbu { s.mbu with heartbeat := .running 960 100 }
theorem witness_ClashHalt : clashed.runs = true ∧ clashed.bus.clash = true ∧ clashed.bus.rx = [] := by decide +kernel
theorem test_halt_holds_the_timers :
    (match exec .addressClashHalt clashed with
     | .next t => decide (t.mbu.mode = .halted .addressClash ∧ t.mbu.heartbeat = .held 40 100 ∧ (t.member 3).silence = .held 100 300 ∧ (t.member 3).replayTimer = .held 10 60 ∧ (t.member 3).replay = .scheduled ∧ t.jnl.journal.length = 2)
     | .refused _ => false) = true := by decide +kernel
theorem witness_Looped : let s := withBus (live .isolated .running (pt .normal .normal)) fun b => { b with queue := [{ body := .ack 1, disposition := .loopedBack, attempts := 0, seq := some 4 }] }
    s.runs = true ∧ s.bus.rx.length < 6 ∧ s.bus.line.own = none ∧ NothingWaits s ∧ (TxBody.ack 1).toBody = some (.ack 1) := by decide +kernel

theorem witness_PeerGap : let s := knowing (waiting active .peer 3 7 (.heartbeat .active)) 3 present
    s.runs = true ∧ (s.member 3).presence ≠ .self ∧ (s.member 3).sync = .inStep ∧ (7 : SeqNo) ≠ (s.member 3).expected - 1 := by decide +kernel
theorem witness_PeerFollows : let s := knowing (waiting active .peer 3 7 (.state (told 0))) 3 present
    (s.member 3).presence = .present ∧ ¬ (7 : SeqNo) ≠ (s.member 3).expected := by decide +kernel
theorem witness_OwnBeacon : let s := waiting active .line 5 0 (.heartbeat .active)
    s.runs = true ∧ s.bus.rx = [{ frame := { src := 5, seq := 0, body := .heartbeat .active }, origin := .line }] := by decide +kernel
theorem witness_Mark : let s := waiting active .line 5 0 (.timeMark 999)
    s.runs = true ∧ s.bus.rx ≠ [] ∧ ((999 : Millis) + 2 - s.tmb.groupTime).toNat = 1 ∧ ((998 : Millis) + 2 - s.tmb.groupTime).toNat = 0
      ∧ ((0x800003E6 : Millis) + 2 - s.tmb.groupTime).toNat = 2 ^ 31 := by decide +kernel
theorem witness_State : let s := waiting active .peer 3 7 (.state (told 0))
    s.runs = true ∧ s.bus.rx = [{ frame := { src := 3, seq := 7, body := .state (told 0) }, origin := .peer }] ∧ (recordAt s.gat 3 0).state ≠ .alert := by decide +kernel
theorem witness_Requests : let s := waiting (live .active .running (pt .alert .active)) .line 5 0 (.ack 1)
    let s := s.setGat (.fill (.fill { GatRecord.cold with state := .alert }))
    s.runs = true ∧ (s.point 0).inUse = true ∧ (1 : ZoneMask).getLsbD (s.point 0).zone.val = true ∧ (s.point 0).state = .alert ∧ (recordAt s.gat s.own 0).state = .alert := by decide +kernel
theorem witness_Resets : let s := waiting (live .isolated .running (pt .returned .normal)) .loopback 5 0 (.reset 1)
    s.runs = true ∧ (s.point 15).state = .returned ∧ s.psq.phase = .running := by decide +kernel
theorem witness_Snapshot : let s := knowing (waiting active .peer 3 7 (.snapshot (entries .alert .active true))) 3 present
    s.runs = true ∧ s.bus.rx.length = 1 ∧ (s.member 3).sync = .inStep ∧ ((entries .alert .active true).get 0).firstOut = true := by decide +kernel
theorem witness_SnapshotEnds : (waiting (live .joining .running (pt .normal .normal)) .line 5 0 (.snapshot (entries .normal .normal false))).mbu.mode = .joining
    ∧ ((knowing active 3 fun m => { present m with sync := .awaiting }).member 3).sync = .awaiting ∧ (active.member 3).presence = .absent := by decide +kernel
theorem witness_Replay : let s := live .joining .holding (pt .normal .normal)
    let s := waiting (s.setMbu { s.mbu with joinState := .opened }) .peer 3 6 (.replay 5 (entries .held .normal true))
    s.runs = true ∧ s.own = 5 ∧ s.mbu.joinState = .opened ∧ s.psq.phase = .holding ∧ (s.point 0).inUse = true := by decide +kernel
theorem witness_ResyncRequest : let s := waiting active .peer 3 6 (.resyncRequest 5)
    s.runs = true ∧ s.own = 5 ∧ s.mbu.mode = .active ∧ NothingWaits s := by decide +kernel
theorem witness_Join : let s := (waiting active .peer 3 0 (.join 1)).setGat (.fill (.fill { GatRecord.cold with status := .current }))
    s.runs = true ∧ (s.member 3).presence ≠ .self ∧ (recordAt s.gat 3 0).status ≠ .empty ∧ (s.member 3).replay = .none ∧ s.bus.queue.any (TxEntry.unsentReplayFor 3) = false := by decide +kernel
theorem witness_OwnJoin : let s := live .joining .holding (pt .normal .normal)
    let s := waiting (s.setMbu { s.mbu with joinState := .pending }) .line 5 0 (.join 1)
    s.runs = true ∧ s.mbu.joinState = .pending := by decide +kernel

theorem witness_Beacons : active.heartbeatMs = 100 ∧ 100 ≤ (active.tmb.localCount - 900).toNat ∧ active.conf.markSeconds * 1000 ≤ (active.tmb.localCount - 0).toNat
    ∧ (live .isolated .running (pt .normal .normal)).mbu.mode = .isolated := by decide +kernel
theorem witness_Absent : let s := knowing active 3 fun m => { present m with silence := .running 700 300, sync := .awaiting, attempts := 3, resync := .running 800 200 }
    s.runs = true ∧ (s.member 3).presence = .present ∧ (s.member 3).silence = .running 700 300 ∧ 300 ≤ (s.tmb.localCount - 700).toNat
      ∧ (s.member 3).resync = .running 800 200 ∧ 200 ≤ (s.tmb.localCount - 800).toNat := by decide +kernel
theorem witness_Timed : let s := knowing active 3 fun m => { present m with sync := .awaiting, attempts := 2, resync := .running 800 200, replay := .scheduled, replayTimer := .running 940 60 }
    (s.member 3).attempts < 3 ∧ (s.member 3).replay = .scheduled ∧ 60 ≤ (s.tmb.localCount - 940).toNat ∧ s.bus.queue.length < 24 := by decide +kernel
theorem witness_JoinWindow : let s := live .joining .holding (pt .normal .normal)
    let s := s.setMbu { s.mbu with joinState := .opened, joinWindow := .running 700 300 }
    s.runs = true ∧ s.mbu.joinWindow = .running 700 300 ∧ 300 ≤ (s.tmb.localCount - 700).toNat := by decide +kernel
theorem witness_HornTimers : let s := active.setHrn { active.hrn with horn := .sounding, level := 7, stage := .running 0 1000 }
    s.hrn.stage = .running 0 1000 ∧ 1000 ≤ (s.tmb.localCount - 0).toNat ∧ s.hrn.level + 1 = s.conf.floor
      ∧ (active.setHrn { active.hrn with horn := .chiming, ret := .silenced, chime := .running 875 125 }).hrn.ret = .silenced := by decide +kernel
theorem witness_Departure : let s := active.setJnl { journal := List.replicate 64 .start, dropped := 1, inProgress := some (recordBytes .start) }
    s.jnl.inProgress = some (recordBytes .start) ∧ s.jnl.journal ≠ [] ∧ s.jnl.dropped ≠ 0 := by decide +kernel
theorem witness_Lamps : (loading 0 .waiting 1).mbu.mode = .loading ∧ active.runs = true ∧ active.pnl.lampTest = false ∧ (3 : Addr) ≠ active.own ∧ (active.member 3).presence = .absent := by decide +kernel
theorem witness_FrameValid : (Body.state (told 0)).valid = true ∧ (Body.snapshot (entries .held .active true)).valid = true ∧ (Body.replay 3 (entries .shelved .normal true)).valid = true := by decide +kernel
/-- A station that has found a clash, with a frame still waiting and a change due. -/
def afterClash : State := withBus (dueFor (waiting active .peer 3 7 (.ack 1)) 3 .active 1) fun b => { b with clash := true, line := .seeking }
/-- The same station in HALTED, its heartbeat timer left running. -/
def halted : State := afterClash.setMbu { afterClash.mbu with mode := .halted .addressClash, heartbeat := .running 0 100 }
theorem witness_Halted : BusAgrees halted ∧ halted.mbu.mode = .halted .addressClash ∧ (Instr.deliverAck).wellFormed = true ∧ (Instr.frameReceived (ackFrom 3)).wellFormed = true
    ∧ BusAgrees afterClash ∧ afterClash.bus.clash = true ∧ afterClash.bus.probe = .stopped := by decide +kernel
theorem witness_Kept : MarksHold active.gat ∧ PointsAgree active.psq ∧ QueueHolds active ∧ WaitsOnlyWhenFull active ∧ ReceiveQueueHolds active.bus := by decide +kernel
theorem witness_KeptToo : FieldConditionsAgree active ∧ JournalHolds active.jnl ∧ ChatterHolds active ∧ BusAgrees active ∧ HornHolds active ∧ LampTestHolds active.pnl := by decide +kernel
theorem witness_KeptIdleWait : IdleWaitHolds active := by
  have stopped : active.bus.idleWait = .stopped := rfl
  have off : active.idleWaitRuns = false := by decide +kernel
  simp [IdleWaitHolds, stopped, off]

/-! ## Further clauses -/

theorem witness_ClearRewritten :
    let s := withBus (dueFor (live .active .running (pt .alert .active)) 13 .normal 0) fun b => { b with queue := full }
    Qualifies s 13 ∧ s.bus.queue = full.take 13 ++ entry (.state (told 13)) :: full.drop 14 ∧ ∀ x ∈ full.take 13, x.unsentStateFor 13 = false := by decide +kernel
theorem witness_BeginHeartbeat :
    let s := withBus (onLine .gap []) fun b => { b with markSlot := none }
    s.bus.markSlot = none ∧ s.bus.queue.head? = none ∧ s.bus.heartbeatSlot ≠ none ∧ s.bus.line = .gap := by decide +kernel
theorem witness_BeginNothing : (withBus active fun b => { b with line := .gap }).bus.candidate = none := by decide +kernel
theorem witness_RetrySlots :
    let s := withBus (onLine (.contending .markSlot) []) fun b => { b with markSlot := some { attempts := 7, time := some 9 }, heartbeatSlot := some { attempts := 7, mode := some .joining, probe := false } }
    s.bus.line = .contending .markSlot ∧ s.bus.markSlot = some { attempts := 7, time := some 9 } ∧ s.bus.heartbeatSlot = some { attempts := 7, mode := some .joining, probe := false } := by decide +kernel
theorem witness_ProbeCharged :
    let s := probing .running .closed
    s.bus.line.own = some .heartbeatSlot ∧ s.bus.heartbeatSlot = some { attempts := 0, mode := some .isolated, probe := true } := by decide +kernel
theorem witness_IdleGap : active.bus.line.own = none ∧ active.bus.clash = false ∧ active.bus.rx.length < 6 := by decide +kernel
theorem witness_PeerReturns : (waiting active .peer 3 9 (.ack 1)).runs = true ∧ (active.member 3).presence = .absent ∧ (Body.ack 1).cls ≠ .join ∧ (Body.ack 1).cls ≠ .snapshot := by decide +kernel
theorem witness_JoinWindowRunning :
    let s := active.setMbu { active.mbu with joinState := .opened, joinWindow := .running 700 300 }
    s.runs = true ∧ s.psq.phase ≠ .holding ∧ s.mbu.joinState = .opened := by decide +kernel
theorem witness_ReplayNotPassed : (waiting active .peer 3 6 (.replay 15 (entries .normal .normal false))).mbu.joinState ≠ .opened := by decide +kernel
theorem witness_TimedInIsolated :
    let s := knowing (live .isolated .running (pt .normal .normal)) 3 fun m => { present m with sync := .awaiting, attempts := 0, resync := .running 600 400 }
    s.runs = true ∧ ¬ s.mbu.mode ≠ .isolated ∧ 400 ≤ (s.tmb.localCount - 600).toNat := by decide +kernel
theorem witness_ModeTable : BusAgrees active ∧ ∀ cause, Instr.frameCompletion ≠ .coldStart cause := ⟨by decide +kernel, fun _ => by simp⟩

/-! ## Claims, announcements, the horn and the journal -/

/-- A queue that is full but for a number of entries, all looped back. -/
def loopedBut (n : Nat) : List TxEntry := List.replicate (24 - n) { entry (.ack 1) with disposition := .loopedBack, seq := some 0 }
theorem witness_ShelvedUnsent :
    let s := withBus (dueFor active 3 .active 1) fun b => { b with queue := full }
    Qualifies s 3 ∧ QueueHolds s ∧ s.psq.phase = .running ∧ s.bus.queue.any (TxEntry.unsentStateFor 3) = true ∧ s.bus.queue.any (TxEntry.unsentStateFor 14) = false := by decide +kernel
theorem witness_ShelvedIsolated :
    let s := dueFor (live .isolated .running (pt .normal .normal)) 3 .active 1
    (withBus s fun b => { b with queue := loopedBut 1 }).bus.queue.length = 23 ∧ QueueHolds (withBus s fun b => { b with queue := loopedBut 1 }) ∧ s.bus.queue.length < 23 := by decide +kernel
theorem witness_ShelvedHeld : Qualifies (dueFor (live .active .running { pt .held .active with field := .normal }) 3 .active 1) 3 := by decide +kernel
theorem witness_DrainAnnounced :
    let s := live .active .running (pt .shelved .active)
    let s := (s.setFiu { s.fiu with drainRunning := true, drainCount := 100 }).setFieldPoint 0 { FieldPoint.cold with chatter := 1, qualified := .active }
    QueueHolds s ∧ s.psq.phase = .running ∧ s.psq.phase ≠ .holding := by decide +kernel
theorem witness_TickedInJoining :
    let s := buttonDue (live .joining .settling (pt .normal .normal)) .ack false
    (s.setMbu { s.mbu with mode := .active }).pnl.tickMode = .joining ∧ (s.setMbu { s.mbu with mode := .active }).mbu.mode = .active := by decide
/-- A station whose ACK button is due from a tick in ISOLATED, after the exit to a mode. -/
def sincePressed (m : Mode) : State :=
  let s := buttonDue (live .isolated .running (pt .normal .normal)) .ack false
  s.setMbu { s.mbu with mode := m }
theorem witness_TickedInIsolated : let s := sincePressed .joining
    s.runs = true ∧ (s.pnl.button .ack).due = true ∧ s.pnl.tickMode = .isolated ∧ s.mbu.mode ≠ .isolated ∧ s.conf.panelMask ≠ 0 ∧ s.bus.queue.length < 24
      ∧ (sincePressed .isolated).mbu.mode = .isolated := by decide
theorem witness_ProbeQuiet : let s := withBus (probing .holding .opened) fun b => { b with queue := loopedBut 1 }
    NothingWaits s ∧ s.bus.queue.length = 23 ∧ (∀ x ∈ s.bus.queue, x.disposition = .loopedBack) ∧ (probing .settling .closed).psq.phase ≠ .holding := by decide +kernel
theorem witness_AdoptedInIsolated : let s := live .isolated .holding (pt .normal .normal)
    let s := waiting (s.setMbu { s.mbu with joinState := .opened }) .peer 3 6 (.replay 5 (entries .held .normal true))
    s.runs = true ∧ s.mbu.mode = .isolated ∧ (∀ x ∈ s.bus.queue, x.disposition = .loopedBack) ∧ (s.setMbu { s.mbu with joinWindow := .running 700 300 }).psq.phase = .holding := by decide +kernel
theorem witness_PeerReplay : let s := waiting (knowing active 4 fun m => { present m with replay := .due }) .peer 3 7 (.replay 4 (entries .held .active true))
    s.runs = true ∧ (s.member 3).presence ≠ .self ∧ (3 : Addr) ≠ 4 ∧ (s.member 4).replay = .due
      ∧ NothingWaits (waiting active .peer 3 7 (.replay 4 (entries .held .active true))) := by decide +kernel
/-- Station 5 with a full queue behind its frame, an owed point 14 with two missed, and every other claim waiting. -/
def claiming (s : State) : State :=
  let s := knowing s 3 fun m => { present m with resyncOwed := true, replay := .due }
  let s := s.setPoint 14 { s.point 14 with owed := true, missed := 2, cause := some .clear }
  withBus (s.setPnl { s.pnl with pendingAck := true, pendingReset := true }) fun b => { b with owedSnapshot := true, owedJoin := true }
theorem witness_FreedOfFull : let s := withBus (claiming active) fun b => { b with queue := full, line := .sending .queueHead { src := 5, seq := 1, body := .state (told 0) } }
    s.bus.queue.length = 24 ∧ s.mbu.mode ≠ .isolated ∧ s.firstClaim = some (.state 14) := by decide +kernel
/-- Station 5 at the eighth failure of a STATE of point 15 with a full queue behind it and every other claim waiting. -/
def lastAttemptClaiming : State :=
  claiming (lastAttempt ({ lastTry with body := .state { told 0 with point := 15 } } :: full.drop 1))
theorem witness_DiscardedClaiming : ChargesAttempt lastAttemptClaiming .queueHead .transmitError .receiving ∧ lastAttemptClaiming.mbu.mode ≠ .isolated
    ∧ lastAttemptClaiming.bus.attemptsOf .queueHead = some 7 ∧ lastAttemptClaiming.bus.streak < 2 ∧ lastAttemptClaiming.bus.queue.length = 24
    ∧ ¬ NothingWaits lastAttemptClaiming :=
  ⟨.inl (by decide +kernel), by decide +kernel⟩
theorem test_discard_serves_a_lower_owed_point_first :
    (match exec .transmitError lastAttemptClaiming with
     | .next t => decide (t.bus.queue.length = 24 ∧ t.bus.queue.take 23 = full.drop 1
         ∧ t.bus.queue.getLast? = some (entry (.state (announcement (lastAttemptClaiming.point 14) 14 2)))
         ∧ (t.point 14).owed = false ∧ (t.point 15).owed = true ∧ t.bus.owedSnapshot = true ∧ t.bus.lastEnded = 1 ∧ t.bus.streak = 1)
     | .refused _ => false) = true := by decide +kernel
theorem witness_HeldBack : let s := withBus (claiming active) fun b => { b with queue := full }
    WaitsOnlyWhenFull s ∧ s.heldBackWaits = true ∧ ¬ WaitsOnlyWhenFull (knowing active 3 fun m => { present m with replay := .due }) := by decide +kernel
theorem witness_FreedInIsolated : let s := withBus (claiming (live .isolated .running (pt .normal .normal))) fun b => { b with queue := loopedBut 0 }
    s.bus.queue.length = 24 ∧ (∀ x ∈ s.bus.queue.tail, x.disposition = .loopedBack) ∧ s.bus.queue.head?.map (·.seq) = some (some 0) ∧ s.bus.rx.length < 6 := by decide +kernel
/-- The claims that take the next entries, as many as are freed. -/
def takers : Nat → State → List (Option Claim)
  | 0, _ => []
  | n + 1, s => s.firstClaim :: takers n { s.offered with bus := { s.offered.bus with queue := [] } }
theorem test_claims_in_order :
    takers 7 (claiming active) = [some (.state 14), some .snapshot, some .join, some .ack, some .reset, some (.resyncRequest 3), some (.replay 3)]
      ∧ takers 5 (claiming (live .isolated .running (pt .normal .normal))) = [some (.state 14), some .snapshot, some .ack, some .reset, none] := by decide +kernel

/-- A copy with every record of station 3 in a state, in use in zone 0 at priority 1, CURRENT. -/
def copyOf (st : SeqState) : Gat := State.reset.gat.set 3 (.fill { GatRecord.cold with inUse := true, priority := 1, state := st, status := .current })
theorem witness_StaleClaim : let s := (waiting active .peer 3 7 (.ack 1)).setGat (copyOf .normal)
    s.runs = true ∧ (s.member 3).presence = .absent ∧ (recordAt s.gat 3 0).status = .current ∧ (recordAt s.gat 4 0).status = .empty := by decide +kernel
theorem witness_JournalFull : let s := active.setJnl { Jnl.cold with journal := List.replicate 64 .start, dropped := 65535 }
    JournalHolds s.jnl ∧ s.jnl.journal.length = 64 ∧ s.jnl.inProgress = none := by decide +kernel

/-! ## One step on a small state -/

/-- Frames whose check is right and that R83 refuses: an unused code, a zero bit set, a wrong target, a point in use without
priority, a mode out of range; and bytes of no class. -/
theorem test_invalid_frames : [[0x33, 0, 0, 1, 255], [0x83, 0, 0xFF, 1, 3], [0x73, 0, 0xFF, 0], [0x93, 0, 0xFF, 1, 4], [0xA3, 0, 0xFF, 0],
      [0x23, 0, 0xFF, 7, 0x08, 0x20, 0, 0, 0, 0, 0], [0x23, 0, 0xFF, 7, 0x08, 0x25, 0, 0, 0, 0, 0]].map (fun b => decodeFrame (b ++ bytes16 (crc16 b))) = List.replicate 7 none
    ∧ (decodeFrame ([0x23, 0, 0xFF, 7, 0x08, 0x24, 0, 0, 0, 0, 0] ++ bytes16 (crc16 [0x23, 0, 0xFF, 7, 0x08, 0x24, 0, 0, 0, 0, 0]))).isSome = true := by decide +kernel
theorem test_abandoned_at_a_gap_begins_there :
    (match exec (.frameAbandoned .idleGapBeforeEnd) (withBus (onLine .receiving []) fun b => { b with idleWait := .running 990 20 }) with
     | .next t => decide (t.bus.line = .gap ∧ t.bus.idleWait = .running 1000 20) && answers (withBus t fun b => { b with line := .contending .markSlot, idleWait := .stopped }) (exec .beginFrame t)
         && answers (withBus t fun b => { b with line := .seeking }) (exec (.frameAbandoned .dominantStopBit) t)
     | .refused _ => false) = true := by decide +kernel
/-- An own mark in its contention field, unsent or with a time, while a peer's TIME MARK waits. -/
def markOffered (time : Option Millis) : State :=
  withBus (waiting (onLine (.contending .markSlot) []) .peer 3 0 (.timeMark 999)) fun b => { b with markSlot := some { attempts := 2, time := time }, heartbeatSlot := none }
theorem test_withdrawn_mark_ends_its_contention :
    (match exec .deliverTimeMark (markOffered none), exec .deliverTimeMark (markOffered (some 7)) with
     | .next t, .next u => decide (t.bus.line = .receiving ∧ t.bus.markSlot = none ∧ u.bus.line = .contending .markSlot ∧ u.bus.markSlot = some { attempts := 2, time := some 7 })
     | _, _ => false) = true := by decide +kernel
theorem test_own_state_touches_no_member :
    (match exec .deliverState (waiting active .loopback 5 9 (.state (told 0))) with
     | .next t => decide (t.mbu = active.mbu ∧ t.bus.queue = [] ∧ t.bus.rx = [] ∧ (recordAt t.gat 5 0).state = .alert)
     | .refused _ => false) = true := by decide +kernel
theorem test_press_of_a_tick_in_joining_is_ignored :
    let s := buttonDue (live .joining .settling (pt .normal .normal)) .ack false
    let s := s.setMbu { s.mbu with mode := .active }
    (match exec (.debounce .ack) s with
     | .next t => decide (t.bus.queue = [] ∧ t.pnl.pendingAck = false ∧ t.pnl.ack.pressed = true)
     | .refused _ => false) = true := by decide +kernel
theorem test_press_of_a_tick_in_isolated_is_looped_back :
    (match exec (.debounce .ack) (sincePressed .joining) with
     | .next t => decide (t.bus.queue = [{ body := .ack (sincePressed .joining).conf.panelMask, disposition := .loopedBack, attempts := 0, seq := some 0 }])
     | .refused _ => false) = true := by decide +kernel
theorem test_exit_claims_before_the_held_back :
    (match exec .frameCompletion (knowing (probing .running .closed) 3 fun m => { present m with resyncOwed := true, replay := .due }) with
     | .next t => decide (t.bus.queue = [entry (.snapshot none), entry (.resyncRequest 3), entry (.replay 3 none)] ∧ t.member 3 = present (t.member 3))
     | .refused _ => false) = true := by decide +kernel
theorem test_won_snapshot_frees_for_the_waiting :
    (match exec .winContention (withBus (claiming active) fun b => { b with line := .contending .queueHead, queue := [entry (.snapshot none), entry (.state (told 1))] }) with
     | .next t => decide ((t.bus.queue.drop 1).map (·.body) = [.snapshot none, .join t.inUseMask, .ack t.conf.panelMask, .reset t.conf.panelMask, .resyncRequest 3, .replay 3 none])
     | .refused _ => false) = true := by decide +kernel
theorem test_adoption_claims_its_snapshot :
    let s := live .joining .holding (pt .normal .normal)
    (match exec .deliverReplay (waiting (s.setMbu { s.mbu with joinState := .opened }) .peer 3 6 (.replay 5 (entries .held .normal true))) with
     | .next t => decide (t.psq.phase = .settling ∧ t.bus.queue = [entry (.resyncRequest 3), entry (.snapshot none)])
     | .refused _ => false) = true := by decide +kernel
theorem test_isolation_loops_back_in_order :
    (match exec .transmitError (thirdFailure lastTry [entry (.ack 1), entry (.snapshot none), entry (.state (told 1)), entry (.join 1)]) with
     | .next t => decide (t.mbu.mode = .isolated ∧ t.bus.lastEnded = 1 ∧ t.bus.queue.map (·.disposition) = [.loopedBack, .loopedBack] ∧ t.bus.queue.map (·.seq) = [some 1, some 1]
         ∧ t.bus.queue.map (·.body) = [.ack 1, .snapshot (some (snapshotEntries active))])
     | .refused _ => false) = true := by decide +kernel
theorem test_discarded_snapshot_takes_its_entry_again :
    (match exec .idleWaitExpiry (lastWait [failing (.snapshot none), entry (.state (told 1))]) with
     | .next t => decide (t.bus.queue = [entry (.state (told 1)), entry (.snapshot none)] ∧ t.bus.streak = 1 ∧ t.bus.idleWait = .running 1000 20)
     | .refused _ => false) = true := by decide +kernel
theorem test_alert_not_in_use_then_return_chimes :
    let es : Tab Entry := (entries .returned .normal false).set 0 { (entries .alert .active false).get 0 with inUse := false }
    (match exec .deliverSnapshot ((knowing (waiting active .peer 3 7 (.snapshot es)) 3 present).setHrn { Hrn.cold with horn := .sounding, stage := .running 990 1000 }) with
     | .next t => decide (t.hrn.horn = .chiming ∧ t.hrn.ret = .quiet ∧ t.hrn.stage = .stopped)
     | .refused _ => false) = true := by decide +kernel
theorem test_halted_keeps_all : [Instr.deliverAck, .countdownExpiry 3, .heartbeatTimerExpiry, .frameReceived (ackFrom 3), .drainTimerExpiry].all (fun c => answers halted (exec c halted)) = true := by decide +kernel
theorem test_point_block : pointBlock 0x80 0xA8 1 2 3 = some { inUse := true, polarity := .activeClosed, zone := 5, priority := 2, onDelay := 1, offDelay := 2, threshold := 3 } := by decide
theorem test_lamp_entries : lampEntry 1 0x5A = some (.point 5 10) ∧ lampEntry 2 6 = some (.zone 6) ∧ lampEntry 3 14 = some (.station 14) ∧ lampEntry 0 0 = some .off := by decide
theorem test_state_payload : (encodeFrame { src := 3, seq := 18, body := .state (told 6) }).take 11 = [0x23, 18, 0xFF, 7, 0x68, 0x34, 0x0F, 0, 0, 0, 9] := by decide +kernel
theorem test_full_journal_counts_the_dropped :
    (match exec .deliverAck (((waiting active .peer 3 7 (.ack 1)).setGat (copyOf .alert)).setJnl { Jnl.cold with journal := List.replicate 64 .start, dropped := 65535 }) with
     | .next t => decide (t.jnl.journal.length = 64 ∧ t.jnl.dropped = 65535 ∧ (recordAt t.gat 3 0).status = .stale)
     | .refused _ => false) = true := by decide +kernel
theorem test_read_levels :
    let s := loading 50 .reading 1
    ((List.range 26).map s.sdoHigh).findIdxs id = [6, 7] ∧ s.sckHigh 0 = false ∧ s.sckHigh 1 = true ∧ s.sckHigh 2223 = true ∧ s.sckHigh 2225 = false ∧ active.sckHigh 1 = false := by decide +kernel
theorem test_logger_rests_high : active.logtxHigh 0 = true
    ∧ (active.setJnl { Jnl.cold with inProgress := some (recordBytes .start) }).logtxHigh 0 = false ∧ (active.setJnl { Jnl.cold with inProgress := some (recordBytes .start) }).logtxHigh 150 = true := by decide +kernel
theorem test_tick_at_the_wrap : (Tmb.advance { Tmb.cold with localCount := 0xFFFFFFFF }).tickDue = true ∧ (Tmb.advance { Tmb.cold with localCount := 4294967289 }).tickDue = true
    ∧ (Tmb.advance { Tmb.cold with localCount := 3 }).tickDue = false := by decide

theorem test_eighth_failure_announces_anew :
    answers (withBus (onLine .receiving [entry (.state { announcement (pt .normal .normal) 0 0 with count := 0 })]) fun b => { b with streak := 1, lastEnded := 1, idleWait := .running 1000 20 })
      (exec .transmitError (onLine (.contending .queueHead) [lastTry])) = true := by decide +kernel
theorem test_activation_shelves_at_threshold :
    (match exec (.countdownExpiry 15) (dueFor active 15 .active 1) with
     | .next t => decide ((t.point 15).state = .shelved ∧ (t.fieldPoint 15).chatter = 2 ∧ t.bus.queue.length = 1
         ∧ t.bus.queue.head?.map (·.body) = some (.state { point := 15, inUse := true, cause := .shelve, state := .shelved, condition := .active, priority := 1, zone := 0, count := 1, stamp := 1000 }))
     | .refused _ => false) = true := by decide +kernel
theorem test_first_alert_sounds_and_is_marked :
    (match exec .deliverState (waiting active .line 5 1 (.state (told 0))) with
     | .next t => decide ((recordAt t.gat 5 0).firstOut = true ∧ (recordAt t.gat 5 0).status = .stale ∧ t.hrn.horn = .sounding ∧ t.hrn.level = 1 ∧ t.jnl.journal.length = 2)
     | .refused _ => false) = true := by decide +kernel
theorem test_join_claims_snapshot_and_replay :
    (match exec .deliverJoin ((waiting active .peer 3 0 (.join 1)).setGat (.fill (.fill { GatRecord.cold with status := .current }))) with
     | .next t => decide (t.bus.queue = [entry (.snapshot none)] ∧ (t.member 3).replay = .scheduled ∧ (t.member 3).replayTimer = .running 1000 60 ∧ (recordAt t.gat 3 0).status = .stale)
     | .refused _ => false) = true := by decide +kernel

end Sys2Proof.Tests
end

section
/-! The copy of the Group Alarm Table: what a read returns after each write, and what a claim, a STATE and a SNAPSHOT
leave in every record (R6 to R8, R10, R13, R15, R16, R18). -/
namespace Sys2Proof.Machine

/-! ## Reads after writes -/

theorem recordAt_set (g : Gat) (st : Addr) (block : Tab GatRecord) (a : Addr) (q : Point) :
    recordAt (g.set st block) a q = if a = st then block.get q else recordAt g a q := by
  unfold recordAt; rw [Tab.get_set]; split <;> rfl

theorem recordAt_setRecord (g : Gat) (st : Addr) (p : Point) (r : GatRecord) (a : Addr) (q : Point) :
    recordAt (setRecord g st p r) a q = if a = st ∧ q = p then r else recordAt g a q := by
  unfold setRecord
  rw [recordAt_set]
  by_cases ha : a = st
  · subst ha; rw [if_pos rfl, Tab.get_set]; simp only [true_and]; rfl
  · rw [if_neg ha, if_neg (fun h => ha h.1)]

@[simp] theorem recordAt_setRecord_self (g : Gat) (st : Addr) (p : Point) (r : GatRecord) :
    recordAt (setRecord g st p r) st p = r := by
  rw [recordAt_setRecord, if_pos ⟨rfl, rfl⟩]

theorem get_setRecord_of_ne (g : Gat) {st a : Addr} (p : Point) (r : GatRecord) (h : a ≠ st) :
    (setRecord g st p r).get a = g.get a := Tab.get_set_of_ne _ _ _ _ h

@[simp] theorem recordAt_fill (r : GatRecord) (a : Addr) (p : Point) : recordAt (.fill (.fill r)) a p = r := by
  simp [recordAt]

theorem standing_iff (x : SeqState) : x.standing = true ↔ x = .alert ∨ x = .held ∨ x = .returned := by
  cases x <;> decide

theorem marksZone_iff (z : Zone) (r : GatRecord) : marksZone z r = true ↔ r.firstOut = true ∧ r.zone = z := by
  simp [marksZone]

theorem blocksZone_iff (z : Zone) (r : GatRecord) :
    blocksZone z r = true ↔ r.zone = z ∧ r.status ≠ .empty ∧ r.state.standing = true := by
  simp [blocksZone, and_assoc]

theorem anyOther_iff (st : Addr) (p : Point) (f : GatRecord → Bool) (g : Gat) :
    anyOther st p f g = true ↔ ∃ a q, (a, q) ≠ (st, p) ∧ f (recordAt g a q) = true := by
  simp only [anyOther, List.any_eq_true, mem_indices, true_and, Bool.and_eq_true, Bool.not_eq_true', Bool.and_eq_false_iff,
    beq_eq_false_iff_ne, ne_eq, Prod.mk.injEq, not_and_or]

/-! ## Claims on a block (R6, R7, R8) -/

/-- A claim that changes no status leaves the block as it is. -/
theorem restatus_eq_self {f : CopyStatus → CopyStatus} {block : Tab GatRecord} (h : restatusChanges f block = false) :
    restatus f block = block := by
  refine Tab.ext_get fun p => ?_
  have same : f (block.get p).status = (block.get p).status := by
    simpa using (Tab.any_false _ _).1 h p
  simp only [restatus, Tab.get_map, same]

theorem claimStatus_gat (f : CopyStatus → CopyStatus) (n : JournalRecord) (st : Addr) (s : State) :
    (claimStatus f n st s).gat = s.gat.set st (restatus f (s.gat.get st)) := by
  unfold claimStatus
  split
  · simp
  · rename_i h
    rw [restatus_eq_self (by simpa using h), Tab.set_get_self]

theorem recordAt_claimStatus (f : CopyStatus → CopyStatus) (n : JournalRecord) (st : Addr) (s : State) (a : Addr) (q : Point) :
    recordAt (claimStatus f n st s).gat a q =
      if a = st then { recordAt s.gat a q with status := f (recordAt s.gat a q).status } else recordAt s.gat a q := by
  rw [claimStatus_gat, recordAt_set]
  by_cases h : a = st
  · subst h; simp [restatus, recordAt]
  · simp [h]

/-! ## A STATE (R10, R15, R16) -/

/-- The record of a STATE after it: the carried fields, with the mark where it is kept or received. -/
theorem recordAt_applyState (st : Addr) (b : StateBody) (g : Gat) (a : Addr) (q : Point) :
    recordAt (applyState st b g) a q =
      if a = st ∧ q = b.point then
        { carried (recordAt g st b.point) b with
            firstOut := (carried (recordAt g st b.point) b).firstOut
              || receivesMark st b.point (recordAt g st b.point) b (setRecord g st b.point (carried (recordAt g st b.point) b)) }
      else recordAt g a q := by
  unfold applyState
  dsimp only
  split
  · rename_i h
    simp only [recordAt_setRecord, h, Bool.or_true]
    split <;> rfl
  · rename_i h
    simp only [recordAt_setRecord, h, Bool.or_false]

theorem get_applyState_of_ne {st a : Addr} (b : StateBody) (g : Gat) (h : a ≠ st) : (applyState st b g).get a = g.get a := by
  unfold applyState
  dsimp only
  split <;> simp only [get_setRecord_of_ne _ _ _ h]

/-- The mark is received at the entry into ALERT when no other record of the zone stands non-EMPTY, and none at all carries
the mark (R15). -/
theorem receivesMark_iff (st : Addr) (p : Point) (old : GatRecord) (b : StateBody) (g : Gat) :
    receivesMark st p old b g = true ↔
      old.state ≠ .alert ∧ b.state = .alert
      ∧ (∀ a q, (a, q) ≠ (st, p) → ¬ ((recordAt g a q).zone = b.zone ∧ (recordAt g a q).status ≠ .empty ∧ (recordAt g a q).state.standing = true))
      ∧ ∀ a q, (recordAt g a q).firstOut = true → (recordAt g a q).zone ≠ b.zone := by
  simp only [receivesMark, Bool.and_eq_true, bne_iff_ne, beq_iff_eq, Bool.not_eq_true', ← Bool.not_eq_true, anyOther_iff, anyRecord_iff,
    marksZone_iff, blocksZone_iff, not_exists, not_and, and_assoc, ne_eq]

/-! ## A SNAPSHOT (R13, R18) -/

/-- An entry is flagged and stands in a state that may carry the mark (R18 step 2). -/
abbrev Flagged (es : Tab Entry) (p : Point) : Prop := (es.get p).firstOut = true ∧ (es.get p).state.standing = true

/-- The record of an entry takes the mark: flagged, and neither a record of another station nor a lower flagged entry has
the mark of its zone (R18). -/
def takesMark (g : Gat) (st : Addr) (es : Tab Entry) (p : Point) : Bool :=
  decide (Flagged es p ∧ (∀ a q, a ≠ st → (recordAt g a q).firstOut = true → (recordAt g a q).zone ≠ (es.get p).zone)
    ∧ ∀ q, q < p → Flagged es q → (es.get q).zone ≠ (es.get p).zone)

theorem takesMark_iff (g : Gat) (st : Addr) (es : Tab Entry) (p : Point) :
    takesMark g st es p = true ↔
      Flagged es p ∧ (∀ a q, a ≠ st → (recordAt g a q).firstOut = true → (recordAt g a q).zone ≠ (es.get p).zone)
        ∧ ∀ q, q < p → Flagged es q → (es.get q).zone ≠ (es.get p).zone := decide_eq_true_iff

/-- The copy while a SNAPSHOT's marks are settled: the points of `done` have had their turn. -/
abbrev MarksSettled (g : Gat) (st : Addr) (es : Tab Entry) (done : List Point) (g' : Gat) : Prop :=
  ∀ a q, recordAt g' a q =
    if a = st then { entryRecord (recordAt g st q) (es.get q) with firstOut := (decide (q ∈ done) && takesMark g st es q) }
    else recordAt g a q

/-- Among the turns that come before a point's are exactly those of the lower points. -/
theorem mem_before_iff {done todo : List Point} {p : Point} (h : indices = done ++ p :: todo) (q : Point) : q ∈ done ↔ q < p := by
  have sorted : (done ++ p :: todo).Pairwise (· < ·) := by rw [← h]; decide
  obtain ⟨-, hrest, hbefore⟩ := List.pairwise_append.1 sorted
  have after := (List.pairwise_cons.1 hrest).1
  constructor
  · exact fun hq => hbefore q hq p (List.mem_cons_self ..)
  · intro hlt
    have hq : q ∈ done ++ p :: todo := h ▸ mem_indices q
    rcases List.mem_append.1 hq with hd | hc
    · exact hd
    · rcases List.mem_cons.1 hc with rfl | ht
      · exact absurd hlt (lt_irrefl _)
      · exact absurd (after q ht) (not_lt_of_gt hlt)

/-- While the lower points have had their turns, a record of the zone holds the mark exactly when the point may not take
it. -/
theorem marked_before_iff {g g' : Gat} {st : Addr} {es : Tab Entry} {done todo : List Point} {p : Point}
    (h : indices = done ++ p :: todo) (hg : MarksSettled g st es done g') :
    (∃ a q, (recordAt g' a q).firstOut = true ∧ (recordAt g' a q).zone = (es.get p).zone) ↔
      ¬ ((∀ a q, a ≠ st → (recordAt g a q).firstOut = true → (recordAt g a q).zone ≠ (es.get p).zone)
          ∧ ∀ q, q < p → Flagged es q → (es.get q).zone ≠ (es.get p).zone) := by
  constructor
  · rintro ⟨a, q, hmark, hzone⟩ ⟨others, lower⟩
    rw [hg a q] at hmark hzone
    by_cases ha : a = st
    · simp only [if_pos ha, Bool.and_eq_true, decide_eq_true_eq] at hmark hzone
      exact lower q ((mem_before_iff h q).1 hmark.1) ((takesMark_iff ..).1 hmark.2).1 hzone
    · simp only [if_neg ha] at hmark hzone
      exact others a q ha hmark hzone
  · intro hnot
    by_contra none
    have others : ∀ a q, a ≠ st → (recordAt g a q).firstOut = true → (recordAt g a q).zone ≠ (es.get p).zone := by
      intro a q ha hmark hzone
      exact none ⟨a, q, by simpa [hg a q, ha] using hmark, by simpa [hg a q, ha] using hzone⟩
    refine hnot ⟨others, fun q => ?_⟩
    induction q using WellFoundedLT.induction with
    | ind q lower =>
      intro hlt hfl hz
      have takes : takesMark g st es q = true := (takesMark_iff ..).2
        ⟨hfl, fun a r ha hm => hz ▸ others a r ha hm, fun r hr hr' => hz ▸ lower r hr (hr.trans hlt) hr'⟩
      exact none ⟨st, q, by simp [hg st q, (mem_before_iff h q).2 hlt, takes], by simpa [hg st q, entryRecord] using hz⟩

/-- One turn of step 2 of R18. -/
theorem settleMark_settles {g g' : Gat} {st : Addr} {es : Tab Entry} {done todo : List Point} {p : Point}
    (h : indices = done ++ p :: todo) (hg : MarksSettled g st es done g') :
    MarksSettled g st es (done ++ [p]) (settleMark st es g' p) := by
  have turn : ((es.get p).firstOut && (es.get p).state.standing && !anyRecord (marksZone (es.get p).zone) g') = takesMark g st es p := by
    rw [Bool.eq_iff_iff, takesMark_iff]
    simp only [Bool.and_eq_true, Bool.not_eq_true', ← Bool.not_eq_true, anyRecord_iff, marksZone_iff, marked_before_iff h hg, not_not]
  have new : p ∉ done := fun hp => lt_irrefl _ ((mem_before_iff h p).1 hp)
  intro a q
  unfold settleMark
  dsimp only
  rw [turn]
  cases takes : takesMark g st es p with
  | true =>
    rw [if_pos rfl, recordAt_setRecord, hg st p, hg a q]
    by_cases ha : a = st
    · by_cases hq : q = p
      · subst hq; simp [ha, takes]
      · simp [ha, hq]
    · simp [ha]
  | false =>
    rw [if_neg Bool.false_ne_true, hg a q]
    by_cases hq : q = p
    · subst hq; simp [takes]
    · simp [hq]

theorem foldl_settleMark_settles {g : Gat} {st : Addr} {es : Tab Entry} (todo : List Point) :
    ∀ (done : List Point) (g' : Gat), indices = done ++ todo → MarksSettled g st es done g' →
      MarksSettled g st es indices (todo.foldl (settleMark st es) g') := by
  induction todo with
  | nil => intro done g' h hg; rw [h, List.append_nil]; exact hg
  | cons p todo ih =>
    intro done g' h hg
    exact ih (done ++ [p]) _ (by rw [h]; simp) (settleMark_settles h hg)

/-- Every record after a SNAPSHOT: the source's have their entry's fields, the mark by R18 and the last cause by R13. -/
theorem recordAt_applySnapshot (st : Addr) (es : Tab Entry) (g : Gat) (a : Addr) (q : Point) :
    recordAt (applySnapshot st es g) a q =
      if a = st then
        snapshotCause (recordAt g st q) { entryRecord (recordAt g st q) (es.get q) with firstOut := takesMark g st es q }
      else recordAt g a q := by
  have start : MarksSettled g st es [] (g.set st (.ofFn fun p => entryRecord ((g.get st).get p) (es.get p))) := by
    intro a q
    rw [recordAt_set, Tab.get_ofFn]
    by_cases ha : a = st <;> simp [ha, entryRecord, recordAt]
  have settled := foldl_settleMark_settles indices [] _ rfl start
  unfold applySnapshot
  dsimp only
  rw [recordAt_set, Tab.get_ofFn]
  by_cases ha : a = st
  · simp only [if_pos ha, settled st q, if_true, mem_indices]; rfl
  · simp only [if_neg ha, settled a q]

theorem get_applySnapshot_of_ne {st a : Addr} (es : Tab Entry) (g : Gat) (h : a ≠ st) : (applySnapshot st es g).get a = g.get a := by
  refine Tab.ext_get fun q => ?_
  have := recordAt_applySnapshot st es g a q
  rwa [if_neg h] at this

theorem snapshotCause_eq (old new : GatRecord) :
    snapshotCause old new = { new with lastCause := if recordChanged old new then .snapshot else new.lastCause } := by
  unfold snapshotCause; split <;> rfl

/-! ## One mark per zone (R14) -/

/-- A copy whose marked records were marked in the same zone before, and stand, keeps R14. -/
theorem MarksHold.of_marks {g g' : Gat} (hg : MarksHold g)
    (h : ∀ a p, (recordAt g' a p).firstOut = true →
      (recordAt g a p).firstOut = true ∧ (recordAt g' a p).zone = (recordAt g a p).zone ∧ (recordAt g' a p).state.standing = true) :
    MarksHold g' := by
  obtain ⟨-, one⟩ := hg
  refine ⟨fun a p hm => ?_, fun a p a' p' hm hm' hz => ?_⟩
  · obtain ⟨-, -, stands⟩ := h a p hm
    exact (standing_iff _).1 stands
  obtain ⟨old, zone, -⟩ := h a p hm
  obtain ⟨old', zone', -⟩ := h a' p' hm'
  exact one a p a' p' old old' (by rw [← zone, ← zone', hz])

/-- A standing record that is given the mark of a zone where no record has it keeps R14. -/
theorem MarksHold.mark {g : Gat} (hg : MarksHold g) (st : Addr) (p : Point) {r : GatRecord} (stands : r.state.standing = true)
    (quiet : ∀ a q, (recordAt g a q).firstOut = true → (recordAt g a q).zone ≠ r.zone) : MarksHold (setRecord g st p r) := by
  obtain ⟨standing, one⟩ := hg
  refine ⟨fun a q => ?_, fun a q a' q' => ?_⟩
  · rw [recordAt_setRecord]
    split
    · exact fun _ => (standing_iff _).1 stands
    · exact standing a q
  · rw [recordAt_setRecord, recordAt_setRecord]
    split <;> split <;> rename_i here there
    · exact fun _ _ _ => ⟨here.1.trans there.1.symm, here.2.trans there.2.symm⟩
    · exact fun _ hm hz => absurd hz.symm (quiet _ _ hm)
    · exact fun hm _ hz => absurd hz (quiet _ _ hm)
    · exact one a q a' q'

theorem marksHold_claimStatus (f : CopyStatus → CopyStatus) (n : JournalRecord) (st : Addr) {s : State} (hg : MarksHold s.gat) :
    MarksHold (claimStatus f n st s).gat := by
  refine hg.of_marks fun a p => ?_
  rw [recordAt_claimStatus]
  have stands : (recordAt s.gat a p).firstOut = true → (recordAt s.gat a p).state.standing = true := fun hm => (standing_iff _).2 (hg.1 a p hm)
  split <;> exact fun hm => ⟨hm, rfl, stands hm⟩

/-- The copy with the carried fields of a STATE, before the first-out evaluation, keeps R14: a mark is only lost (R16). -/
theorem marksHold_carried (st : Addr) (b : StateBody) {g : Gat} (hg : MarksHold g) :
    MarksHold (setRecord g st b.point (carried (recordAt g st b.point) b)) := by
  refine hg.of_marks fun a p => ?_
  rw [recordAt_setRecord]
  split
  · rename_i here
    obtain ⟨rfl, rfl⟩ := here
    intro hm
    simp only [carried, Bool.and_eq_true, beq_iff_eq] at hm
    exact ⟨hm.1.1, hm.2, hm.1.2⟩
  · exact fun hm => ⟨hm, rfl, (standing_iff _).2 (hg.1 a p hm)⟩

theorem marksHold_applyState (st : Addr) (b : StateBody) {g : Gat} (hg : MarksHold g) : MarksHold (applyState st b g) := by
  unfold applyState
  dsimp only
  split
  · rename_i receives
    obtain ⟨-, alert, -, quiet⟩ := (receivesMark_iff _ _ _ _ _).1 receives
    exact (marksHold_carried st b hg).mark st b.point (by simp [carried, alert, SeqState.standing]) quiet
  · exact marksHold_carried st b hg

theorem marksHold_applySnapshot (st : Addr) (es : Tab Entry) {g : Gat} (hg : MarksHold g) : MarksHold (applySnapshot st es g) := by
  have own : ∀ q, ((recordAt (applySnapshot st es g) st q).firstOut = true →
        Flagged es q ∧ (∀ a r, a ≠ st → (recordAt g a r).firstOut = true → (recordAt g a r).zone ≠ (es.get q).zone)
          ∧ ∀ r, r < q → Flagged es r → (es.get r).zone ≠ (es.get q).zone)
      ∧ (recordAt (applySnapshot st es g) st q).state = (es.get q).state ∧ (recordAt (applySnapshot st es g) st q).zone = (es.get q).zone := by
    intro q
    rw [recordAt_applySnapshot, if_pos rfl, snapshotCause_eq]
    exact ⟨(takesMark_iff ..).1, rfl, rfl⟩
  have other : ∀ a q, a ≠ st → recordAt (applySnapshot st es g) a q = recordAt g a q := fun a q ha => by
    rw [recordAt_applySnapshot, if_neg ha]
  obtain ⟨standing, one⟩ := hg
  refine ⟨fun a q hm => ?_, fun a q a' q' hm hm' hz => ?_⟩
  · by_cases ha : a = st
    · subst ha
      obtain ⟨takes, state, -⟩ := own q
      obtain ⟨⟨-, stands⟩, -⟩ := takes hm
      rw [state]; exact (standing_iff _).1 stands
    · rw [other a q ha] at hm ⊢; exact standing a q hm
  · by_cases ha : a = st <;> by_cases ha' : a' = st
    · subst ha ha'
      obtain ⟨takes, -, zone⟩ := own q
      obtain ⟨takes', -, zone'⟩ := own q'
      obtain ⟨flagged, -, lower⟩ := takes hm
      obtain ⟨flagged', -, lower'⟩ := takes' hm'
      rw [zone, zone'] at hz
      rcases lt_trichotomy q q' with hlt | heq | hgt
      · exact absurd hz (lower' q hlt flagged)
      · exact ⟨rfl, heq⟩
      · exact absurd hz.symm (lower q' hgt flagged')
    · subst ha
      obtain ⟨takes, -, zone⟩ := own q
      obtain ⟨-, others, -⟩ := takes hm
      rw [other a' q' ha'] at hm' hz
      exact absurd (hz.symm.trans zone) (others a' q' ha' hm')
    · subst ha'
      obtain ⟨takes, -, zone⟩ := own q'
      obtain ⟨-, others, -⟩ := takes hm'
      rw [other a q ha] at hm hz
      exact absurd (hz.trans zone) (others a q ha hm)
    · rw [other a q ha] at hm hz; rw [other a' q' ha'] at hm' hz
      exact one a q a' q' hm hm' hz

end Sys2Proof.Machine
end

section
/-! The meaning of each command as `exec` gives it, and what a command keeps whether its event arises or not. -/
namespace Sys2Proof.Machine

theorem exec_readStart (s : State) : exec .readStart s = arise s.readMayStart (fun s => s.setLoader { s.loader with load := .reading }) s := rfl
theorem exec_readComplete (image : List Byte) (s : State) :
    exec (.readComplete image) s = if imageComplete image then arise s.reading (finishRead image) s else .refused .illFormed := rfl
theorem exec_tick (points : BitVec 16) (buttons : ButtonLevels) (s : State) :
    exec (.tick points buttons) s = arise s.tickMayBeTaken (takeTick points buttons) s := rfl
theorem exec_countdownExpiry (p : Point) (s : State) :
    exec (.countdownExpiry p) s = arise (s.qualifiesNext p) (fun s => settleIdleWait (qualify p s)) s := rfl
theorem exec_drainTimerExpiry (s : State) : exec .drainTimerExpiry s = arise s.drainDue (fun s => settleIdleWait (drainStep s)) s := rfl
theorem exec_debounce (b : Button) (s : State) :
    exec (.debounce b) s = arise (s.debouncesNext b) (fun s => settleIdleWait (debounce b s)) s := rfl
theorem exec_beginFrame (s : State) : exec .beginFrame s = execBeginFrame s := rfl
theorem exec_loseContention (s : State) : exec .loseContention s = execLoseContention s := rfl
theorem exec_winContention (s : State) : exec .winContention s = execWinContention s := rfl
theorem exec_transmitError (s : State) : exec .transmitError s = execTransmitError s := rfl
theorem exec_idleWaitExpiry (s : State) : exec .idleWaitExpiry s = execIdleWaitExpiry s := rfl
theorem exec_frameCompletion (s : State) : exec .frameCompletion s = execFrameCompletion s := rfl
theorem exec_frameReceived (bytes : List Byte) (s : State) : exec (.frameReceived bytes) s =
    if frameComplete bytes then arise s.receives (fun s => settleIdleWait (receiveFrame bytes s)) s else .refused .illFormed := rfl
theorem exec_frameAbandoned (reason : AbandonReason) (s : State) :
    exec (.frameAbandoned reason) s = arise s.receives (abandonFrame reason) s := rfl
theorem exec_addressClashHalt (s : State) : exec .addressClashHalt s = arise s.clashHalts (enterHalted .addressClash) s := rfl
theorem exec_loopbackPassage (s : State) :
    exec .loopbackPassage s = arise s.passing.isSome (fun s => settleIdleWait (passLooped s)) s := rfl
theorem exec_delivery (cls : FrameClass) (s : State) : exec cls.delivery s = deliver cls s := by cases cls <;> rfl
theorem exec_heartbeatTimerExpiry (s : State) :
    exec .heartbeatTimerExpiry s = arise s.heartbeatExpires (fun s => settleIdleWait (beatHeart s)) s := rfl
theorem exec_silenceTimerExpiry (st : Addr) (s : State) :
    exec (.silenceTimerExpiry st) s = arise (s.silenceExpires st) (declareAbsent st) s := rfl
theorem exec_resyncTimerExpiry (st : Addr) (s : State) :
    exec (.resyncTimerExpiry st) s = arise (s.resyncExpires st) (fun s => settleIdleWait (resyncExpired st s)) s := rfl
theorem exec_replayTimerExpiry (st : Addr) (s : State) :
    exec (.replayTimerExpiry st) s = arise (s.replayExpires st) (fun s => settleIdleWait (claimReplay st s)) s := rfl
theorem exec_joinWindowExpiry (s : State) :
    exec .joinWindowExpiry s = arise s.joinWindowExpires (fun s => settleIdleWait (freshStart (closeJoin s))) s := rfl
theorem exec_probeTimerExpiry (s : State) :
    exec .probeTimerExpiry s = arise s.probeExpires (fun s => settleIdleWait (placeProbe s)) s := rfl
theorem exec_markTimerExpiry (s : State) :
    exec .markTimerExpiry s = arise s.markExpires (fun s => settleIdleWait (markExpired s)) s := rfl
theorem exec_stageTimerExpiry (s : State) : exec .stageTimerExpiry s = arise s.stageExpires fadeHorn s := rfl
theorem exec_chimeTimerExpiry (s : State) : exec .chimeTimerExpiry s = arise s.chimeExpires endChime s := rfl
theorem exec_logrdyChange (high : Bool) (s : State) :
    exec (.logrdyChange high) s = .next (beginRecord (s.setPins { s.pins with logrdyHigh := high })) := rfl
theorem exec_recordDeparture (s : State) : exec .recordDeparture s = arise s.jnl.inProgress.isSome departRecord s := rfl
theorem exec_coldStart_resetLow (s : State) : exec (.coldStart .resetLow) s = .next (coldState true s) := rfl
theorem exec_coldStart_powerOn (straps : BitVec 4) (s : State) :
    exec (.coldStart (.powerOn straps)) s = .next (beginLoading straps (coldState false s)) := rfl
theorem exec_resetRelease (straps : BitVec 4) (s : State) :
    exec (.resetRelease straps) s = arise s.pins.resetLow (beginLoading straps) s := rfl
theorem exec_millisecond (s : State) : exec .millisecond s = arise (!s.pins.resetLow) (fun s => s.setTmb s.tmb.advance) s := rfl
theorem exec_idleGap (s : State) : exec .idleGap s = arise s.gapMayComplete completeGap s := rfl

/-- What the effect of an event keeps, the command keeps, whether the event arises or not. -/
theorem arise_keeps {P : State → Prop} {cond : Bool} {f : State → State} {s t : State} (hs : P s) (hf : cond = true → P (f s))
    (h : arise cond f s = .next t) : P t := by
  unfold arise at h
  cases h
  cases cond with
  | true => exact hf rfl
  | false => exact hs

/-- What every command keeps, every step keeps: a step is the front command on the state with the queue's rest. -/
theorem step_keeps {P : State → Prop} (hpending : ∀ (s : State) (rest : List Instr), P s → P (s.setPending rest))
    (hexec : ∀ (c : Instr) (s t : State), P s → exec c s = .next t → P t) {s t : State} (hs : P s) (h : step s = .next t) : P t := by
  unfold step at h
  split at h
  · cases h; exact hs
  · exact hexec _ _ _ (hpending s _ hs) h

end Sys2Proof.Machine
end

section
/-! R14 through every command: which commands touch the copy, and that what they do to it keeps one mark per zone. -/
namespace Sys2Proof.Machine

/-! ## The stages of a delivery -/

theorem marksHold_beginWait (st : Addr) {s : State} (hg : MarksHold s.gat) : MarksHold (beginWait st s).gat :=
  marksHold_claimStatus _ _ _ (by simpa using hg)

theorem marksHold_streamHeard (st : Addr) (c : SeqNo) (b : Body) {s : State} (hg : MarksHold s.gat) :
    MarksHold (streamHeard st c b s).gat := by
  unfold streamHeard
  dsimp only
  split
  · exact marksHold_beginWait st (by simpa using hg)
  · simpa using hg

theorem marksHold_joinHeard (st : Addr) (c : SeqNo) (mask : BitVec 16) {s : State} (hg : MarksHold s.gat) :
    MarksHold (joinHeard st c mask s).gat := by
  unfold joinHeard
  dsimp only
  split
  · simp only [considerReplay_frame, claimSnapshot_frame]
    exact marksHold_claimStatus _ _ _ (by simpa using hg)
  · simpa using hg

theorem marksHold_peerHeard (f : Frame) {s : State} (hg : MarksHold s.gat) : MarksHold (peerHeard f s).gat := by
  unfold peerHeard
  dsimp only
  have start : MarksHold (restartSilence f.src s).gat := by simpa using hg
  split
  · exact hg
  · cases f.body with
    | join mask => exact marksHold_joinHeard _ _ _ start
    | snapshot es => simpa using hg
    | _ => exact marksHold_streamHeard _ _ _ start

theorem marksHold_mbuStage (e : RxEntry) {s : State} (hg : MarksHold s.gat) : MarksHold (mbuStage e s).gat := by
  unfold mbuStage
  split
  · simpa using marksHold_peerHeard e.frame hg
  · simpa using hg

theorem marksHold_gtuStage (f : Frame) {s : State} (hg : MarksHold s.gat) : MarksHold (gtuStage f s).gat := by
  unfold gtuStage
  cases f.body with
  | state b => simpa [gtuState] using marksHold_applyState f.src b hg
  | snapshot es => simpa [gtuSnapshot] using marksHold_applySnapshot f.src es hg
  | join mask => exact marksHold_claimStatus _ _ _ hg
  | _ => exact hg

theorem marksHold_deliver (cls : FrameClass) {s t : State} (hg : MarksHold s.gat) (h : deliver cls s = .next t) : MarksHold t.gat := by
  cases hd : s.deliverable cls with
  | none => rw [deliver_none hd] at h; cases h; exact hg
  | some e =>
    rw [deliver_some hd] at h
    cases h
    simpa [deliverStages] using marksHold_gtuStage e.frame (marksHold_mbuStage e hg)

theorem marksHold_declareAbsent (st : Addr) {s : State} (hg : MarksHold s.gat) : MarksHold (declareAbsent st s).gat :=
  marksHold_claimStatus _ _ _ (by simpa using hg)

theorem marksHold_resyncExpired (st : Addr) {s : State} (hg : MarksHold s.gat) : MarksHold (resyncExpired st s).gat := by
  unfold resyncExpired
  split
  · simpa using hg
  · exact marksHold_declareAbsent st hg

theorem marksHold_cold : MarksHold (.fill (.fill .cold)) := by
  have unmarked : ∀ a p, (recordAt (.fill (.fill .cold)) a p).firstOut ≠ true := fun a p => by simp [GatRecord.cold]
  exact ⟨fun a p hm => absurd hm (unmarked a p), fun a p _ _ hm => absurd hm (unmarked a p)⟩

/-! ## The commands -/

/-- The commands that may change a record of the copy: a cold start, the deliveries, and the two expiries that may declare
a peer absent. -/
def touchesCopy : Instr → Bool
  | .coldStart _ => true
  | .deliverTimeMark => true
  | .deliverState => true
  | .deliverAck => true
  | .deliverReset => true
  | .deliverSnapshot => true
  | .deliverReplay => true
  | .deliverResyncRequest => true
  | .deliverJoin => true
  | .deliverHeartbeat => true
  | .silenceTimerExpiry _ => true
  | .resyncTimerExpiry _ => true
  | _ => false

/-- An event whose effect leaves the copy alone. -/
theorem arise_keeps_gat {cond : Bool} {f : State → State} {s t : State} (hf : (f s).gat = s.gat) (h : arise cond f s = .next t) :
    t.gat = s.gat := arise_keeps (P := fun t => t.gat = s.gat) rfl (fun _ => hf) h

/-- No other command touches the copy. -/
theorem exec_keeps_gat {c : Instr} (hc : touchesCopy c = false) {s t : State} (h : exec c s = .next t) : t.gat = s.gat := by
  cases c with
  | readStart => rw [exec_readStart] at h; exact arise_keeps_gat rfl h
  | readComplete image =>
    rw [exec_readComplete] at h
    split at h
    · refine arise_keeps_gat ?_ h
      unfold finishRead
      (repeat' split) <;> simp
    · cases h
  | tick points buttons => rw [exec_tick] at h; exact arise_keeps_gat (by simp) h
  | countdownExpiry p => rw [exec_countdownExpiry] at h; exact arise_keeps_gat (by simp) h
  | drainTimerExpiry => rw [exec_drainTimerExpiry] at h; exact arise_keeps_gat (by simp) h
  | debounce b => rw [exec_debounce] at h; exact arise_keeps_gat (by simp) h
  | beginFrame => rw [exec_beginFrame] at h; unfold execBeginFrame at h; split at h <;> cases h <;> simp
  | loseContention => rw [exec_loseContention] at h; unfold execLoseContention at h; split at h <;> cases h <;> simp
  | winContention => rw [exec_winContention] at h; unfold execWinContention at h; split at h <;> cases h <;> simp
  | transmitError => rw [exec_transmitError] at h; unfold execTransmitError at h; split at h <;> cases h <;> simp
  | idleWaitExpiry => rw [exec_idleWaitExpiry] at h; unfold execIdleWaitExpiry at h; split at h <;> cases h <;> simp
  | frameCompletion => rw [exec_frameCompletion] at h; unfold execFrameCompletion at h; split at h <;> cases h <;> simp
  | frameReceived bytes =>
    rw [exec_frameReceived] at h
    split at h
    · exact arise_keeps_gat (by simp) h
    · cases h
  | frameAbandoned reason =>
    rw [exec_frameAbandoned] at h
    refine arise_keeps_gat ?_ h
    rcases abandonFrame_spec reason s with e | e <;> simp [e, completeGap]
  | addressClashHalt => rw [exec_addressClashHalt] at h; exact arise_keeps_gat (by simp) h
  | loopbackPassage => rw [exec_loopbackPassage] at h; exact arise_keeps_gat (by simp) h
  | heartbeatTimerExpiry => rw [exec_heartbeatTimerExpiry] at h; exact arise_keeps_gat (by simp) h
  | replayTimerExpiry st => rw [exec_replayTimerExpiry] at h; exact arise_keeps_gat (by simp) h
  | joinWindowExpiry => rw [exec_joinWindowExpiry] at h; exact arise_keeps_gat (by simp) h
  | probeTimerExpiry => rw [exec_probeTimerExpiry] at h; exact arise_keeps_gat (by simp) h
  | markTimerExpiry => rw [exec_markTimerExpiry] at h; exact arise_keeps_gat (by simp) h
  | stageTimerExpiry => rw [exec_stageTimerExpiry] at h; exact arise_keeps_gat (by simp) h
  | chimeTimerExpiry => rw [exec_chimeTimerExpiry] at h; exact arise_keeps_gat (by simp) h
  | logrdyChange high => rw [exec_logrdyChange] at h; cases h; simp
  | recordDeparture => rw [exec_recordDeparture] at h; exact arise_keeps_gat (by simp) h
  | resetRelease straps => rw [exec_resetRelease] at h; exact arise_keeps_gat rfl h
  | millisecond => rw [exec_millisecond] at h; exact arise_keeps_gat rfl h
  | idleGap => rw [exec_idleGap] at h; exact arise_keeps_gat (by simp [completeGap]) h
  | _ => cases hc

/-- Every command keeps R14. -/
theorem marksHold_exec {c : Instr} {s t : State} (hg : MarksHold s.gat) (h : exec c s = .next t) : MarksHold t.gat := by
  cases hc : touchesCopy c with
  | false => rw [exec_keeps_gat hc h]; exact hg
  | true =>
    cases c with
    | coldStart cause => cases cause <;> cases h <;> exact marksHold_cold
    | deliverTimeMark => exact marksHold_deliver _ hg h
    | deliverState => exact marksHold_deliver _ hg h
    | deliverAck => exact marksHold_deliver _ hg h
    | deliverReset => exact marksHold_deliver _ hg h
    | deliverSnapshot => exact marksHold_deliver _ hg h
    | deliverReplay => exact marksHold_deliver _ hg h
    | deliverResyncRequest => exact marksHold_deliver _ hg h
    | deliverJoin => exact marksHold_deliver _ hg h
    | deliverHeartbeat => exact marksHold_deliver _ hg h
    | silenceTimerExpiry st =>
      rw [exec_silenceTimerExpiry] at h
      exact arise_keeps (P := fun t => MarksHold t.gat) hg (fun _ => marksHold_declareAbsent st hg) h
    | resyncTimerExpiry st =>
      rw [exec_resyncTimerExpiry] at h
      exact arise_keeps (P := fun t => MarksHold t.gat) hg (fun _ => by simpa using marksHold_resyncExpired st hg) h
    | _ => cases hc

/-- Settles O49: every write of the copy keeps R14, and the other commands leave the copy alone. -/
theorem stepsKeepOneMarkPerZone : Obligations.StepsKeepOneMarkPerZone := by
  intro s s' hg h
  exact step_keeps (P := fun t => MarksHold t.gat) (fun _ _ hs => hs) (fun _ _ _ hs he => marksHold_exec hs he) hg h

end Sys2Proof.Machine
end

section
/-! LOADING: which commands act in it (R5, R28, R64, R93, R95, R125, R135, R152, R165, R167, R180), that no command but a
cold start leads back to it (R96), and the cold-start values themselves. -/
namespace Sys2Proof.Machine

/-! ## The station mode through the shared operations -/

@[simp] theorem changeMode_mode (m : Mode) (c : ModeCause) (s : State) : (changeMode m c s).mbu.mode = m := by
  simp [changeMode]

@[simp] theorem enterIsolated_mode (s : State) : (enterIsolated s).mbu.mode = .isolated := by
  unfold enterIsolated; dsimp only; split <;> simp

@[simp] theorem enterHalted_mode (c : HaltCause) (s : State) : (enterHalted c s).mbu.mode = .halted c := by
  simp [enterHalted]

@[simp] theorem loadAccepted_mode (c : StationConfig) (s : State) : (loadAccepted c s).mbu.mode = .joining := by
  simp [loadAccepted]

@[simp] theorem loadRefused_mode (s : State) : (loadRefused s).mbu.mode = .halted .configFault := by
  simp [loadRefused]

@[simp] theorem takeTick_resetLow (points : BitVec 16) (buttons : ButtonLevels) (s : State) :
    (takeTick points buttons s).pins.resetLow = s.pins.resetLow := by
  unfold takeTick; dsimp only; split <;> rfl

theorem exitIsolated_not_loading (s : State) : (exitIsolated s).mbu.mode ≠ .loading := by
  unfold exitIsolated
  dsimp only
  split
  · split <;> simp
  · simp
  · simp

theorem afterDiscard_not_loading {s : State} (hm : s.mbu.mode ≠ .loading) : (afterDiscard s).mbu.mode ≠ .loading := by
  unfold afterDiscard
  dsimp only
  split
  · simp
  · simpa using hm

theorem chargeAttempt_not_loading (c : Candidate) {s : State} (hm : s.mbu.mode ≠ .loading) : (chargeAttempt c s).mbu.mode ≠ .loading := by
  unfold chargeAttempt
  cases c with
  | markSlot =>
    dsimp only
    split
    · exact hm
    · split
      · exact hm
      · exact afterDiscard_not_loading (by simpa using hm)
  | heartbeatSlot =>
    dsimp only
    split
    · exact hm
    · split
      · exact hm
      · split
        · exact hm
        · exact afterDiscard_not_loading hm
  | queueHead =>
    dsimp only
    split
    · exact hm
    · split
      · exact hm
      · exact afterDiscard_not_loading (by simpa using hm)

theorem completeFrame_not_loading (c : Candidate) (f : Frame) {s : State} (hm : s.mbu.mode ≠ .loading) :
    (completeFrame c f s).mbu.mode ≠ .loading := by
  unfold completeFrame
  dsimp only
  split
  · exact exitIsolated_not_loading _
  · simpa using hm

theorem receiveFrame_not_loading (bytes : List Byte) {s : State} (hm : s.mbu.mode ≠ .loading) :
    (receiveFrame bytes s).mbu.mode ≠ .loading := by
  unfold receiveFrame
  dsimp only
  split
  · exact hm
  · split
    · unfold clashFound
      dsimp only
      split
      · simp
      · exact hm
    · split
      · exact hm
      · simpa using hm

theorem mbuStage_not_loading (e : RxEntry) {s : State} (hm : s.mbu.mode ≠ .loading) : (mbuStage e s).mbu.mode ≠ .loading := by
  unfold mbuStage
  split
  · simpa using hm
  · unfold ownHeard
    (repeat' split) <;> simp [hm]

/-! ## No command but a cold start leads back to LOADING -/

/-- LOADING has ended, and RESET is high. -/
abbrev PastLoading (s : State) : Prop := s.mbu.mode ≠ .loading ∧ s.pins.resetLow = false

theorem arise_pastLoading {cond : Bool} {f : State → State} {s t : State} (hs : PastLoading s) (hf : PastLoading (f s))
    (h : arise cond f s = .next t) : PastLoading t := arise_keeps hs (fun _ => hf) h

theorem pastLoading_deliver (cls : FrameClass) {s t : State} (hs : PastLoading s) (h : deliver cls s = .next t) : PastLoading t := by
  obtain ⟨hm, hr⟩ := hs
  cases hd : s.deliverable cls with
  | none => rw [deliver_none hd] at h; cases h; exact ⟨hm, hr⟩
  | some e =>
    rw [deliver_some hd] at h
    cases h
    simpa [PastLoading, deliverStages, hr] using mbuStage_not_loading e hm

/-- Once LOADING has ended it does not come back but by a cold start (R96, R180). -/
theorem pastLoading_exec {c : Instr} (hc : ∀ cause, c ≠ .coldStart cause) {s t : State} (hs : PastLoading s) (h : exec c s = .next t) :
    PastLoading t := by
  obtain ⟨hm, hr⟩ := hs
  cases c with
  | coldStart cause => exact absurd rfl (hc cause)
  | readStart => rw [exec_readStart] at h; exact arise_pastLoading ⟨hm, hr⟩ ⟨hm, hr⟩ h
  | readComplete image =>
    rw [exec_readComplete] at h
    split at h
    · refine arise_pastLoading ⟨hm, hr⟩ ?_ h
      unfold finishRead
      split
      · simp [PastLoading, hr]
      · split
        · exact ⟨hm, hr⟩
        · simp [PastLoading, hr]
    · cases h
  | tick points buttons => rw [exec_tick] at h; exact arise_pastLoading ⟨hm, hr⟩ (by simp [PastLoading, hm, hr]) h
  | countdownExpiry p => rw [exec_countdownExpiry] at h; exact arise_pastLoading ⟨hm, hr⟩ (by simp [PastLoading, hm, hr]) h
  | drainTimerExpiry => rw [exec_drainTimerExpiry] at h; exact arise_pastLoading ⟨hm, hr⟩ (by simp [PastLoading, hm, hr]) h
  | debounce b => rw [exec_debounce] at h; exact arise_pastLoading ⟨hm, hr⟩ (by simp [PastLoading, hm, hr]) h
  | beginFrame => rw [exec_beginFrame] at h; unfold execBeginFrame at h; split at h <;> cases h <;> simp [PastLoading, hm, hr]
  | loseContention => rw [exec_loseContention] at h; unfold execLoseContention at h; split at h <;> cases h <;> simp [PastLoading, hm, hr]
  | winContention => rw [exec_winContention] at h; unfold execWinContention at h; split at h <;> cases h <;> simp [PastLoading, hm, hr]
  | transmitError =>
    rw [exec_transmitError] at h
    unfold execTransmitError at h
    split at h
    · cases h; simpa [PastLoading, failAttempt, hr] using chargeAttempt_not_loading _ (s := s.setLine .receiving) hm
    · cases h; exact ⟨hm, hr⟩
  | idleWaitExpiry =>
    rw [exec_idleWaitExpiry] at h
    unfold execIdleWaitExpiry at h
    split at h
    · cases h; simpa [PastLoading, hr] using chargeAttempt_not_loading _ hm
    · cases h; exact ⟨hm, hr⟩
  | frameCompletion =>
    rw [exec_frameCompletion] at h
    unfold execFrameCompletion at h
    split at h
    · cases h; simpa [PastLoading, hr] using completeFrame_not_loading _ _ hm
    all_goals cases h; exact ⟨hm, hr⟩
  | frameReceived bytes =>
    rw [exec_frameReceived] at h
    split at h
    · exact arise_pastLoading ⟨hm, hr⟩ (by simpa [PastLoading, hr] using receiveFrame_not_loading bytes hm) h
    · cases h
  | frameAbandoned reason =>
    rw [exec_frameAbandoned] at h
    refine arise_pastLoading ⟨hm, hr⟩ ?_ h
    rcases abandonFrame_spec reason s with e | e <;> simp [e, completeGap, PastLoading, hm, hr]
  | addressClashHalt => rw [exec_addressClashHalt] at h; exact arise_pastLoading ⟨hm, hr⟩ (by simp [PastLoading, hr]) h
  | loopbackPassage => rw [exec_loopbackPassage] at h; exact arise_pastLoading ⟨hm, hr⟩ (by simp [PastLoading, hm, hr]) h
  | deliverTimeMark => exact pastLoading_deliver _ ⟨hm, hr⟩ h
  | deliverState => exact pastLoading_deliver _ ⟨hm, hr⟩ h
  | deliverAck => exact pastLoading_deliver _ ⟨hm, hr⟩ h
  | deliverReset => exact pastLoading_deliver _ ⟨hm, hr⟩ h
  | deliverSnapshot => exact pastLoading_deliver _ ⟨hm, hr⟩ h
  | deliverReplay => exact pastLoading_deliver _ ⟨hm, hr⟩ h
  | deliverResyncRequest => exact pastLoading_deliver _ ⟨hm, hr⟩ h
  | deliverJoin => exact pastLoading_deliver _ ⟨hm, hr⟩ h
  | deliverHeartbeat => exact pastLoading_deliver _ ⟨hm, hr⟩ h
  | heartbeatTimerExpiry => rw [exec_heartbeatTimerExpiry] at h; exact arise_pastLoading ⟨hm, hr⟩ (by simp [PastLoading, hm, hr]) h
  | silenceTimerExpiry st => rw [exec_silenceTimerExpiry] at h; exact arise_pastLoading ⟨hm, hr⟩ (by simp [PastLoading, hm, hr]) h
  | resyncTimerExpiry st => rw [exec_resyncTimerExpiry] at h; exact arise_pastLoading ⟨hm, hr⟩ (by simp [PastLoading, hm, hr]) h
  | replayTimerExpiry st => rw [exec_replayTimerExpiry] at h; exact arise_pastLoading ⟨hm, hr⟩ (by simp [PastLoading, hm, hr]) h
  | joinWindowExpiry => rw [exec_joinWindowExpiry] at h; exact arise_pastLoading ⟨hm, hr⟩ (by simp [PastLoading, hm, hr]) h
  | probeTimerExpiry => rw [exec_probeTimerExpiry] at h; exact arise_pastLoading ⟨hm, hr⟩ (by simp [PastLoading, hm, hr]) h
  | markTimerExpiry => rw [exec_markTimerExpiry] at h; exact arise_pastLoading ⟨hm, hr⟩ (by simp [PastLoading, hm, hr]) h
  | stageTimerExpiry => rw [exec_stageTimerExpiry] at h; exact arise_pastLoading ⟨hm, hr⟩ (by simp [PastLoading, hm, hr]) h
  | chimeTimerExpiry => rw [exec_chimeTimerExpiry] at h; exact arise_pastLoading ⟨hm, hr⟩ (by simp [PastLoading, hm, hr]) h
  | logrdyChange high => rw [exec_logrdyChange] at h; cases h; simp [PastLoading, hm, hr]
  | recordDeparture => rw [exec_recordDeparture] at h; exact arise_pastLoading ⟨hm, hr⟩ (by simp [PastLoading, hm, hr]) h
  | resetRelease straps => rw [exec_resetRelease, arise_false hr] at h; cases h; exact ⟨hm, hr⟩
  | millisecond => rw [exec_millisecond] at h; exact arise_pastLoading ⟨hm, hr⟩ ⟨hm, hr⟩ h
  | idleGap => rw [exec_idleGap] at h; exact arise_pastLoading ⟨hm, hr⟩ (by simp [completeGap, PastLoading, hm, hr]) h

/-! ## LOADING -/

/-- Once LOADING has ended `LoadingHolds` asks nothing. -/
theorem PastLoading.loadingHolds {t : State} (ht : PastLoading t) : LoadingHolds t := by
  obtain ⟨hm, hr⟩ := ht
  exact ⟨fun h => absurd (hr.symm.trans h) Bool.false_ne_true, fun h => absurd h hm⟩

/-- While RESET is held low the station is in LOADING, so a station past LOADING has RESET high. -/
theorem LoadingHolds.pastLoading {s : State} (hs : LoadingHolds s) (hm : s.mbu.mode ≠ .loading) : PastLoading s := by
  refine ⟨hm, ?_⟩
  by_contra hr
  obtain ⟨mbu, -, -⟩ := hs.1 (by simpa using hr)
  exact hm (by rw [mbu]; rfl)

/-- The commands whose events arise in LOADING: the cold start and its release, the reads, the counts and the ticks, and the
level of LOGRDY. -/
def actsInLoading : Instr → Bool
  | .coldStart _ => true
  | .readStart => true
  | .readComplete _ => true
  | .tick _ _ => true
  | .logrdyChange _ => true
  | .resetRelease _ => true
  | .millisecond => true
  | _ => false

/-- With the Bus Interface and the Journal Unit at their cold-start values, no other event arises in LOADING (R5, R63, R93,
R124, R136, R164, R177). -/
theorem exec_inert_of_loading {c : Instr} (hc : actsInLoading c = false) {s t : State} (hm : s.mbu.mode = .loading) (hbus : s.bus = .cold)
    (hjnl : s.jnl = .cold) (h : exec c s = .next t) : t = s := by
  have runs : s.runs = false := by simp [State.runs, hm, Mode.runs]
  have onLine : s.onLine = false := by simp [State.onLine, runs]
  have line : s.bus.line = .seeking := by rw [hbus]; rfl
  have own : s.bus.line.own = none := by rw [line]; rfl
  have contender : s.contender = none := by simp [State.contender, line]
  have undelivered : ∀ cls, deliver cls s = .next t → t = s := fun cls hd => by
    rw [deliver_none (by simp [State.deliverable, hbus, Bif.cold])] at hd; cases hd; rfl
  have silent : ∀ {cond : Bool} {f : State → State}, cond = false → arise cond f s = .next t → t = s := fun hf ha => by
    rw [arise_false hf] at ha; cases ha; rfl
  cases c with
  | countdownExpiry p => rw [exec_countdownExpiry] at h; exact silent (by simp [State.qualifiesNext, runs]) h
  | drainTimerExpiry => rw [exec_drainTimerExpiry] at h; exact silent (by simp [State.drainDue, runs]) h
  | debounce b => rw [exec_debounce] at h; exact silent (by simp [State.debouncesNext, runs]) h
  | beginFrame =>
    have none : s.beginsWith = none := by simp [State.beginsWith, onLine]
    rw [exec_beginFrame, execBeginFrame, none] at h; cases h; rfl
  | loseContention => rw [exec_loseContention, execLoseContention, contender] at h; cases h; rfl
  | winContention => rw [exec_winContention, execWinContention, contender] at h; cases h; rfl
  | transmitError => rw [exec_transmitError, execTransmitError, own] at h; cases h; rfl
  | idleWaitExpiry =>
    have none : s.idleWaitCharges = none := by simp [State.idleWaitCharges, State.idleWaitRuns, onLine]
    rw [exec_idleWaitExpiry, execIdleWaitExpiry, none] at h; cases h; rfl
  | frameCompletion => rw [exec_frameCompletion, execFrameCompletion, line] at h; cases h; rfl
  | frameReceived bytes =>
    rw [exec_frameReceived] at h
    split at h
    · exact silent (by simp [State.receives, onLine]) h
    · cases h
  | frameAbandoned reason => rw [exec_frameAbandoned] at h; exact silent (by simp [State.receives, onLine]) h
  | addressClashHalt => rw [exec_addressClashHalt] at h; exact silent (by simp [State.clashHalts, runs]) h
  | loopbackPassage => rw [exec_loopbackPassage] at h; exact silent (by simp [State.passing, hbus, Bif.cold]) h
  | deliverTimeMark => exact undelivered _ h
  | deliverState => exact undelivered _ h
  | deliverAck => exact undelivered _ h
  | deliverReset => exact undelivered _ h
  | deliverSnapshot => exact undelivered _ h
  | deliverReplay => exact undelivered _ h
  | deliverResyncRequest => exact undelivered _ h
  | deliverJoin => exact undelivered _ h
  | deliverHeartbeat => exact undelivered _ h
  | heartbeatTimerExpiry => rw [exec_heartbeatTimerExpiry] at h; exact silent (by simp [State.heartbeatExpires, runs]) h
  | silenceTimerExpiry st => rw [exec_silenceTimerExpiry] at h; exact silent (by simp [State.silenceExpires, runs]) h
  | resyncTimerExpiry st => rw [exec_resyncTimerExpiry] at h; exact silent (by simp [State.resyncExpires, runs]) h
  | replayTimerExpiry st => rw [exec_replayTimerExpiry] at h; exact silent (by simp [State.replayExpires, runs]) h
  | joinWindowExpiry => rw [exec_joinWindowExpiry] at h; exact silent (by simp [State.joinWindowExpires, runs]) h
  | probeTimerExpiry => rw [exec_probeTimerExpiry] at h; exact silent (by simp [State.probeExpires, State.isolated, hm]) h
  | markTimerExpiry => rw [exec_markTimerExpiry] at h; exact silent (by simp [State.markExpires, runs]) h
  | stageTimerExpiry => rw [exec_stageTimerExpiry] at h; exact silent (by simp [State.stageExpires, runs]) h
  | chimeTimerExpiry => rw [exec_chimeTimerExpiry] at h; exact silent (by simp [State.chimeExpires, runs]) h
  | recordDeparture => rw [exec_recordDeparture] at h; exact silent (by simp [hjnl, Jnl.cold]) h
  | idleGap => rw [exec_idleGap] at h; exact silent (by simp [State.gapMayComplete, onLine]) h
  | _ => cases hc

theorem loadingHolds_coldState (low : Bool) (s : State) : LoadingHolds (coldState low s) := by
  refine ⟨fun _ => ⟨rfl, rfl, rfl⟩, fun _ => ⟨rfl, rfl, rfl, rfl, rfl, rfl, rfl, rfl, rfl, rfl, rfl, rfl, fun a => ?_⟩⟩
  simp [coldState, State.reset, State.member, Mbu.cold, Member.cold]

/-- The release of a held RESET: the straps become the address, and the entry there SELF (R183, R95). -/
theorem beginLoading_spec (straps : BitVec 4) (s : State) :
    beginLoading straps s =
      { s with pins := { s.pins with resetLow := false, straps := straps }, loader := { s.loader with address := strapAddress straps }
               mbu := { s.mbu with members := (beginLoading straps s).mbu.members } }
    ∧ ∀ a, (beginLoading straps s).member a = if a = strapAddress straps then { s.member a with presence := .self } else s.member a := by
  refine ⟨rfl, fun a => ?_⟩
  simp only [beginLoading, State.setMember, State.member, State.setMbu_mbu, Tab.get_set]
  split
  · rename_i h; rw [h]; rfl
  · rfl

/-- The release samples the straps and makes one entry SELF; the rest of what LOADING starts from stays (R183, R95). -/
theorem loadingHolds_beginLoading (straps : BitVec 4) {s : State} (hs : LoadingHolds s) (hm : s.mbu.mode = .loading) :
    LoadingHolds (beginLoading straps s) := by
  obtain ⟨config, fiu, psq, gat, bus, pnl, hrn, jnl, mark, heartbeat, join, window, members⟩ := hs.2 hm
  refine ⟨fun h => absurd h Bool.false_ne_true, fun _ =>
    ⟨config, fiu, psq, gat, bus, pnl, hrn, jnl, mark, heartbeat, join, window, fun a => ?_⟩⟩
  obtain ⟨-, member⟩ := beginLoading_spec straps s
  rw [member]
  split <;> rw [members a]

theorem loadingHolds_coldStart {cause : ColdStartCause} {s t : State} (h : exec (.coldStart cause) s = .next t) : LoadingHolds t := by
  cases cause with
  | resetLow => rw [exec_coldStart_resetLow] at h; cases h; exact loadingHolds_coldState _ _
  | powerOn straps =>
    rw [exec_coldStart_powerOn] at h
    cases h
    exact loadingHolds_beginLoading straps (loadingHolds_coldState _ _) rfl

/-- The cold-start values through the commands that act in LOADING. -/
theorem loadingHolds_exec_of_loading {c : Instr} (hc : actsInLoading c = true) {s t : State} (hs : LoadingHolds s) (hm : s.mbu.mode = .loading)
    (h : exec c s = .next t) : LoadingHolds t := by
  obtain ⟨held, values⟩ := hs
  have released : (!s.pins.resetLow) = true → s.pins.resetLow ≠ true := by simp
  have reading : s.loadingRuns = true → s.pins.resetLow ≠ true := by
    simp only [State.loadingRuns, Bool.and_eq_true]; exact fun h => released h.1
  cases c with
  | coldStart cause => exact loadingHolds_coldStart h
  | resetRelease straps =>
    rw [exec_resetRelease] at h
    exact arise_keeps ⟨held, values⟩ (fun _ => loadingHolds_beginLoading straps ⟨held, values⟩ hm) h
  | readStart =>
    rw [exec_readStart] at h
    refine arise_keeps ⟨held, values⟩ (fun may => ?_) h
    simp only [State.readMayStart, Bool.and_eq_true] at may
    exact ⟨fun low => absurd low (reading may.1.1), values⟩
  | readComplete image =>
    rw [exec_readComplete] at h
    split at h
    · refine arise_keeps ⟨held, values⟩ (fun may => ?_) h
      simp only [State.reading, Bool.and_eq_true] at may
      have high : s.pins.resetLow = false := by simpa using reading may.1
      unfold finishRead
      split
      · exact PastLoading.loadingHolds (by simp [PastLoading, high])
      · split
        · exact ⟨fun low => absurd low (reading may.1), values⟩
        · exact PastLoading.loadingHolds (by simp [PastLoading, high])
    · cases h
  | tick points buttons =>
    rw [exec_tick] at h
    refine arise_keeps ⟨held, values⟩ (fun may => ?_) h
    simp only [State.tickMayBeTaken, Bool.and_eq_true] at may
    have high : s.pins.resetLow ≠ true := fun low => by
      obtain ⟨-, tmb, -⟩ := held low
      rw [tmb] at may
      exact absurd may.1 Bool.false_ne_true
    have idle : takeTick points buttons s = (s.setTmb { s.tmb with tickDue := false }).setPins { s.pins with points := points, buttons := buttons } := by
      unfold takeTick
      dsimp only
      rw [if_neg (by simp [State.runs, hm, Mode.runs])]
      rfl
    rw [idle]
    exact ⟨fun low => absurd low high, values⟩
  | millisecond =>
    rw [exec_millisecond] at h
    exact arise_keeps ⟨held, values⟩ (fun may => ⟨fun low => absurd low (released may), values⟩) h
  | logrdyChange high =>
    have stopped : beginRecord (s.setPins { s.pins with logrdyHigh := high }) = s.setPins { s.pins with logrdyHigh := high } := by
      unfold beginRecord; rw [if_neg (by simp [State.recordMayBegin, hm, Mode.loggerRuns])]
    rw [exec_logrdyChange, stopped] at h
    cases h
    exact ⟨held, values⟩
  | _ => cases hc

theorem loadingHolds_exec {c : Instr} {s t : State} (hs : LoadingHolds s) (h : exec c s = .next t) : LoadingHolds t := by
  by_cases hm : s.mbu.mode = .loading
  · cases hc : actsInLoading c with
    | true => exact loadingHolds_exec_of_loading hc hs hm h
    | false =>
      obtain ⟨-, -, -, -, bus, -, -, jnl, -⟩ := hs.2 hm
      rw [exec_inert_of_loading hc hm bus jnl h]
      exact hs
  · by_cases hc : ∃ cause, c = .coldStart cause
    · obtain ⟨cause, rfl⟩ := hc
      exact loadingHolds_coldStart h
    · exact (pastLoading_exec (fun cause e => hc ⟨cause, e⟩) (hs.pastLoading hm) h).loadingHolds

/-- Settles O57: in LOADING the commands that act keep the cold-start values and the others are inert, and no command but a
cold start, which sets them, leads back to LOADING. -/
theorem stepsKeepLoading : Obligations.StepsKeepLoading := by
  intro s s' hs h
  exact step_keeps (fun _ _ hs => hs) (fun _ _ _ hs he => loadingHolds_exec hs he) hs h

end Sys2Proof.Machine
end

section
/-! The cold start and the reset state: every unit at its cold-start values, and what the steps keep holding there. -/
namespace Sys2Proof.Machine

/-- Power-on is the held cold start and its release in one (R180). -/
theorem exec_powerOn_eq_release (straps : BitVec 4) (s : State) :
    exec (.coldStart (.powerOn straps)) s = exec (.resetRelease straps) (coldState true s) := rfl

/-- Settles O3: the cold-start values are those of the unit definitions, and the release is `beginLoading_spec`. -/
theorem coldStartAndReleaseBeginLoading : Obligations.ColdStartAndReleaseBeginLoading := by
  refine ⟨fun s => ⟨coldState true s, rfl, rfl, rfl, rfl, rfl, rfl, fun p => ?_, rfl, rfl, rfl, fun p => ?_, rfl, fun st p => ?_, rfl,
    fun a => ?_, rfl, rfl, rfl, rfl, fun b => ?_, rfl, rfl, rfl, rfl, rfl, rfl, fun straps => exec_powerOn_eq_release straps s⟩,
    fun s straps a ha => ⟨fun low => ?_, fun high => ?_⟩⟩
  · exact Tab.get_fill _ p
  · exact Tab.get_fill _ p
  · exact recordAt_fill _ st p
  · exact Tab.get_fill _ a
  · cases b <;> rfl
  · have address : strapAddress straps = a := Fin.ext ha.symm
    obtain ⟨state, member⟩ := beginLoading_spec straps s
    rw [address] at state member
    refine ⟨beginLoading straps s, arise_true low _ _, state, address, ?_, fun b hb => ?_⟩
    · rw [member, if_pos rfl]
    · rw [member, if_neg hb]
  · exact arise_false high _ _

/-- Settles O60: at the reset state the collections are empty, the timers stopped and every record cold. -/
theorem resetStateKeepsAll : Obligations.ResetStateKeepsAll := by
  have point : ∀ p, State.reset.psq.points.get p = .cold := fun p => Tab.get_fill _ p
  have fieldPoint : ∀ p, State.reset.fieldPoint p = .cold := fun p => Tab.get_fill _ p
  have unowed : State.reset.claimWaits = false := by decide
  have noneHeldBack : State.reset.heldBackWaits = false := by decide
  have loading : LoadingHolds State.reset := loadingHolds_coldState true State.reset
  have stopped : State.reset.idleWaitRuns = false := by decide
  refine ⟨marksHold_cold, fun p => ?_, fun p => ?_, ⟨by decide, fun p => ⟨Nat.zero_le 1, fun _ => rfl⟩⟩,
    ⟨by decide, fun h => ?_, fun _ h => ?_⟩, by decide, by decide, ⟨fun p => ?_, fun _ => rfl⟩, by decide, ?_, by decide, rfl, loading⟩
  · rw [point]; decide
  · rw [fieldPoint, State.point, point]; rfl
  · exact absurd (unowed.symm.trans h) Bool.false_ne_true
  · exact absurd (noneHeldBack.symm.trans h) Bool.false_ne_true
  · have threshold : (State.reset.conf.points.get p).threshold.val = 0 := by
      show ((Tab.fill _ : Tab PointConfig).get p).threshold.val = 0
      rw [Tab.get_fill]; rfl
    rw [fieldPoint, State.point, point]
    unfold ShelvingHolds
    rw [if_pos threshold]
    decide
  · constructor
    · rintro ⟨start, toward, h⟩; cases h
    · exact fun h => absurd (stopped.symm.trans h) Bool.false_ne_true

end Sys2Proof.Machine
end

section
/-! What the notices of a claim and of an application do to the horn and the journal, one rule per operation (R6 to R8, R19
to R24, R156, R157, R159, R163, R171). -/
namespace Sys2Proof.Machine

/-! ## Equality of states unit by unit -/

theorem State.eq_of_units {s t : State} (pending : t.pending = s.pending) (pins : t.pins = s.pins) (tmb : t.tmb = s.tmb)
    (loader : t.loader = s.loader) (config : t.config = s.config) (fiu : t.fiu = s.fiu) (psq : t.psq = s.psq) (gat : t.gat = s.gat)
    (bus : t.bus = s.bus) (mbu : t.mbu = s.mbu) (pnl : t.pnl = s.pnl) (hrn : t.hrn = s.hrn) (jnl : t.jnl = s.jnl) : t = s := by
  cases s; cases t
  cases pending; cases pins; cases tmb; cases loader; cases config; cases fiu; cases psq; cases gat; cases bus; cases mbu; cases pnl
  cases hrn; cases jnl
  rfl

theorem State.conf_congr {s t : State} (config : t.config = s.config) : t.conf = s.conf := by
  unfold State.conf; rw [config]

@[simp] theorem State.member_setMember (s : State) (a b : Addr) (m : Member) :
    (s.setMember a m).member b = if b = a then m else s.member b := Tab.get_set _ _ _ _

/-! ## Records offered one after another -/

theorem offered_nil {s t : State} (h : t.jnl = s.jnl) : Offered s t [] := by
  unfold Offered; rw [h]; simp

/-- Records offered after others are offered with them. -/
theorem Offered.append {s u t : State} {l₁ l₂ : List JournalRecord} (pins : u.pins = s.pins) (h₁ : Offered s u l₁) (h₂ : Offered u t l₂) :
    Offered s t (l₁ ++ l₂) := by
  obtain ⟨journal₁, dropped₁, begun₁⟩ := h₁
  obtain ⟨journal₂, dropped₂, begun₂⟩ := h₂
  have length₁ : u.jnl.journal.length = s.jnl.journal.length + min (64 - s.jnl.journal.length) l₁.length := by
    rw [journal₁, List.length_append, List.length_take]
  have nil₁ : l₁ = [] ↔ l₁.length = 0 := List.length_eq_zero_iff.symm
  have nil₂ : l₂ = [] ↔ l₂.length = 0 := List.length_eq_zero_iff.symm
  refine ⟨?_, ?_, ?_⟩
  · rw [journal₂, length₁, journal₁, List.append_assoc, List.take_append]
    congr 3
    omega
  · rw [dropped₂, dropped₁, length₁]
    simp only [List.length_append, List.append_eq_nil_iff, nil₁, nil₂]
    split_ifs <;> omega
  · rw [pins] at begun₂
    cases l₁ with
    | nil =>
      rw [if_pos (Or.inl rfl)] at begun₁
      rw [begun₁] at begun₂
      exact begun₂
    | cons r l₁ =>
      by_cases busy : s.jnl.inProgress ≠ none ∨ s.pins.logrdyHigh = true
      · rw [if_pos (Or.inr busy)] at begun₁
        rw [begun₁, if_pos (Or.inr busy)] at begun₂
        rw [begun₂, if_pos (Or.inr busy)]
      · have idle : ∀ (r : JournalRecord) l, ¬ (r :: l = [] ∨ s.jnl.inProgress ≠ none ∨ s.pins.logrdyHigh = true) := fun r l => by
          simpa using busy
        rw [if_neg (idle _ _)] at begun₁
        obtain ⟨x, rest, hx⟩ : ∃ x rest, u.jnl.journal = x :: rest := by
          refine List.exists_cons_of_length_pos ?_
          rw [length₁, List.length_cons]; omega
        have begun : u.jnl.inProgress ≠ none := by rw [begun₁, hx]; simp
        rw [if_pos (Or.inr (Or.inl begun))] at begun₂
        rw [begun₂, begun₁, List.cons_append, if_neg (idle _ _), journal₂, hx]
        rfl

/-- The TRANSITION records of an application, offered in the order of its points (R23). -/
theorem foldl_journalNotice_offered (old : Gat) (st : Addr) (count : Count) (points : List Point) (s : State)
    (runs : s.mbu.mode.loggerRuns = true) :
    Offered s (points.foldl (journalNotice old st count) s)
      ((points.filter fun p => TransitionDue s.conf (recordAt old st p) (recordAt s.gat st p)).map fun p =>
        transitionOf st p (recordAt s.gat st p) count) := by
  induction points generalizing s with
  | nil => exact offered_nil rfl
  | cons p points ih =>
    have due : transitionDue s.conf.journalMask (recordAt old st p) (recordAt s.gat st p) = true ↔
        TransitionDue s.conf (recordAt old st p) (recordAt s.gat st p) := by
      simp [transitionDue, TransitionDue, inMask, or_assoc]
    have rest := ih (journalNotice old st count s p) (by simpa using runs)
    have conf : (journalNotice old st count s p).conf = s.conf := State.conf_congr (by simp)
    rw [List.foldl_cons, List.filter_cons]
    simp only [journalNotice_frame, conf] at rest
    by_cases h : TransitionDue s.conf (recordAt old st p) (recordAt s.gat st p)
    · have first : Offered s (journalNotice old st count s p) [transitionOf st p (recordAt s.gat st p) count] := by
        unfold journalNotice
        dsimp only
        rw [if_pos (due.2 h)]
        exact offerRecord_spec _ s runs
      rw [if_pos (decide_eq_true h), List.map_cons]
      exact first.append (by simp) rest
    · have none : journalNotice old st count s p = s := by
        unfold journalNotice
        dsimp only
        rw [if_neg (fun hd => h (due.1 hd))]
      rw [if_neg (by rw [decide_eq_true_iff]; exact h)]
      rw [none] at rest ⊢
      exact rest

/-! ## A claim on a block (R6, R7, R8, R24) -/

/-- A claim touches the copy, the horn and the journal. -/
theorem claimStatus_eq (f : CopyStatus → CopyStatus) (n : JournalRecord) (st : Addr) (s : State) :
    claimStatus f n st s =
      { s with gat := (claimStatus f n st s).gat, hrn := (claimStatus f n st s).hrn, jnl := (claimStatus f n st s).jnl } := by
  refine State.eq_of_units ?_ ?_ ?_ ?_ ?_ ?_ ?_ ?_ ?_ ?_ ?_ ?_ ?_ <;> simp

/-- A claim that changes a record is reviewed and journaled once (R24). -/
theorem claimStatus_changes {f : CopyStatus → CopyStatus} (n : JournalRecord) {st : Addr} {s : State} (runs : s.mbu.mode.loggerRuns = true)
    (h : ∃ p, f (recordAt s.gat st p).status ≠ (recordAt s.gat st p).status) :
    Reviewed s.conf (claimStatus f n st s).gat s.hrn (claimStatus f n st s).hrn ∧ Offered s (claimStatus f n st s) [n] := by
  have changes : restatusChanges f (s.gat.get st) = true := by
    simpa [restatusChanges, Tab.any_iff, recordAt] using h
  unfold claimStatus
  rw [if_pos changes]
  have review := reviewHorn_spec (s.setGat (s.gat.set st (restatus f (s.gat.get st))))
  have offer := offerRecord_spec n (reviewHorn (s.setGat (s.gat.set st (restatus f (s.gat.get st))))) (by simpa using runs)
  refine ⟨?_, ?_⟩
  · simp only [offerRecord_frame, reviewHorn_frame]
    exact review
  · simpa [Offered] using offer

/-- A claim that changes no record has no notice. -/
theorem claimStatus_keeps {f : CopyStatus → CopyStatus} (n : JournalRecord) {st : Addr} {s : State}
    (h : ∀ p, f (recordAt s.gat st p).status = (recordAt s.gat st p).status) : claimStatus f n st s = s := by
  have same : restatusChanges f (s.gat.get st) = false := (Tab.any_false _ _).2 fun p => by simpa [recordAt] using h p
  unfold claimStatus
  rw [if_neg (by simp [same])]

theorem afterStale_eq (c : CopyStatus) : c.afterStale = if c = .empty then .empty else .stale := by cases c <;> rfl
theorem afterLost_eq (c : CopyStatus) : c.afterLost = if c = .empty then .empty else .lost := by cases c <;> rfl
theorem afterStale_ne_iff (c : CopyStatus) : c.afterStale ≠ c ↔ c = .current ∨ c = .lost := by cases c <;> decide
theorem afterLost_ne_iff (c : CopyStatus) : c.afterLost ≠ c ↔ c = .current ∨ c = .stale := by cases c <;> decide
theorem afterStale_eq_self_iff (c : CopyStatus) : c.afterStale = c ↔ c = .empty ∨ c = .stale := by cases c <;> decide
theorem afterLost_eq_self_iff (c : CopyStatus) : c.afterLost = c ↔ c = .empty ∨ c = .lost := by cases c <;> decide

/-! ## The horn (R156, R157, R159) -/

theorem reviewHorn_eq (s : State) : reviewHorn s = s.setHrn (reviewHorn s).hrn := by
  refine State.eq_of_units ?_ ?_ ?_ ?_ ?_ ?_ ?_ ?_ ?_ ?_ ?_ ?_ ?_ <;> simp

theorem chimeClaim_eq (s : State) : chimeClaim s = s.setHrn (chimeClaim s).hrn := by
  refine State.eq_of_units ?_ ?_ ?_ ?_ ?_ ?_ ?_ ?_ ?_ ?_ ?_ ?_ ?_ <;> simp

@[simp] theorem alertStands_setHrn (s : State) (h : Hrn) : (s.setHrn h).alertStands = s.alertStands := rfl

@[simp] theorem alertStands_reviewHorn (s : State) : (reviewHorn s).alertStands = s.alertStands := by
  rw [reviewHorn_eq, alertStands_setHrn]

@[simp] theorem alertStands_chimeClaim (s : State) : (chimeClaim s).alertStands = s.alertStands := by
  rw [chimeClaim_eq, alertStands_setHrn]

@[simp] theorem setHrn_setHrn (s : State) (h h' : Hrn) : (s.setHrn h).setHrn h' = s.setHrn h' := rfl

/-- The tone is chosen from the copy where a priority stands in it, so a tone once chosen is chosen again. -/
@[simp] theorem chosenTone_setHrn {s : State} {h : Hrn} (tone : h.tone = s.chosenTone) : (s.setHrn h).chosenTone = s.chosenTone := by
  have eq : (s.setHrn h).chosenTone =
      if s.alertOfPriority 1 then s.conf.tone1 else if s.alertOfPriority 2 then s.conf.tone2
      else if s.alertOfPriority 3 then s.conf.tone3 else h.tone := rfl
  rw [eq, tone]
  unfold State.chosenTone
  split_ifs <;> rfl

/-- Two reviews of one copy are one. -/
theorem reviewHorn_idem (s : State) : reviewHorn (reviewHorn s) = reviewHorn s := by
  cases h : s.hrn.horn <;> cases ha : s.alertStands <;> simp [reviewHorn, h, ha]

/-- Two chime claims at one instant are one. -/
theorem chimeClaim_idem (s : State) : chimeClaim (chimeClaim s) = chimeClaim s := by
  cases h : s.hrn.horn <;> simp [chimeClaim, h]

/-- A chime claim leaves a SOUNDING horn alone (R157). -/
theorem chimeClaim_of_sounding {s : State} (h : s.hrn.horn = .sounding) : chimeClaim s = s := by
  simp [chimeClaim, h]

/-- A review before a chime claim and the review after it are together the one after it, unless the first ends a SOUNDING. -/
theorem review_chime_review {s : State} (h : s.hrn.horn = .sounding → s.alertStands = true) :
    reviewHorn (chimeClaim (reviewHorn s)) = reviewHorn (chimeClaim s) := by
  cases hh : s.hrn.horn <;> cases ha : s.alertStands <;> simp_all [reviewHorn, chimeClaim, State.timer, State.conf]

/-- Where the first review ends a SOUNDING, the chime follows and the review after it changes nothing. -/
theorem review_chime_of_ended {s : State} (h : s.hrn.horn = .sounding) (ha : s.alertStands = false) :
    reviewHorn (chimeClaim (reviewHorn s)) = chimeClaim (reviewHorn s) := by
  simp [reviewHorn, chimeClaim, h, ha]

/-! ## The notices of an application to the horn (R20 to R22, R163) -/

/-- The record has entered ALERT between two copies, in the horn mask (R20, R156). -/
abbrev EntersAlert (c : StationConfig) (old g : Gat) (st : Addr) (p : Point) : Prop :=
  (recordAt old st p).state ≠ .alert ∧ (recordAt g st p).state = .alert ∧ c.hornMask.getLsbD (recordAt g st p).zone.val = true

/-- The record has entered RETURNED between two copies, in the horn mask (R21, R157). -/
abbrev EntersReturned (c : StationConfig) (old g : Gat) (st : Addr) (p : Point) : Prop :=
  (recordAt old st p).state ≠ .returned ∧ (recordAt g st p).state = .returned ∧ c.hornMask.getLsbD (recordAt g st p).zone.val = true

/-- The notice of one record to the horn. -/
theorem hornNotice_eq (old : Gat) (st : Addr) (s : State) (p : Point) :
    hornNotice old st s p =
      if EntersAlert s.conf old s.gat st p then if InAlertSet s.conf s.gat st p then sound s else reviewHorn s
      else if EntersReturned s.conf old s.gat st p then chimeClaim s else s := by
  unfold hornNotice enteredAlert enteredReturned
  simp only [inAlertSet_iff, Bool.and_eq_true, bne_iff_ne, beq_iff_eq]
  by_cases alert : (recordAt old st p).state ≠ .alert ∧ (recordAt s.gat st p).state = .alert
  · obtain ⟨was, now⟩ := alert
    have unreturned : ¬ EntersReturned s.conf old s.gat st p := fun ⟨_, h, _⟩ => by rw [now] at h; cases h
    rw [if_pos ⟨was, now⟩, if_neg unreturned]
    by_cases masked : inMask s.conf.hornMask (recordAt s.gat st p).zone = true
    · have enters : EntersAlert s.conf old s.gat st p := ⟨was, now, masked⟩
      rw [if_pos masked, if_pos enters]
    · have unmasked : ¬ EntersAlert s.conf old s.gat st p := fun ⟨_, _, h⟩ => masked h
      rw [if_neg masked, if_neg unmasked]
  · have unalerted : ¬ EntersAlert s.conf old s.gat st p := fun ⟨was, now, _⟩ => alert ⟨was, now⟩
    rw [if_neg alert, if_neg unalerted]
    by_cases returned : (recordAt old st p).state ≠ .returned ∧ (recordAt s.gat st p).state = .returned
    · rw [if_pos returned]
      obtain ⟨was, now⟩ := returned
      by_cases masked : inMask s.conf.hornMask (recordAt s.gat st p).zone = true
      · have enters : EntersReturned s.conf old s.gat st p := ⟨was, now, masked⟩
        rw [if_pos masked, if_pos enters]
      · have unmasked : ¬ EntersReturned s.conf old s.gat st p := fun ⟨_, _, h⟩ => masked h
        rw [if_neg masked, if_neg unmasked]
    · have unreturned : ¬ EntersReturned s.conf old s.gat st p := fun ⟨was, now, _⟩ => returned ⟨was, now⟩
      rw [if_neg returned, if_neg unreturned]

theorem alertStands_of_mem {s : State} {a : Addr} {p : Point} (h : InAlertSet s.conf s.gat a p) : s.alertStands = true :=
  (alertStands_iff s).2 ⟨a, p, h⟩

/-- A sounded horn stays so through a review while the alert set is not empty. -/
theorem reviewHorn_sounded {s : State} {now : Millis} (stands : s.alertStands = true) (h : Sounded s.conf s.gat now s.hrn) :
    Sounded s.conf s.gat now (reviewHorn s).hrn := by
  obtain ⟨horn, ret, level, chime, -, stage⟩ := h
  have review : reviewHorn s = s.setHrn { s.hrn with tone := s.chosenTone } := by simp [reviewHorn, horn, stands]
  rw [review]
  exact ⟨horn, ret, level, chime, chosenTone_spec s, stage⟩

/-- What every turn of the notices to the horn leaves alone. -/
theorem hornNotice_same (old : Gat) (st : Addr) (s : State) (p : Point) :
    (hornNotice old st s p).conf = s.conf ∧ (hornNotice old st s p).gat = s.gat ∧ (hornNotice old st s p).tmb = s.tmb
      ∧ (hornNotice old st s p).alertStands = s.alertStands := by
  have conf : (hornNotice old st s p).conf = s.conf := State.conf_congr (by simp)
  have gat : (hornNotice old st s p).gat = s.gat := by simp
  exact ⟨conf, gat, by simp, by unfold State.alertStands; rw [conf, gat]⟩

/-- A sounded horn stays so through the notices of an application. -/
theorem foldl_hornNotice_sounded (old : Gat) (st : Addr) (points : List Point) {s : State} (stands : s.alertStands = true)
    (h : Sounded s.conf s.gat s.tmb.localCount s.hrn) :
    Sounded s.conf s.gat s.tmb.localCount (points.foldl (hornNotice old st) s).hrn := by
  induction points generalizing s with
  | nil => exact h
  | cons p points ih =>
    obtain ⟨conf, gat, tmb, same⟩ := hornNotice_same old st s p
    have turn : Sounded s.conf s.gat s.tmb.localCount (hornNotice old st s p).hrn := by
      rw [hornNotice_eq]
      split_ifs
      · exact sound_spec s
      · exact reviewHorn_sounded stands h
      · rw [chimeClaim_of_sounding h.1]; exact h
      · exact h
    have rest := ih (s := hornNotice old st s p) (by rw [same]; exact stands) (by rw [conf, gat, tmb]; exact turn)
    rw [conf, gat, tmb] at rest
    exact rest

/-- An entry of a record into the alert set leaves the horn sounded after all notices of the application (R156, R163). -/
theorem foldl_hornNotice_sounds (old : Gat) (st : Addr) {points : List Point} {s : State} {p : Point} (mem : p ∈ points)
    (enters : EntersAlert s.conf old s.gat st p) (set : InAlertSet s.conf s.gat st p) :
    Sounded s.conf s.gat s.tmb.localCount (points.foldl (hornNotice old st) s).hrn := by
  induction points generalizing s with
  | nil => cases mem
  | cons q points ih =>
    obtain ⟨conf, gat, tmb, same⟩ := hornNotice_same old st s q
    rw [List.foldl_cons, ← conf, ← gat, ← tmb]
    rcases List.mem_cons.1 mem with rfl | mem
    · refine foldl_hornNotice_sounded old st points (by rw [same]; exact alertStands_of_mem set) ?_
      rw [conf, gat, tmb, hornNotice_eq, if_pos enters, if_pos set]
      exact sound_spec s
    · exact ih mem (by rw [conf, gat]; exact enters) (by rw [conf, gat]; exact set)

theorem sounding_of_reviewHorn {s : State} (h : (reviewHorn s).hrn.horn = .sounding) : s.hrn.horn = .sounding := by
  cases hh : s.hrn.horn <;> cases ha : s.alertStands <;> simp_all [reviewHorn]

theorem sounding_of_chimeClaim {s : State} (h : (chimeClaim s).hrn.horn = .sounding) : s.hrn.horn = .sounding := by
  cases hh : s.hrn.horn <;> simp_all [chimeClaim]

theorem not_entersReturned_of_entersAlert {c : StationConfig} {old g : Gat} {st : Addr} {p : Point} (h : EntersAlert c old g st p) :
    ¬ EntersReturned c old g st p := fun h' => by
  obtain ⟨-, alert, -⟩ := h
  obtain ⟨-, returned, -⟩ := h'
  rw [alert] at returned; cases returned

/-- Without an entry into the alert set or into RETURNED, the review after the notices is the only one. -/
theorem review_foldl_of_no_chime (old : Gat) (st : Addr) {points : List Point} {s : State}
    (unsounded : ∀ p ∈ points, EntersAlert s.conf old s.gat st p → ¬ InAlertSet s.conf s.gat st p)
    (unchimed : ∀ p ∈ points, ¬ EntersReturned s.conf old s.gat st p) :
    reviewHorn (points.foldl (hornNotice old st) s) = reviewHorn s := by
  induction points generalizing s with
  | nil => rfl
  | cons p points ih =>
    obtain ⟨conf, gat, -, -⟩ := hornNotice_same old st s p
    have rest := ih (s := hornNotice old st s p) (by rw [conf, gat]; exact fun q hq => unsounded q (List.mem_cons_of_mem p hq))
      (by rw [conf, gat]; exact fun q hq => unchimed q (List.mem_cons_of_mem p hq))
    rw [List.foldl_cons, rest, hornNotice_eq, if_neg (unchimed p (List.mem_cons_self ..))]
    split_ifs with enters set
    · exact absurd set (unsounded p (List.mem_cons_self ..) enters)
    · exact reviewHorn_idem s
    · rfl

/-- With an entry into RETURNED and none into the alert set, the notices and the review come to one chime claim and the review
after it, unless a review among them ends a SOUNDING. -/
theorem review_foldl_of_chime (old : Gat) (st : Addr) {points : List Point} {s : State}
    (kept : s.hrn.horn = .sounding → s.alertStands = true)
    (unsounded : ∀ p ∈ points, EntersAlert s.conf old s.gat st p → ¬ InAlertSet s.conf s.gat st p)
    (chimed : ∃ p ∈ points, EntersReturned s.conf old s.gat st p) :
    reviewHorn (points.foldl (hornNotice old st) s) = reviewHorn (chimeClaim s) := by
  induction points generalizing s with
  | nil => obtain ⟨p, mem, -⟩ := chimed; cases mem
  | cons p points ih =>
    obtain ⟨conf, gat, -, same⟩ := hornNotice_same old st s p
    have unsounded' : ∀ q ∈ points, EntersAlert (hornNotice old st s p).conf old (hornNotice old st s p).gat st q →
        ¬ InAlertSet (hornNotice old st s p).conf (hornNotice old st s p).gat st q := by
      rw [conf, gat]; exact fun q hq => unsounded q (List.mem_cons_of_mem p hq)
    have later (kept' : (hornNotice old st s p).hrn.horn = .sounding → s.alertStands = true)
        (h : ∃ q ∈ points, EntersReturned s.conf old s.gat st q) :
        reviewHorn (points.foldl (hornNotice old st) (hornNotice old st s p)) = reviewHorn (chimeClaim (hornNotice old st s p)) :=
      ih (by rw [same]; exact kept') unsounded' (by rw [conf, gat]; exact h)
    obtain ⟨q, mem, returned⟩ := chimed
    rw [List.foldl_cons]
    have turn := hornNotice_eq old st s p
    split_ifs at turn with enters set chimes
    · exact absurd set (unsounded p (List.mem_cons_self ..) enters)
    · have mem : q ∈ points := (List.mem_cons.1 mem).resolve_left fun e => not_entersReturned_of_entersAlert enters (e ▸ returned)
      rw [later (fun h => kept (sounding_of_reviewHorn (turn ▸ h))) ⟨q, mem, returned⟩, turn, review_chime_review kept]
    · by_cases more : ∃ q ∈ points, EntersReturned s.conf old s.gat st q
      · rw [later (fun h => kept (sounding_of_chimeClaim (turn ▸ h))) more, turn, chimeClaim_idem]
      · rw [review_foldl_of_no_chime old st unsounded' (by rw [conf, gat]; exact fun q hq h => more ⟨q, hq, h⟩), turn]
    · have mem : q ∈ points := (List.mem_cons.1 mem).resolve_left fun e => chimes (e ▸ returned)
      rw [later (fun h => kept (turn ▸ h)) ⟨q, mem, returned⟩, turn]

/-- Where no record stands in the alert set, the first entry into ALERT ends a SOUNDING, and an entry into RETURNED of a
higher point then is a chime claim on the QUIET horn (R156, R157, R163). -/
theorem review_foldl_of_ended (old : Gat) (st : Addr) {points : List Point} {s : State} (sorted : points.Pairwise (· < ·))
    (sounding : s.hrn.horn = .sounding) (silent : s.alertStands = false)
    (ends : ∃ p ∈ points, ∃ q ∈ points, EntersAlert s.conf old s.gat st p ∧ EntersReturned s.conf old s.gat st q ∧ p < q) :
    reviewHorn (points.foldl (hornNotice old st) s) = chimeClaim (reviewHorn s) := by
  have unsounded : ∀ p, ¬ InAlertSet s.conf s.gat st p := fun p => (alertStands_false_iff s).1 silent st p
  induction points with
  | nil => obtain ⟨p, mem, -⟩ := ends; cases mem
  | cons p points ih =>
    obtain ⟨above, sorted⟩ := List.pairwise_cons.1 sorted
    obtain ⟨a, mem, b, mem', alert, returned, lt⟩ := ends
    have mem' : b ∈ points := by
      refine (List.mem_cons.1 mem').resolve_left fun e => ?_
      rcases List.mem_cons.1 mem with e' | mem
      · exact lt_irrefl _ (e ▸ e' ▸ lt)
      · exact lt_irrefl _ ((above a mem).trans (e ▸ lt))
    rw [List.foldl_cons]
    have turn := hornNotice_eq old st s p
    split_ifs at turn with enters set chimes
    · exact absurd set (unsounded p)
    · -- the first entry into ALERT: the horn goes QUIET, and the rest is `review_foldl_of_chime`
      have quiet : (reviewHorn s).hrn.horn ≠ .sounding := by simp [reviewHorn, sounding, silent]
      have gat : (reviewHorn s).gat = s.gat := by simp
      have conf : (reviewHorn s).conf = s.conf := State.conf_congr (by simp)
      rw [turn, review_foldl_of_chime old st (fun h => absurd h quiet) (by rw [conf, gat]; exact fun q _ _ => unsounded q)
        (by rw [conf, gat]; exact ⟨b, mem', returned⟩), review_chime_of_ended sounding silent]
    · have mem : a ∈ points := (List.mem_cons.1 mem).resolve_left fun e => enters (e ▸ alert)
      rw [turn, chimeClaim_of_sounding sounding]
      exact ih sorted ⟨a, mem, b, mem', alert, returned, lt⟩
    · have mem : a ∈ points := (List.mem_cons.1 mem).resolve_left fun e => enters (e ▸ alert)
      rw [turn]
      exact ih sorted ⟨a, mem, b, mem', alert, returned, lt⟩

/-- Where every entry into RETURNED is of a lower point than any entry into ALERT, the chime claims find the horn SOUNDING
and leave it alone; the reviews are one. -/
theorem review_foldl_of_sounding (old : Gat) (st : Addr) {points : List Point} {s : State} (sorted : points.Pairwise (· < ·))
    (sounding : s.hrn.horn = .sounding) (silent : s.alertStands = false)
    (ends : ¬ ∃ p ∈ points, ∃ q ∈ points, EntersAlert s.conf old s.gat st p ∧ EntersReturned s.conf old s.gat st q ∧ p < q) :
    reviewHorn (points.foldl (hornNotice old st) s) = reviewHorn s := by
  have unsounded : ∀ p, ¬ InAlertSet s.conf s.gat st p := fun p => (alertStands_false_iff s).1 silent st p
  induction points with
  | nil => rfl
  | cons p points ih =>
    obtain ⟨above, sorted⟩ := List.pairwise_cons.1 sorted
    have rest := ih sorted fun ⟨a, mem, b, mem', h⟩ => ends ⟨a, List.mem_cons_of_mem p mem, b, List.mem_cons_of_mem p mem', h⟩
    rw [List.foldl_cons]
    have turn := hornNotice_eq old st s p
    split_ifs at turn with enters set chimes
    · exact absurd set (unsounded p)
    · have gat : (reviewHorn s).gat = s.gat := by simp
      have conf : (reviewHorn s).conf = s.conf := State.conf_congr (by simp)
      rw [turn, review_foldl_of_no_chime old st (by rw [conf, gat]; exact fun q _ _ => unsounded q)
        (by rw [conf, gat]; exact fun q hq h => ends ⟨p, List.mem_cons_self .., q, List.mem_cons_of_mem p hq, enters, h, above q hq⟩),
        reviewHorn_idem]
    · rw [turn, chimeClaim_of_sounding sounding, rest]
    · rw [turn, rest]

/-! ## An application: the notices to the horn, the review, the journal (R163) -/

theorem reviewDue_iff (old new : GatRecord) : reviewDue old new = true ↔ ReviewDue old new := by
  simp [reviewDue, ReviewDue, or_assoc]

/-- The horn after an application: its notices, and the review where one is due. -/
theorem applicationNotices_hrn (old : Gat) (st : Addr) (points : List Point) (count : Count) (s : State) :
    ((∃ p ∈ points, ReviewDue (recordAt old st p) (recordAt s.gat st p)) →
      (applicationNotices old st points count s).hrn = (reviewHorn (points.foldl (hornNotice old st) s)).hrn)
    ∧ ((¬ ∃ p ∈ points, ReviewDue (recordAt old st p) (recordAt s.gat st p)) →
      (applicationNotices old st points count s).hrn = (points.foldl (hornNotice old st) s).hrn) := by
  have due : points.any (fun p => reviewDue (recordAt old st p) (recordAt s.gat st p)) = true ↔
      ∃ p ∈ points, ReviewDue (recordAt old st p) (recordAt s.gat st p) := by
    simp only [List.any_eq_true, reviewDue_iff]
  unfold applicationNotices
  dsimp only
  simp only [foldl_journalNotice_frame]
  exact ⟨fun h => by rw [if_pos (due.2 h)], fun h => by rw [if_neg fun hd => h (due.1 hd)]⟩

/-- The journal after an application (R23). -/
theorem applicationNotices_offered (old : Gat) (st : Addr) (points : List Point) (count : Count) (s : State)
    (runs : s.mbu.mode.loggerRuns = true) :
    Offered s (applicationNotices old st points count s)
      ((points.filter fun p => TransitionDue s.conf (recordAt old st p) (recordAt s.gat st p)).map fun p =>
        transitionOf st p (recordAt s.gat st p) count) := by
  unfold applicationNotices
  dsimp only
  have journal (u : State) (gat : u.gat = s.gat) (config : u.config = s.config) (mbu : u.mbu = s.mbu) (jnl : u.jnl = s.jnl) (pins : u.pins = s.pins) :
      Offered s (points.foldl (journalNotice old st count) u)
        ((points.filter fun p => TransitionDue s.conf (recordAt old st p) (recordAt s.gat st p)).map fun p =>
          transitionOf st p (recordAt s.gat st p) count) := by
    have offered := foldl_journalNotice_offered old st count points u (by rw [mbu]; exact runs)
    rw [State.conf_congr config, gat] at offered
    unfold Offered at offered ⊢
    rw [jnl, pins] at offered
    exact offered
  split <;> exact journal _ (by simp) (by simp) (by simp) (by simp) (by simp)

end Sys2Proof.Machine
end

section
/-! The end of a delivery and of a timer's command, and the expiry that declares a peer absent (R6, R78, R99, R106). -/
namespace Sys2Proof.Machine

theorem loggerRuns_of_runs {s : State} (runs : s.runs = true) : s.mbu.mode.loggerRuns = true := by
  cases h : s.mbu.mode <;> simp_all [State.runs, Mode.runs, Mode.loggerRuns]

/-- The idle-wait timer is settled against the timer as it stood, whatever else has changed (R78). -/
theorem IdleWaitSettled.of_timer {s u t : State} (timer : u.bus.idleWait = s.bus.idleWait) (h : IdleWaitSettled u t) : IdleWaitSettled s t := by
  unfold IdleWaitSettled at h ⊢
  rw [timer] at h
  exact h

theorem settleIdleWait_bus (s : State) :
    settleIdleWait s = { s with bus := { s.bus with idleWait := (settleIdleWait s).bus.idleWait } } := by
  obtain ⟨w, hw⟩ := settleIdleWait_eq s
  rw [hw]; rfl

/-- A peer declared absent: its entry is cleared, and its block, the horn and the journal take the LOST claim (R99). -/
theorem declareAbsent_eq (st : Addr) (s : State) :
    declareAbsent st s =
      { s with mbu := { s.mbu with members := s.mbu.members.set st (s.member st).gone }, gat := (declareAbsent st s).gat
               hrn := (declareAbsent st s).hrn, jnl := (declareAbsent st s).jnl } := by
  unfold declareAbsent claimLost
  rw [claimStatus_eq]
  rfl

theorem recordAt_declareAbsent (st : Addr) (s : State) (a : Addr) (p : Point) :
    recordAt (declareAbsent st s).gat a p =
      if a = st then { recordAt s.gat a p with status := if (recordAt s.gat a p).status = .empty then .empty else .lost }
      else recordAt s.gat a p := by
  simp only [declareAbsent, claimLost, recordAt_claimStatus, afterLost_eq, State.setMember_gat]

theorem get_declareAbsent_of_ne {st a : Addr} (s : State) (h : a ≠ st) : (declareAbsent st s).gat.get a = s.gat.get a := by
  simp only [declareAbsent, claimLost, claimStatus_gat, State.setMember_gat, Tab.get_set_of_ne _ _ _ _ h]

/-- The notices of a peer declared absent: a review and a STATION LOST record, where one of its records was not LOST yet. -/
theorem declareAbsent_notices (st : Addr) {s : State} (runs : s.mbu.mode.loggerRuns = true) :
    ((∃ p, (recordAt s.gat st p).status = .current ∨ (recordAt s.gat st p).status = .stale) →
      Reviewed s.conf (declareAbsent st s).gat s.hrn (declareAbsent st s).hrn
        ∧ Offered s (declareAbsent st s) [.stationLost st s.tmb.groupTime])
    ∧ ((∀ p, (recordAt s.gat st p).status = .empty ∨ (recordAt s.gat st p).status = .lost) →
      (declareAbsent st s).jnl = s.jnl ∧ (declareAbsent st s).hrn = s.hrn) := by
  constructor
  · rintro ⟨p, h⟩
    exact claimStatus_changes (s := s.setMember st (s.member st).gone) _ runs ⟨p, (afterLost_ne_iff _).2 h⟩
  · intro h
    have same : declareAbsent st s = s.setMember st (s.member st).gone :=
      claimStatus_keeps _ fun p => (afterLost_eq_self_iff _).2 (h p)
    rw [same]
    exact ⟨rfl, rfl⟩

/-- Settles O39: both expiries declare the peer absent; the resync timer's also settles the idle-wait timer. -/
theorem expiryDeclaresThePeerAbsent : Obligations.ExpiryDeclaresThePeerAbsent := by
  intro s st start toward command runs reached cause
  have eq := declareAbsent_eq st s
  have member : ∀ a, (declareAbsent st s).member a = if a = st then (s.member st).gone else s.member a := fun a => by
    rw [eq]; exact Tab.get_set _ _ _ _
  have records : ∀ p, recordAt (declareAbsent st s).gat st p =
      { recordAt s.gat st p with status := if (recordAt s.gat st p).status = .empty then .empty else .lost } := fun p => by
    rw [recordAt_declareAbsent, if_pos rfl]
  have others : ∀ a, a ≠ st → (declareAbsent st s).member a = s.member a ∧ (declareAbsent st s).gat.get a = s.gat.get a := fun a ha =>
    ⟨by rw [member, if_neg ha], get_declareAbsent_of_ne s ha⟩
  have own : (declareAbsent st s).member st = (s.member st).gone := by rw [member, if_pos rfl]
  obtain ⟨changes, keeps⟩ := declareAbsent_notices st (loggerRuns_of_runs runs)
  have expired : s.expired (.running start toward) = true := decide_eq_true reached
  rcases cause with ⟨rfl, presence, timer⟩ | ⟨rfl, sync, timer, attempts⟩
  · have expires : s.silenceExpires st = true := by
      simp [State.silenceExpires, runs, presence, timer, expired]
    have bus : (declareAbsent st s).bus = s.bus := by simp
    refine ⟨declareAbsent st s, ?_, fun _ => bus, nofun, ?_, own, others, records, changes, keeps⟩
    · rw [exec_silenceTimerExpiry, arise_true expires]
    · rw [eq]
  · have expires : s.resyncExpires st = true := by
      simp [State.resyncExpires, runs, sync, timer, expired]
    have absent : resyncExpired st s = declareAbsent st s := by
      simp [resyncExpired, attempts, Config.resyncLimit]
    have settled := settleIdleWait_bus (declareAbsent st s)
    have bus : (declareAbsent st s).bus = s.bus := by simp
    refine ⟨settleIdleWait (declareAbsent st s), ?_, nofun, fun _ => ?_, ?_, ?_, ?_, ?_, ?_, ?_⟩
    · rw [exec_resyncTimerExpiry, arise_true expires, absent]
    · exact (settleIdleWait_spec _).of_timer (by rw [bus])
    · rw [settled, eq]
    all_goals rw [settled]
    · exact own
    · exact others
    · exact records
    · exact changes
    · exact keeps

end Sys2Proof.Machine
end

section
/-! Deliveries: the outcome of a DELIVER command for the head frame, the end of a delivery, and the STATE (R10, R11, R15, R20
to R24, R98). -/
namespace Sys2Proof.Machine

/-! ## A delivery -/

/-- The head frame is delivered by the command of its class. -/
theorem exec_delivery_head {s : State} {e : RxEntry} {rest : List RxEntry} (runs : s.runs = true) (rx : s.bus.rx = e :: rest) :
    exec e.frame.body.cls.delivery s = .next (endDelivery (deliverStages e s)) := by
  rw [exec_delivery, deliver_some (deliverable_eq_some rx runs rfl)]

/-- The end of a delivery frees the frame's place and settles the idle-wait timer (R84, R78). -/
theorem endDelivery_eq (s : State) :
    endDelivery s = { s with bus := { s.bus with rx := s.bus.rx.tail, idleWait := (endDelivery s).bus.idleWait } } := by
  unfold endDelivery
  conv => lhs; rw [settleIdleWait_bus]
  rfl

theorem endDelivery_bus {s : State} {e : RxEntry} {rest : List RxEntry} (rx : s.bus.rx = e :: rest) :
    (endDelivery s).bus = { s.bus with rx := rest, idleWait := (endDelivery s).bus.idleWait } := by
  have tail : s.bus.rx.tail = rest := by rw [rx]; rfl
  conv => lhs; rw [endDelivery_eq]
  rw [tail]

theorem endDelivery_settled {s u : State} (timer : u.bus.idleWait = s.bus.idleWait) : IdleWaitSettled s (endDelivery u) :=
  (settleIdleWait_spec (u.setBif { u.bus with rx := u.bus.rx.tail })).of_timer timer

theorem Offered.endDelivery {s t : State} {l : List JournalRecord} (h : Offered s t l) : Offered s (endDelivery t) l := by
  unfold Offered at h ⊢
  simpa using h

theorem deliverStages_state {e : RxEntry} {b : StateBody} (body : e.frame.body = .state b) (s : State) :
    deliverStages e s = gtuState e.frame.src b (mbuStage e s) := by
  simp [deliverStages, gtuStage, psqStage, tmbStage, body]

/-! ## The Membership Unit at a STATE (R98, R100, R102) -/

/-- The state with other member entries and another transmit queue. -/
def State.withHeard (s : State) (members : Tab Member) (queue : List TxEntry) : State :=
  (s.setMbu { s.mbu with members := members }).setQueue queue

@[simp] theorem member_restartSilence (st : Addr) (s : State) :
    (restartSilence st s).member st = { s.member st with silence := s.timerH 3 } := by
  simp [restartSilence]

theorem restartSilence_setMember_eq (s : State) (st : Addr) (m : Member) :
    (restartSilence st s).setMember st m = s.withHeard ((restartSilence st s).setMember st m).mbu.members s.bus.queue := rfl

theorem claimResync_eq (t : Addr) (s : State) :
    claimResync t s = s.withHeard (claimResync t s).mbu.members (claimResync t s).bus.queue := by
  unfold claimResync; split <;> rfl

/-- A STATE that shows no gap: the station's own, that of the SELF entry, or of a PRESENT peer that is awaited or whose number
is the expected one (R98, R100, R102). -/
abbrev InStepWith (s : State) (e : RxEntry) : Prop :=
  e.origin ≠ .peer ∨ (s.member e.frame.src).presence = .self
    ∨ ((s.member e.frame.src).presence = .present ∧ ((s.member e.frame.src).sync = .awaiting ∨ e.frame.seq = (s.member e.frame.src).expected))

/-- A PRESENT or ABSENT peer's STATE begins a wait exactly where it shows a gap. -/
theorem begins_iff_not_inStep {s : State} {e : RxEntry} (b : StateBody) (peer : e.origin = .peer)
    (other : (s.member e.frame.src).presence ≠ .self) :
    ((s.member e.frame.src).presence = .absent
        ∨ ((s.member e.frame.src).sync = .inStep ∧ gapShown (s.member e.frame.src).expected e.frame.seq (.state b) = true))
      ↔ ¬ InStepWith s e := by
  have gap : gapShown (s.member e.frame.src).expected e.frame.seq (.state b) = true ↔ e.frame.seq ≠ (s.member e.frame.src).expected := by
    simp [gapShown]
  rw [gap]
  unfold InStepWith
  cases hp : (s.member e.frame.src).presence with
  | self => exact absurd hp other
  | absent => simp [peer]
  | present => cases hs : (s.member e.frame.src).sync <;> simp [peer]

/-- The Membership Unit stage of a STATE: member entries and queue move, and a gap makes a STALE claim on the source's
block (R7, R102). -/
theorem mbuStage_state {e : RxEntry} {b : StateBody} (body : e.frame.body = .state b) (s : State) :
    ∃ members queue, (InStepWith s e → mbuStage e s = s.withHeard members queue)
      ∧ (¬ InStepWith s e → mbuStage e s = claimStale e.frame.src (s.withHeard members queue))
      ∧ (e.origin ≠ .peer → members = s.mbu.members ∧ queue = s.bus.queue) := by
  by_cases peer : e.origin = .peer
  · by_cases self : (s.member e.frame.src).presence = .self
    · have none : mbuStage e s = s := by simp [mbuStage, peer, peerHeard, self, peerClassHandling, body]
      exact ⟨s.mbu.members, s.bus.queue, fun _ => none, fun h => absurd (Or.inr (Or.inl self)) h, fun _ => ⟨rfl, rfl⟩⟩
    · have heard : mbuStage e s = streamHeard e.frame.src e.frame.seq (.state b) (restartSilence e.frame.src s) := by
        simp [mbuStage, peer, peerHeard, self, peerClassHandling, body]
      have begins := begins_iff_not_inStep b peer self
      rw [heard]
      unfold streamHeard
      rw [member_restartSilence]
      dsimp only
      by_cases inStep : InStepWith s e
      · rw [if_neg (fun h => begins.1 h inStep)]
        exact ⟨_, _, fun _ => restartSilence_setMember_eq .., fun h => absurd inStep h, fun h => absurd peer h⟩
      · rw [if_pos (begins.2 inStep)]
        unfold beginWait
        rw [claimResync_eq]
        exact ⟨_, _, fun h => absurd h inStep, fun _ => rfl, fun h => absurd peer h⟩
  · have none : mbuStage e s = s := by simp [mbuStage, peer, ownHeard, body]
    exact ⟨s.mbu.members, s.bus.queue, fun _ => none, fun h => absurd (Or.inl peer) h, fun _ => ⟨rfl, rfl⟩⟩

/-- The records after the Membership Unit stage of a STATE: at a gap the source's are STALE (R7). -/
theorem recordAt_mbuStage_state {e : RxEntry} {b : StateBody} (body : e.frame.body = .state b) (s : State) (a : Addr) (p : Point) :
    recordAt (mbuStage e s).gat a p =
      if a = e.frame.src then
        { recordAt s.gat a p with
            status := if InStepWith s e ∨ (recordAt s.gat a p).status = .empty then (recordAt s.gat a p).status else .stale }
      else recordAt s.gat a p := by
  obtain ⟨members, queue, follows, gap, -⟩ := mbuStage_state body s
  by_cases inStep : InStepWith s e
  · rw [follows inStep]
    simp only [inStep, true_or, if_true]
    split <;> rfl
  · rw [gap inStep]
    simp only [inStep, false_or]
    rw [claimStale, recordAt_claimStatus]
    split
    · cases h : (recordAt s.gat a p).status <;> simp [State.withHeard, h, CopyStatus.afterStale]
    · rfl

/-- The horn and the journal after the Membership Unit stage of a STATE (R24). -/
theorem mbuStage_state_notices {e : RxEntry} {b : StateBody} (body : e.frame.body = .state b) {s : State} (runs : s.mbu.mode.loggerRuns = true) :
    ((¬ InStepWith s e ∧ ∃ p, (recordAt s.gat e.frame.src p).status = .current ∨ (recordAt s.gat e.frame.src p).status = .lost) →
      Reviewed s.conf (mbuStage e s).gat s.hrn (mbuStage e s).hrn ∧ Offered s (mbuStage e s) [.stationStale e.frame.src s.tmb.groupTime])
    ∧ (¬ (¬ InStepWith s e ∧ ∃ p, (recordAt s.gat e.frame.src p).status = .current ∨ (recordAt s.gat e.frame.src p).status = .lost) →
      (mbuStage e s).hrn = s.hrn ∧ (mbuStage e s).jnl = s.jnl) := by
  obtain ⟨members, queue, follows, gap, -⟩ := mbuStage_state body s
  constructor
  · rintro ⟨inStep, p, h⟩
    rw [gap inStep]
    exact claimStatus_changes (s := s.withHeard members queue) _ runs ⟨p, (afterStale_ne_iff _).2 h⟩
  · intro h
    by_cases inStep : InStepWith s e
    · rw [follows inStep]; exact ⟨rfl, rfl⟩
    · have same : claimStale e.frame.src (s.withHeard members queue) = s.withHeard members queue := by
        refine claimStatus_keeps _ fun p => ?_
        by_contra changes
        exact h ⟨inStep, p, (afterStale_ne_iff _).1 changes⟩
      rw [gap inStep, same]
      exact ⟨rfl, rfl⟩

/-- What the Membership Unit stage of a STATE leaves alone. -/
theorem mbuStage_state_eq {e : RxEntry} {b : StateBody} (body : e.frame.body = .state b) (s : State) :
    mbuStage e s =
      { s with gat := (mbuStage e s).gat, hrn := (mbuStage e s).hrn, jnl := (mbuStage e s).jnl
               mbu := { s.mbu with members := (mbuStage e s).mbu.members }, bus := { s.bus with queue := (mbuStage e s).bus.queue } }
    ∧ (e.origin ≠ .peer → (mbuStage e s).mbu = s.mbu ∧ (mbuStage e s).bus.queue = s.bus.queue) := by
  obtain ⟨members, queue, follows, gap, own⟩ := mbuStage_state body s
  by_cases inStep : InStepWith s e
  · rw [follows inStep]
    refine ⟨rfl, fun h => ?_⟩
    obtain ⟨rfl, rfl⟩ := own h
    exact ⟨rfl, rfl⟩
  · rw [gap inStep, claimStale]
    refine ⟨?_, fun h => absurd (Or.inl h) inStep⟩
    conv => lhs; rw [claimStatus_eq]
    simp [State.withHeard]

end Sys2Proof.Machine
end

section
/-! The first-out mark of a delivered STATE (R15, R16). -/
namespace Sys2Proof.Machine

/-! ## The mark (R15, R16) -/

/-- The mark of the record a STATE names: kept, or received in a quiet zone. -/
theorem applyState_mark_iff (st : Addr) (b : StateBody) (g : Gat) :
    (recordAt (applyState st b g) st b.point).firstOut = true ↔
      ((recordAt g st b.point).firstOut = true ∧ b.state.standing = true ∧ b.zone = (recordAt g st b.point).zone)
      ∨ ((recordAt g st b.point).state ≠ .alert ∧ b.state = .alert
          ∧ ∀ a q, (a, q) ≠ (st, b.point) → (recordAt g a q).zone = b.zone →
              ¬ ((recordAt g a q).status ≠ .empty ∧ (recordAt g a q).state.standing = true) ∧ (recordAt g a q).firstOut = false) := by
  have kept : (carried (recordAt g st b.point) b).firstOut = true ↔
      (recordAt g st b.point).firstOut = true ∧ b.state.standing = true ∧ b.zone = (recordAt g st b.point).zone := by
    simp [carried, and_assoc]
  have other : ∀ a q, (a, q) ≠ (st, b.point) →
      recordAt (setRecord g st b.point (carried (recordAt g st b.point) b)) a q = recordAt g a q := fun a q h => by
    rw [recordAt_setRecord, if_neg fun h' => h (Prod.ext h'.1 h'.2)]
  rw [recordAt_applyState, if_pos ⟨rfl, rfl⟩, Bool.or_eq_true, kept, receivesMark_iff]
  refine or_congr_right' fun lost => and_congr_right fun _ => and_congr_right fun _ => ?_
  constructor
  · rintro ⟨quiet, unmarked⟩ a q h zone
    have here := quiet a q h
    have mark := unmarked a q
    rw [other a q h] at here mark
    exact ⟨fun stands => here ⟨zone, stands⟩, by simpa using fun hm => mark hm zone⟩
  · intro quiet
    refine ⟨fun a q h => ?_, fun a q hm hz => ?_⟩
    · rw [other a q h]
      exact fun ⟨zone, stands⟩ => (quiet a q h zone).1 stands
    · by_cases h : (a, q) = (st, b.point)
      · obtain ⟨ha, hq⟩ := Prod.mk.inj h
        rw [ha, hq, recordAt_setRecord_self] at hm
        exact lost (kept.1 hm)
      · rw [other a q h] at hm hz
        rw [(quiet a q h hz).2] at hm
        cases hm

/-- Settles O31: the mark by `applyState_mark_iff`, since a gap before it changes statuses alone, and no record to or from
EMPTY. -/
theorem firstOutMarkFollowsBusOrder : Obligations.FirstOutMarkFollowsBusOrder := by
  intro s e rest b runs rx body st old standing
  have exec := exec_delivery_head runs rx
  rw [body] at exec
  have gat : (endDelivery (deliverStages e s)).gat = applyState st b (mbuStage e s).gat := by
    rw [deliverStages_state body]; simp [gtuState, st]
  have same : ∀ a q, (recordAt (mbuStage e s).gat a q).firstOut = (recordAt s.gat a q).firstOut
      ∧ (recordAt (mbuStage e s).gat a q).zone = (recordAt s.gat a q).zone ∧ (recordAt (mbuStage e s).gat a q).state = (recordAt s.gat a q).state
      ∧ ((recordAt (mbuStage e s).gat a q).status = .empty ↔ (recordAt s.gat a q).status = .empty) := by
    intro a q
    rw [recordAt_mbuStage_state body]
    split
    · refine ⟨rfl, rfl, rfl, ?_⟩
      split_ifs with kept
      · rfl
      · simp [(not_or.1 kept).2]
    · exact ⟨rfl, rfl, rfl, Iff.rfl⟩
  refine ⟨endDelivery (deliverStages e s), exec, ?_, fun a q h => ?_⟩
  · rw [gat, applyState_mark_iff]
    simp only [same, ne_eq, standing_iff]
    exact Iff.rfl
  · rw [gat, recordAt_applyState, if_neg fun h' => h (Prod.ext h'.1 h'.2)]
    exact (same a q).1

end Sys2Proof.Machine
end

section
/-! The horn after an application: a delivered STATE is one of one point, a SNAPSHOT one of every point (R20 to R22, R163). -/
namespace Sys2Proof.Machine

/-- The copies `old` and `s.gat` hold an entry into ALERT whose review ends a SOUNDING before an entry into RETURNED has its
turn. -/
abbrev EndsFirst (old : Gat) (st : Addr) (points : List Point) (s : State) : Prop :=
  s.hrn.horn = .sounding ∧ (∀ a p, ¬ InAlertSet s.conf s.gat a p)
    ∧ ∃ p ∈ points, ∃ q ∈ points, EntersAlert s.conf old s.gat st p ∧ EntersReturned s.conf old s.gat st q ∧ p < q

/-- A record that has entered another state is one a review is due for (R22). -/
theorem reviewDue_of_entered {old new : GatRecord} {x : SeqState} (was : old.state ≠ x) (now : new.state = x) : ReviewDue old new :=
  Or.inl fun h => was (h.trans now)

section
variable {old : Gat} {st : Addr} {points : List Point} {count : Count} {s : State}

theorem applicationNotices_sounds
    (sounds : ∃ p ∈ points, EntersAlert s.conf old s.gat st p ∧ InAlertSet s.conf s.gat st p) :
    Sounded s.conf s.gat s.tmb.localCount (applicationNotices old st points count s).hrn := by
  obtain ⟨p, mem, enters, set⟩ := sounds
  have ⟨was, now, _⟩ := enters
  rw [(applicationNotices_hrn old st points count s).1 ⟨p, mem, reviewDue_of_entered was now⟩]
  have sounded := foldl_hornNotice_sounds old st mem enters set
  have conf : (points.foldl (hornNotice old st) s).conf = s.conf := State.conf_congr (by simp)
  have gat : (points.foldl (hornNotice old st) s).gat = s.gat := by simp
  have stands : (points.foldl (hornNotice old st) s).alertStands = true := alertStands_of_mem (by rw [conf, gat]; exact set)
  rw [← conf, ← gat] at sounded ⊢
  exact reviewHorn_sounded stands sounded

theorem reviewed_reviewHorn {g : Gat} {u : State} (config : u.config = s.config) (gat : u.gat = g) :
    Reviewed s.conf g u.hrn (reviewHorn u).hrn := by
  have spec := reviewHorn_spec u
  rw [State.conf_congr config, gat] at spec
  exact spec

/-- Without an entry into the alert set, an entry into RETURNED is a chime claim (R157, R163): after the review that ends a
SOUNDING, or before the one review. -/
theorem applicationNotices_chimes (sorted : points.Pairwise (· < ·))
    (unsounded : ¬ ∃ p ∈ points, EntersAlert s.conf old s.gat st p ∧ InAlertSet s.conf s.gat st p)
    (chime : ∃ p ∈ points, EntersReturned s.conf old s.gat st p) :
    (EndsFirst old st points s →
      ∃ h, Reviewed s.conf s.gat s.hrn h ∧ ChimeClaimed s.conf s.tmb.localCount h (applicationNotices old st points count s).hrn)
    ∧ (¬ EndsFirst old st points s →
      ∃ h, ChimeClaimed s.conf s.tmb.localCount s.hrn h ∧ Reviewed s.conf s.gat h (applicationNotices old st points count s).hrn) := by
  have quiet : ∀ p ∈ points, EntersAlert s.conf old s.gat st p → ¬ InAlertSet s.conf s.gat st p := fun p mem enters set =>
    unsounded ⟨p, mem, enters, set⟩
  obtain ⟨r, mem, was, now, -⟩ := id chime
  rw [(applicationNotices_hrn old st points count s).1 ⟨r, mem, reviewDue_of_entered was now⟩]
  constructor
  · rintro ⟨sounding, none, ends⟩
    rw [review_foldl_of_ended old st sorted sounding ((alertStands_false_iff s).2 none) ends]
    refine ⟨(reviewHorn s).hrn, reviewHorn_spec s, ?_⟩
    have spec := chimeClaim_spec (reviewHorn s)
    have conf : (reviewHorn s).conf = s.conf := State.conf_congr (by simp)
    rw [conf] at spec
    simpa using spec
  · intro notFirst
    by_cases silent : s.hrn.horn = .sounding ∧ s.alertStands = false
    · obtain ⟨sounding, silent⟩ := silent
      rw [review_foldl_of_sounding old st sorted sounding silent fun ends =>
        notFirst ⟨sounding, (alertStands_false_iff s).1 silent, ends⟩]
      have spec := chimeClaim_spec s
      rw [chimeClaim_of_sounding sounding] at spec
      exact ⟨s.hrn, spec, reviewHorn_spec s⟩
    · rw [review_foldl_of_chime old st (fun h => by simpa using fun h' => silent ⟨h, h'⟩) quiet chime]
      exact ⟨(chimeClaim s).hrn, chimeClaim_spec s, reviewed_reviewHorn (by simp) (by simp)⟩

/-- Without either entry, the horn is reviewed once where a review is due, and left alone otherwise (R22). -/
theorem applicationNotices_reviews
    (unsounded : ¬ ∃ p ∈ points, EntersAlert s.conf old s.gat st p ∧ InAlertSet s.conf s.gat st p)
    (unchimed : ¬ ∃ p ∈ points, EntersReturned s.conf old s.gat st p) :
    ((∃ p ∈ points, ReviewDue (recordAt old st p) (recordAt s.gat st p)) →
      Reviewed s.conf s.gat s.hrn (applicationNotices old st points count s).hrn)
    ∧ ((¬ ∃ p ∈ points, ReviewDue (recordAt old st p) (recordAt s.gat st p)) →
      (applicationNotices old st points count s).hrn = s.hrn) := by
  obtain ⟨due, undue⟩ := applicationNotices_hrn old st points count s
  constructor
  · intro h
    rw [due h, review_foldl_of_no_chime old st (fun p mem enters set => unsounded ⟨p, mem, enters, set⟩)
      (fun p mem enters => unchimed ⟨p, mem, enters⟩)]
    exact reviewHorn_spec s
  · intro h
    rw [undue h]
    have idle : ∀ p ∈ points, hornNotice old st s p = s := fun p mem => by
      have turn := hornNotice_eq old st s p
      split_ifs at turn with enters set chimes
      · exact absurd ⟨p, mem, enters, set⟩ unsounded
      · obtain ⟨was, now, -⟩ := enters
        exact absurd ⟨p, mem, reviewDue_of_entered was now⟩ h
      · exact absurd ⟨p, mem, chimes⟩ unchimed
      · exact turn
    clear due undue h unsounded unchimed
    induction points with
    | nil => rfl
    | cons p points ih =>
      rw [List.foldl_cons, idle p (List.mem_cons_self ..)]
      exact ih fun q mem => idle q (List.mem_cons_of_mem p mem)

end

end Sys2Proof.Machine
end

section
/-! A delivered STATE: its record, the horn and the journal (R10, R11, R20 to R24). -/
namespace Sys2Proof.Machine

/-! ## The Group Table Unit's stage of a STATE -/

@[simp] theorem gtuState_gat (st : Addr) (b : StateBody) (s : State) : (gtuState st b s).gat = applyState st b s.gat := by
  simp [gtuState]

theorem map_filter_singleton {α β : Type} (P : α → Prop) [DecidablePred P] (f : α → β) (a : α) :
    (([a].filter fun x => P x).map f) = if P a then [f a] else [] := by
  by_cases h : P a <;> simp [h]

/-- The journal after the stage (R23). -/
theorem gtuState_offered (st : Addr) (b : StateBody) {s : State} (runs : s.mbu.mode.loggerRuns = true) :
    let new := recordAt (applyState st b s.gat) st b.point
    ∃ transition, (TransitionDue s.conf (recordAt s.gat st b.point) new → transition = [transitionOf st b.point new b.count])
      ∧ (¬ TransitionDue s.conf (recordAt s.gat st b.point) new → transition = []) ∧ Offered s (gtuState st b s) transition := by
  intro new
  have offered := applicationNotices_offered s.gat st [b.point] b.count (s.setGat (applyState st b s.gat)) runs
  rw [map_filter_singleton] at offered
  exact ⟨_, fun due => if_pos due, fun undue => if_neg undue, offered⟩

/-- The horn after the stage, by the entry of the one record (R20 to R22, R163). -/
theorem gtuState_horn (st : Addr) (b : StateBody) (s : State) :
    let g := applyState st b s.gat
    let t := gtuState st b s
    let sounds := EntersAlert s.conf s.gat g st b.point
    let chimes := EntersReturned s.conf s.gat g st b.point
    let reviews := ReviewDue (recordAt s.gat st b.point) (recordAt g st b.point)
    (sounds → InAlertSet s.conf g st b.point → Sounded s.conf g s.tmb.localCount t.hrn)
    ∧ (sounds → ¬ InAlertSet s.conf g st b.point → Reviewed s.conf g s.hrn t.hrn)
    ∧ (chimes → ∃ h, ChimeClaimed s.conf s.tmb.localCount s.hrn h ∧ Reviewed s.conf g h t.hrn)
    ∧ (¬ sounds → ¬ chimes → (reviews → Reviewed s.conf g s.hrn t.hrn) ∧ (¬ reviews → t.hrn = s.hrn)) := by
  intro g t sounds chimes reviews
  have one : ∀ {P : Point → Prop}, (∃ p ∈ [b.point], P p) ↔ P b.point := by simp
  have quiet (h : sounds → ¬ InAlertSet s.conf g st b.point) :
      ¬ ∃ p ∈ [b.point], EntersAlert s.conf s.gat g st p ∧ InAlertSet s.conf g st p := fun h' => by
    obtain ⟨enters, set⟩ := one.1 h'
    exact h enters set
  refine ⟨fun enters set => ?_, fun enters unset => ?_, fun enters => ?_, fun unalerted unreturned => ?_⟩
  · exact applicationNotices_sounds (s := s.setGat g) (one.2 ⟨enters, set⟩)
  · have ⟨was, now, _⟩ := enters
    exact (applicationNotices_reviews (s := s.setGat g) (quiet fun _ => unset) fun h =>
      not_entersReturned_of_entersAlert enters (one.1 h)).1 (one.2 (reviewDue_of_entered was now))
  · have notFirst : ¬ EndsFirst s.gat st [b.point] (s.setGat g) := by
      rintro ⟨-, -, p, hp, q, hq, -, -, lt⟩
      rw [List.mem_singleton.1 hp, List.mem_singleton.1 hq] at lt
      exact lt_irrefl _ lt
    exact (applicationNotices_chimes (s := s.setGat g) (List.pairwise_singleton ..)
      (quiet fun alert => absurd enters (not_entersReturned_of_entersAlert alert)) (one.2 enters)).2 notFirst
  · obtain ⟨due, undue⟩ := applicationNotices_reviews (count := b.count) (s := s.setGat g) (quiet fun alert => absurd alert unalerted)
      fun h => unreturned (one.1 h)
    exact ⟨fun h => due (one.2 h), fun h => undue fun h' => h (one.1 h')⟩

/-- The record of the STATE after it: the carried fields, the mark apart (R10, R11). -/
theorem recordAt_applyState_self (st : Addr) (b : StateBody) (g : Gat) :
    recordAt (applyState st b g) st b.point =
      { carried (recordAt g st b.point) b with firstOut := (recordAt (applyState st b g) st b.point).firstOut } := by
  rw [recordAt_applyState, if_pos ⟨rfl, rfl⟩]

/-- The stage and the end of the delivery, from a state that differs in the copy, the horn, the journal, the member entries
and the transmit queue. -/
theorem endDelivery_gtuState_eq (st : Addr) (b : StateBody) {s v : State} {e : RxEntry} {rest : List RxEntry} (rx : s.bus.rx = e :: rest)
    (h : v = { s with gat := v.gat, hrn := v.hrn, jnl := v.jnl, mbu := { s.mbu with members := v.mbu.members }
                      bus := { s.bus with queue := v.bus.queue } }) :
    let t := endDelivery (gtuState st b v)
    t = { s with gat := t.gat, hrn := t.hrn, jnl := t.jnl, mbu := { s.mbu with members := t.mbu.members }
                 bus := { s.bus with rx := rest, queue := t.bus.queue, idleWait := t.bus.idleWait } } := by
  obtain ⟨g, h, j, ms, q, rfl⟩ : ∃ g h j ms q, v =
      { s with gat := g, hrn := h, jnl := j, mbu := { s.mbu with members := ms }, bus := { s.bus with queue := q } } := ⟨_, _, _, _, _, h⟩
  intro t
  have bus : t.bus = { s.bus with rx := rest, queue := t.bus.queue, idleWait := t.bus.idleWait } := by
    refine (endDelivery_bus (e := e) (rest := rest) ?_).trans ?_
    · simp only [gtuState_frame]; exact rx
    · simp [t]
  refine State.eq_of_units ?_ ?_ ?_ ?_ ?_ ?_ ?_ ?_ bus ?_ ?_ ?_ ?_ <;> simp [t]

theorem afterState_eq (c : CopyStatus) : c.afterState = if c = .current then .current else .stale := by cases c <;> rfl

/-- Settles O30: the Membership Unit stage gives the copy, the horn and the record between, and the Group Table Unit stage
the rest. -/
theorem deliveredStateReplacesItsRecord : Obligations.DeliveredStateReplacesItsRecord := by
  intro s e rest b runs rx body st old m inStep doubted claims masked sounds chimes
  have logs := loggerRuns_of_runs runs
  have exec := exec_delivery_head runs rx
  rw [body, deliverStages_state body] at exec
  obtain ⟨unchanged, own⟩ := mbuStage_state_eq body s
  obtain ⟨claimed, unclaimed⟩ := mbuStage_state_notices body logs
  have records := recordAt_mbuStage_state body s
  generalize mbuStage e s = v at exec unchanged own claimed unclaimed records
  have conf : v.conf = s.conf := State.conf_congr (by rw [unchanged])
  have copy : ∀ a p, recordAt v.gat a p = if a = st then doubted p else recordAt s.gat a p := fun a p => by
    rw [records]
    by_cases h : a = st
    · rw [if_pos h, if_pos h, h]
    · rw [if_neg h, if_neg h]
  have here : recordAt v.gat st b.point = doubted b.point := by rw [copy, if_pos rfl]
  have record := recordAt_applyState_self st b v.gat
  have other (a : Addr) (p : Point) (h : ¬ (a = st ∧ p = b.point)) : recordAt (applyState st b v.gat) a p = recordAt v.gat a p := by
    rw [recordAt_applyState, if_neg h]
  have entersAlert : EntersAlert v.conf v.gat (applyState st b v.gat) st b.point ↔ sounds := by
    unfold EntersAlert
    rw [record, here, conf]; exact Iff.rfl
  have entersReturned : EntersReturned v.conf v.gat (applyState st b v.gat) st b.point ↔ chimes := by
    unfold EntersReturned
    rw [record, here, conf]; exact Iff.rfl
  have set (h : sounds) : InAlertSet v.conf (applyState st b v.gat) st b.point ↔ b.inUse = true := by
    obtain ⟨-, now, masked⟩ := h
    have copied : (recordAt (applyState st b v.gat) st b.point).status = .current ∨ (recordAt (applyState st b v.gat) st b.point).status = .stale := by
      rw [record]
      simp only [carried, afterState_eq]
      exact ite_eq_or_eq ..
    unfold InAlertSet
    rw [and_iff_left copied, record, conf]
    simp only [carried, now, and_true]
    exact and_iff_right masked
  have tmb : v.tmb = s.tmb := by rw [unchanged]
  obtain ⟨sounded, silenced, chimed, reviewed⟩ := gtuState_horn st b v
  obtain ⟨transition, dues, undues, second⟩ := gtuState_offered st b (s := v) (by rw [unchanged]; exact logs)
  obtain ⟨stale, stales, unstales, first⟩ : ∃ stale, (claims → Reviewed s.conf v.gat s.hrn v.hrn ∧ stale = [JournalRecord.stationStale st s.tmb.groupTime])
      ∧ (¬ claims → v.hrn = s.hrn ∧ stale = []) ∧ Offered s v stale := by
    by_cases h : claims
    · obtain ⟨review, offered⟩ := claimed h
      exact ⟨_, fun _ => ⟨review, rfl⟩, fun h' => absurd h h', offered⟩
    · obtain ⟨hrn, jnl⟩ := unclaimed h
      exact ⟨[], fun h' => absurd h' h, fun _ => ⟨hrn, rfl⟩, offered_nil jnl⟩
  rw [entersAlert] at sounded silenced reviewed
  rw [entersReturned] at chimed reviewed
  have settled : IdleWaitSettled s (endDelivery (gtuState st b v)) := endDelivery_settled (by rw [unchanged]; simp)
  have gat : (endDelivery (gtuState st b v)).gat = applyState st b v.gat := by simp
  have hrn : (endDelivery (gtuState st b v)).hrn = (gtuState st b v).hrn := by simp
  refine ⟨endDelivery (gtuState st b v), v.gat, v.hrn, stale, transition, exec, settled, fun h => ?_, ?_, ?_, fun a h => ?_, fun p h => ?_,
    copy, stales, unstales, fun h inUse => ?_, fun h unused => ?_, ?_, fun h h' => ?_, fun h h' => ?_, ?_, ?_, ?_⟩
  · simpa using own h
  · exact endDelivery_gtuState_eq st b rx unchanged
  · have status : (carried (recordAt v.gat st b.point) b).status = if old.status = .current ∧ inStep then .current else .stale := by
      have doubt : (recordAt v.gat st b.point).status = if inStep ∨ old.status = .empty then old.status else .stale := by rw [here]
      simp only [carried, afterState_eq, doubt]
      by_cases h : inStep <;> cases old.status <;> simp [h]
    rw [gat, ← status]
    exact record
  · rw [gat, get_applyState_of_ne _ _ h]
    exact Tab.ext_get fun p => by have := copy a p; rwa [if_neg h] at this
  · rw [gat, other _ _ fun h' => h h'.2, copy, if_pos rfl]
  · rw [gat, hrn, ← conf, ← tmb]
    exact sounded h ((set h).2 inUse)
  · rw [gat, hrn, ← conf]
    exact silenced h fun h' => by rw [(set h).1 h'] at unused; cases unused
  · rw [gat, hrn, ← conf, ← tmb]
    exact chimed
  · rw [gat, hrn, ← conf, ← here]
    exact (reviewed h h').1
  · rw [gat, hrn, ← here]
    exact (reviewed h h').2
  · rw [gat, ← conf]
    rw [here] at dues
    exact dues
  · rw [gat, ← conf]
    rw [here] at undues
    exact undues
  · exact (first.append (by rw [unchanged]) second).endDelivery

end Sys2Proof.Machine
end

section
/-! A delivered SNAPSHOT (R13, R18, R100, R104, R121). -/
namespace Sys2Proof.Machine

theorem deliverStages_snapshot {e : RxEntry} {es : Tab Entry} (body : e.frame.body = .snapshot es) (s : State) :
    deliverStages e s = gtuSnapshot e.frame.src es (mbuStage e s) := by
  simp [deliverStages, gtuStage, psqStage, tmbStage, body]

/-! ## The Membership Unit at a SNAPSHOT (R100, R104, R121) -/

/-- The station's own SNAPSHOT completes its join (R121). -/
abbrev JoinsBy (s : State) (e : RxEntry) : Prop := e.origin = .line ∧ s.mbu.mode = .joining

/-- An awaited peer's SNAPSHOT ends the wait (R104). -/
abbrev ReturnsBy (s : State) (e : RxEntry) : Prop :=
  e.origin = .peer ∧ (s.member e.frame.src).presence = .present ∧ (s.member e.frame.src).sync = .awaiting

/-- The Membership Unit stage of a SNAPSHOT: the join is complete, a wait is over, or member entries alone move. -/
theorem mbuStage_snapshot {e : RxEntry} {es : Tab Entry} (body : e.frame.body = .snapshot es) (s : State) :
    (JoinsBy s e ∧ ¬ ReturnsBy s e ∧ mbuStage e s = changeMode .active .joinComplete s)
    ∨ ∃ members, (ReturnsBy s e ∧ ¬ JoinsBy s e
          ∧ mbuStage e s = offerRecord (.stationBack e.frame.src s.tmb.groupTime) (s.setMbu { s.mbu with members := members }))
        ∨ (¬ ReturnsBy s e ∧ ¬ JoinsBy s e ∧ mbuStage e s = s.setMbu { s.mbu with members := members }) := by
  by_cases peer : e.origin = .peer
  · have notJoins : ¬ JoinsBy s e := fun ⟨h, _⟩ => by rw [peer] at h; cases h
    by_cases self : (s.member e.frame.src).presence = .self
    · have none : mbuStage e s = s := by simp [mbuStage, peer, peerHeard, self, peerClassHandling, body]
      have notReturns : ¬ ReturnsBy s e := fun ⟨_, h, _⟩ => by rw [self] at h; cases h
      exact Or.inr ⟨s.mbu.members, Or.inr ⟨notReturns, notJoins, none⟩⟩
    · have heard : mbuStage e s = snapshotHeard e.frame.src e.frame.seq (restartSilence e.frame.src s) := by
        simp [mbuStage, peer, peerHeard, self, peerClassHandling, body]
      rw [heard]
      unfold snapshotHeard
      rw [member_restartSilence]
      dsimp only
      by_cases returns : (s.member e.frame.src).presence = .present ∧ (s.member e.frame.src).sync = .awaiting
      · rw [if_pos returns]
        exact Or.inr ⟨_, Or.inl ⟨⟨peer, returns⟩, notJoins, rfl⟩⟩
      · rw [if_neg returns]
        exact Or.inr ⟨_, Or.inr ⟨fun ⟨_, h⟩ => returns h, notJoins, rfl⟩⟩
  · have notReturns : ¬ ReturnsBy s e := fun ⟨h, _⟩ => peer h
    by_cases joins : JoinsBy s e
    · exact Or.inl ⟨joins, notReturns, by simp [mbuStage, ownHeard, body, joins]⟩
    · have none : mbuStage e s = s := by simp [mbuStage, peer, ownHeard, body, joins]
      exact Or.inr ⟨s.mbu.members, Or.inr ⟨notReturns, joins, none⟩⟩

/-- What the Membership Unit stage of a SNAPSHOT touches: member entries, the mode and the journal. -/
theorem mbuStage_snapshot_eq {e : RxEntry} {es : Tab Entry} (body : e.frame.body = .snapshot es) (s : State) :
    ∃ members mode jnl, mbuStage e s = { s with mbu := { s.mbu with members := members, mode := mode }, jnl := jnl } := by
  rcases mbuStage_snapshot body s with ⟨-, -, stage⟩ | ⟨members, ⟨-, -, stage⟩ | ⟨-, -, stage⟩⟩ <;> rw [stage]
  · refine ⟨s.mbu.members, .active, (changeMode .active .joinComplete s).jnl, ?_⟩
    refine State.eq_of_units ?_ ?_ ?_ ?_ ?_ ?_ ?_ ?_ ?_ ?_ ?_ ?_ ?_ <;> simp [changeMode]
  · refine ⟨members, s.mbu.mode, (offerRecord (.stationBack e.frame.src s.tmb.groupTime) (s.setMbu { s.mbu with members := members })).jnl, ?_⟩
    refine State.eq_of_units ?_ ?_ ?_ ?_ ?_ ?_ ?_ ?_ ?_ ?_ ?_ ?_ ?_ <;> simp
  · exact ⟨members, s.mbu.mode, s.jnl, rfl⟩

/-- The mode and the journal after the Membership Unit stage of a SNAPSHOT. -/
theorem mbuStage_snapshot_notices {e : RxEntry} {es : Tab Entry} (body : e.frame.body = .snapshot es) {s : State}
    (runs : s.mbu.mode.loggerRuns = true) :
    (mbuStage e s).mbu.mode.loggerRuns = true
    ∧ ∃ notice, (JoinsBy s e → notice = [JournalRecord.mode s.own .active .joinComplete s.tmb.groupTime])
      ∧ (ReturnsBy s e → notice = [JournalRecord.stationBack e.frame.src s.tmb.groupTime])
      ∧ (¬ JoinsBy s e → ¬ ReturnsBy s e → notice = [])
      ∧ Offered s (mbuStage e s) notice := by
  rcases mbuStage_snapshot body s with ⟨joins, notReturns, stage⟩ | ⟨members, ⟨returns, notJoins, stage⟩ | ⟨notReturns, notJoins, stage⟩⟩ <;> rw [stage]
  · refine ⟨by simp [Mode.loggerRuns], _, fun _ => rfl, fun h => absurd h notReturns, fun h => absurd joins h, ?_⟩
    exact offerRecord_spec _ (s.setMode .active) rfl
  · refine ⟨by simpa using runs, _, fun h => absurd h notJoins, fun _ => rfl, fun _ h => absurd returns h, ?_⟩
    exact offerRecord_spec _ (s.setMbu { s.mbu with members := members }) runs
  · exact ⟨runs, [], fun h => absurd h notJoins, fun h => absurd h notReturns, fun _ _ => rfl, offered_nil rfl⟩

/-! ## The Group Table Unit's stage of a SNAPSHOT -/

@[simp] theorem gtuSnapshot_gat (st : Addr) (es : Tab Entry) (s : State) : (gtuSnapshot st es s).gat = applySnapshot st es s.gat := by
  simp [gtuSnapshot]

/-- The record of an entry after the SNAPSHOT (R13, R18). -/
theorem recordAt_applySnapshot_self (st : Addr) (es : Tab Entry) (g : Gat) (p : Point) :
    recordAt (applySnapshot st es g) st p =
      { inUse := (es.get p).inUse, zone := (es.get p).zone, priority := (es.get p).priority, state := (es.get p).state
        condition := (es.get p).condition, stamp := (es.get p).stamp, firstOut := takesMark g st es p, status := .current
        lastCause := (recordAt (applySnapshot st es g) st p).lastCause } := by
  rw [recordAt_applySnapshot, if_pos rfl, snapshotCause_eq]
  rfl

theorem recordChanged_iff (old new : GatRecord) :
    recordChanged old new = true ↔
      old.inUse ≠ new.inUse ∨ old.zone ≠ new.zone ∨ old.priority ≠ new.priority ∨ old.state ≠ new.state ∨ old.condition ≠ new.condition
        ∨ old.stamp ≠ new.stamp ∨ old.firstOut ≠ new.firstOut := by
  simp [recordChanged, or_assoc]

theorem lastCause_applySnapshot (st : Addr) (es : Tab Entry) (g : Gat) (p : Point) :
    (recordAt (applySnapshot st es g) st p).lastCause =
      if recordChanged (recordAt g st p) (recordAt (applySnapshot st es g) st p) then .snapshot else (recordAt g st p).lastCause := by
  conv => lhs; rw [recordAt_applySnapshot, if_pos rfl, snapshotCause_eq]
  rw [recordAt_applySnapshot_self]
  rfl

/-- The horn after the stage, by the entries of the block's records (R20 to R22, R163). -/
theorem gtuSnapshot_horn (st : Addr) (es : Tab Entry) (s : State) :
    let g := applySnapshot st es s.gat
    let t := gtuSnapshot st es s
    let alerts := fun p => (recordAt s.gat st p).state ≠ .alert ∧ (es.get p).state = .alert ∧ s.conf.hornMask.getLsbD (es.get p).zone.val = true
    let chimes := fun p => (recordAt s.gat st p).state ≠ .returned ∧ (es.get p).state = .returned ∧ s.conf.hornMask.getLsbD (es.get p).zone.val = true
    let sounds := ∃ p, alerts p ∧ (es.get p).inUse = true
    let chime := ∃ p, chimes p
    let reviews := ∃ p, ReviewDue (recordAt s.gat st p) (recordAt g st p)
    let endsFirst := s.hrn.horn = .sounding ∧ (∀ a p, ¬ InAlertSet s.conf g a p) ∧ ∃ p q, alerts p ∧ chimes q ∧ p < q
    (sounds → Sounded s.conf g s.tmb.localCount t.hrn)
    ∧ (¬ sounds → chime → endsFirst → ∃ h, Reviewed s.conf g s.hrn h ∧ ChimeClaimed s.conf s.tmb.localCount h t.hrn)
    ∧ (¬ sounds → chime → ¬ endsFirst → ∃ h, ChimeClaimed s.conf s.tmb.localCount s.hrn h ∧ Reviewed s.conf g h t.hrn)
    ∧ (¬ sounds → ¬ chime → reviews → Reviewed s.conf g s.hrn t.hrn)
    ∧ (¬ sounds → ¬ chime → ¬ reviews → t.hrn = s.hrn) := by
  intro g t alerts chimes sounds chime reviews endsFirst
  have record := recordAt_applySnapshot_self st es s.gat
  have all : ∀ {P : Point → Prop}, (∃ p ∈ indices, P p) ↔ ∃ p, P p := by simp [mem_indices]
  have entersAlert (p : Point) : EntersAlert s.conf s.gat g st p ↔ alerts p := by
    unfold EntersAlert g
    rw [record]
  have entersReturned (p : Point) : EntersReturned s.conf s.gat g st p ↔ chimes p := by
    unfold EntersReturned g
    rw [record]
  have set (p : Point) (h : alerts p) : InAlertSet s.conf g st p ↔ (es.get p).inUse = true := by
    obtain ⟨-, now, masked⟩ := h
    unfold InAlertSet g
    rw [record]
    simp only [now, masked, true_and, true_or, and_true]
  have sounded : (∃ p ∈ indices, EntersAlert s.conf s.gat g st p ∧ InAlertSet s.conf g st p) ↔ sounds := by
    rw [all]
    exact exists_congr fun p => by rw [entersAlert]; exact and_congr_right (set p)
  have chimed : (∃ p ∈ indices, EntersReturned s.conf s.gat g st p) ↔ chime := by
    rw [all]
    exact exists_congr entersReturned
  have ends : EndsFirst s.gat st indices (s.setGat g) ↔ endsFirst := by
    refine and_congr_right fun _ => and_congr_right fun _ => ?_
    rw [all]
    refine exists_congr fun p => ?_
    rw [all]
    exact exists_congr fun q => and_congr (entersAlert p) (and_congr_left fun _ => entersReturned q)
  have sorted : indices.Pairwise (· < ·) := by decide
  refine ⟨fun h => ?_, fun quiet h first => ?_, fun quiet h notFirst => ?_, fun quiet silent h => ?_, fun quiet silent h => ?_⟩
  · exact applicationNotices_sounds (s := s.setGat g) (sounded.2 h)
  · exact (applicationNotices_chimes (s := s.setGat g) sorted (mt sounded.1 quiet) (chimed.2 h)).1 (ends.2 first)
  · exact (applicationNotices_chimes (s := s.setGat g) sorted (mt sounded.1 quiet) (chimed.2 h)).2 (mt ends.1 notFirst)
  · exact (applicationNotices_reviews (s := s.setGat g) (mt sounded.1 quiet) (mt chimed.1 silent)).1 (all.2 h)
  · exact (applicationNotices_reviews (s := s.setGat g) (mt sounded.1 quiet) (mt chimed.1 silent)).2 (mt all.1 h)

/-- Settles O33: the copy by `recordAt_applySnapshot`, the horn by the rules of an application. -/
theorem snapshotReplacesTheBlock : Obligations.SnapshotReplacesTheBlock := by
  intro s e rest es runs rx body st claims
  have exec := exec_delivery_head runs rx
  rw [body, deliverStages_snapshot body] at exec
  obtain ⟨logs, notice, joined, returned, none, first⟩ := mbuStage_snapshot_notices body (loggerRuns_of_runs runs)
  obtain ⟨members, mode, jnl, stage⟩ := mbuStage_snapshot_eq body s
  rw [stage] at exec logs first
  generalize hv : ({ s with mbu := { s.mbu with members := members, mode := mode }, jnl := jnl } : State) = v at exec logs first
  have gat : (endDelivery (gtuSnapshot st es v)).gat = applySnapshot st es s.gat := by simp [← hv]
  have hrn : (endDelivery (gtuSnapshot st es v)).hrn = (gtuSnapshot st es v).hrn := by simp
  have horn := gtuSnapshot_horn st es v
  have second := applicationNotices_offered v.gat st indices 0 (v.setGat (applySnapshot st es v.gat)) logs
  refine ⟨endDelivery (gtuSnapshot st es v), exec, endDelivery_settled (by simp [← hv]), ?_, fun a h => ?_, ?_, ⟨notice, joined, returned, none, ?_⟩,
    fun p => ?_⟩
  · have bus := endDelivery_bus (s := gtuSnapshot st es v) (e := e) (rest := rest) (by simp only [gtuSnapshot_frame, ← hv]; exact rx)
    subst hv
    refine State.eq_of_units ?_ ?_ ?_ ?_ ?_ ?_ ?_ ?_ (by simpa using bus) ?_ ?_ ?_ ?_ <;> simp
  · rw [gat]
    exact get_applySnapshot_of_ne es s.gat h
  · rw [gat, hrn]
    subst hv
    exact horn
  · have both := (first.append (by rw [← hv]) second).endDelivery
    subst hv
    rw [gat]
    exact both
  · rw [gat]
    refine ⟨?_, fun h => ?_, fun h => ?_, ?_⟩
    · conv => lhs; rw [recordAt_applySnapshot_self]
      rw [recordAt_applySnapshot_self]
    · rw [lastCause_applySnapshot, if_pos ((recordChanged_iff ..).2 h)]
    · rw [lastCause_applySnapshot, if_neg (mt (recordChanged_iff ..).1 h)]
    · rw [recordAt_applySnapshot_self]
      simp only [takesMark_iff, Flagged, standing_iff]
      exact Iff.rfl

end Sys2Proof.Machine
end

section
/-! A delivered JOIN: the answer of an ACTIVE station, and the window that the own JOIN opens (R8, R73, R108 to R111, R118). -/
namespace Sys2Proof.Machine

/-! ## JOIN marking (R8, R24) -/

theorem recordAt_claimStale (st : Addr) (s : State) (a : Addr) (p : Point) :
    recordAt (claimStale st s).gat a p =
      if a = st then { recordAt s.gat a p with status := if (recordAt s.gat a p).status = .empty then .empty else .stale }
      else recordAt s.gat a p := by
  simp only [claimStale, recordAt_claimStatus, afterStale_eq]

theorem get_claimStale_of_ne {st a : Addr} (s : State) (h : a ≠ st) : (claimStale st s).gat.get a = s.gat.get a := by
  simp only [claimStale, claimStatus_gat, Tab.get_set_of_ne _ _ _ _ h]

/-- The notices of a block that is marked STALE: a review and a STATION STALE record, where one of its records was not STALE
yet. -/
theorem claimStale_notices (st : Addr) {s : State} (runs : s.mbu.mode.loggerRuns = true) :
    ((∃ p, (recordAt s.gat st p).status = .current ∨ (recordAt s.gat st p).status = .lost) →
      Reviewed s.conf (claimStale st s).gat s.hrn (claimStale st s).hrn ∧ Offered s (claimStale st s) [.stationStale st s.tmb.groupTime])
    ∧ ((∀ p, (recordAt s.gat st p).status = .empty ∨ (recordAt s.gat st p).status = .stale) →
      (claimStale st s).hrn = s.hrn ∧ (claimStale st s).jnl = s.jnl) := by
  constructor
  · rintro ⟨p, h⟩
    exact claimStatus_changes _ runs ⟨p, (afterStale_ne_iff _).2 h⟩
  · intro h
    have same : claimStale st s = s := claimStatus_keeps _ fun p => (afterStale_eq_self_iff _).2 (h p)
    rw [same]
    exact ⟨rfl, rfl⟩

/-- A second marking of a block changes nothing. -/
theorem claimStale_of_marked {st : Addr} {s u : State} (gat : u.gat = (claimStale st s).gat) : claimStale st u = u := by
  refine claimStatus_keeps _ fun p => (afterStale_eq_self_iff _).2 ?_
  rw [gat, recordAt_claimStale, if_pos rfl]
  exact ite_eq_or_eq ..

/-! ## A SNAPSHOT claim outside ISOLATED (R73) -/

/-- The bus state after a SNAPSHOT claim outside ISOLATED: absorbed, placed or owed. -/
def Bif.snapshotClaimed (b : Bif) : Bif :=
  if b.owedSnapshot = true ∨ b.queue.any TxEntry.unsentSnapshot = true then b
  else if b.queue.length < 24 then
    { b with owedSnapshot := false, queue := b.queue ++ [{ body := .snapshot none, disposition := .unsent, attempts := 0, seq := none }] }
  else { b with owedSnapshot := true }

theorem snapshotClaimed_eq {s : State} (mode : s.mbu.mode ≠ .isolated) : s.snapshotClaimed = s.setBif s.bus.snapshotClaimed := by
  unfold State.snapshotClaimed Bif.snapshotClaimed
  simp only [mode, ne_eq, not_false_eq_true, true_and, if_false, Claim.placed, State.entryOf]
  split_ifs <;> rfl

theorem snapshotClaimed_rx (b : Bif) (rx : List RxEntry) : ({ b with rx := rx } : Bif).snapshotClaimed = { b.snapshotClaimed with rx := rx } := by
  unfold Bif.snapshotClaimed
  dsimp only
  split_ifs <;> rfl

@[simp] theorem snapshotClaimed_rx_eq (b : Bif) : b.snapshotClaimed.rx = b.rx := by
  unfold Bif.snapshotClaimed; split_ifs <;> rfl

@[simp] theorem snapshotClaimed_idleWait (b : Bif) : b.snapshotClaimed.idleWait = b.idleWait := by
  unfold Bif.snapshotClaimed; split_ifs <;> rfl

/-- After a claim the SNAPSHOT is owed or stands unsent in the queue. -/
theorem snapshotClaimed_stands (b : Bif) :
    b.snapshotClaimed.owedSnapshot = true ∨ b.snapshotClaimed.queue.any TxEntry.unsentSnapshot = true := by
  unfold Bif.snapshotClaimed
  split_ifs with absorbed
  · exact absorbed
  · simp [TxEntry.unsentSnapshot]
  · exact Or.inl rfl

/-- A SNAPSHOT claim adds no REPLAY to the queue. -/
@[simp] theorem snapshotClaimed_unsentReplayFor (b : Bif) (st : Addr) :
    b.snapshotClaimed.queue.any (TxEntry.unsentReplayFor st) = b.queue.any (TxEntry.unsentReplayFor st) := by
  unfold Bif.snapshotClaimed
  split_ifs <;> simp [TxEntry.unsentReplayFor]

/-! ## The JOIN of a peer (R108 to R111) -/

/-- The member entry of a joiner after its JOIN (R98, R108). -/
def joinerEntry (s : State) (e : RxEntry) : Member :=
  { s.member e.frame.src with
      presence := .present, reported := some .joining, expected := e.frame.seq + 1, sync := .awaiting, attempts := 0, resyncOwed := false
      silence := s.timerH 3, resync := s.timerH 4 }

/-- A JOIN schedules a REPLAY (R111). -/
abbrev SchedulesReplay (s : State) (e : RxEntry) (mask : BitVec 16) : Prop :=
  s.mbu.mode = .active ∧ (∃ p, (recordAt s.gat e.frame.src p).status ≠ .empty) ∧ mask ≠ 0 ∧ (s.member e.frame.src).replay = .none
    ∧ s.bus.queue.any (TxEntry.unsentReplayFor e.frame.src) = false

/-- The member entry of a joiner after its JOIN is answered. -/
def answeredEntry (s : State) (e : RxEntry) (mask : BitVec 16) : Member :=
  if SchedulesReplay s e mask then
    { joinerEntry s e with replay := .scheduled, replayTimer := .running s.tmb.localCount ((s.own.val + 1) * 10) }
  else joinerEntry s e

@[simp] theorem set_set {α : Type} (t : Tab α) (i : Fin 16) (v w : α) : (t.set i v).set i w = t.set i w := Tab.ext_get fun j => by
  by_cases h : j = i <;> simp [Tab.get_set, h]

@[simp] theorem setMember_setMember (s : State) (a : Addr) (m m' : Member) : (s.setMember a m).setMember a m' = s.setMember a m' := by
  simp [State.setMember, State.setMbu]

/-- The Membership Unit stage of a peer's JOIN. -/
theorem mbuStage_join_peer {e : RxEntry} {mask : BitVec 16} (body : e.frame.body = .join mask) (peer : e.origin = .peer) {s : State}
    (other : (s.member e.frame.src).presence ≠ .self) :
    mbuStage e s =
      let marked := s.setMember e.frame.src (joinerEntry s e)
      if s.mbu.mode = .active then considerReplay e.frame.src mask (claimSnapshot (claimStale e.frame.src marked)) else marked := by
  have heard : mbuStage e s = joinHeard e.frame.src e.frame.seq mask (restartSilence e.frame.src s) := by
    simp [mbuStage, peer, peerHeard, other, peerClassHandling, body]
  have entry : (restartSilence e.frame.src s).setMember e.frame.src
      { (restartSilence e.frame.src s).member e.frame.src with
          presence := .present, reported := some .joining, expected := e.frame.seq + 1, sync := .awaiting, attempts := 0, resyncOwed := false
          resync := (restartSilence e.frame.src s).timerH 4 } = s.setMember e.frame.src (joinerEntry s e) := by
    rw [member_restartSilence]
    exact setMember_setMember ..
  rw [heard]
  unfold joinHeard
  rw [entry]
  rfl

/-- A REPLAY is considered after the joiner's block is marked and the SNAPSHOT claimed (R111). -/
theorem considerReplay_marked {e : RxEntry} {mask : BitVec 16} {s u : State} (active : s.mbu.mode = .active)
    (members : u.mbu.members = s.mbu.members.set e.frame.src (joinerEntry s e)) (tmb : u.tmb = s.tmb) (loader : u.loader = s.loader)
    (statuses : ∀ p, (recordAt u.gat e.frame.src p).status = .empty ↔ (recordAt s.gat e.frame.src p).status = .empty)
    (queue : u.bus.queue.any (TxEntry.unsentReplayFor e.frame.src) = s.bus.queue.any (TxEntry.unsentReplayFor e.frame.src)) :
    considerReplay e.frame.src mask u = u.setMember e.frame.src (answeredEntry s e mask) := by
  have member : u.member e.frame.src = joinerEntry s e := by
    unfold State.member
    rw [members, Tab.get_set_self]
  have schedules : u.replayMayBeScheduled e.frame.src mask = true ↔ SchedulesReplay s e mask := by
    unfold State.replayMayBeScheduled SchedulesReplay
    rw [member, queue]
    simp only [Bool.and_eq_true, Tab.any_iff, bne_iff_ne, beq_iff_eq, Bool.not_eq_true', ne_eq, and_assoc, active, true_and]
    exact and_congr_left fun _ => exists_congr fun p => not_congr (statuses p)
  unfold considerReplay answeredEntry
  rw [member]
  by_cases h : SchedulesReplay s e mask
  · rw [if_pos h, if_pos (schedules.2 h)]
    unfold State.timer State.replayWaitMs State.own
    rw [tmb, loader]
  · rw [if_neg h, if_neg (mt schedules.1 h), ← member]
    simp [State.setMember, State.setMbu, State.member]

/-- The state after the stages of a peer's JOIN: the block marked, the SNAPSHOT claimed in ACTIVE, the joiner's entry. -/
theorem deliverStages_join_peer {e : RxEntry} {mask : BitVec 16} (body : e.frame.body = .join mask) (peer : e.origin = .peer) {s : State}
    (other : (s.member e.frame.src).presence ≠ .self) :
    deliverStages e s =
      { claimStale e.frame.src (s.setMember e.frame.src (joinerEntry s e)) with
          mbu := { s.mbu with members := s.mbu.members.set e.frame.src (answeredEntry s e mask) }
          bus := if s.mbu.mode = .active then s.bus.snapshotClaimed else s.bus } := by
  have stages : deliverStages e s = claimStale e.frame.src (mbuStage e s) := by
    simp [deliverStages, gtuStage, psqStage, tmbStage, body]
  rw [stages, mbuStage_join_peer body peer other]
  dsimp only
  by_cases active : s.mbu.mode = .active
  · rw [if_pos active, if_pos active, claimSnapshot_eq, snapshotClaimed_eq (by simp [active]), considerReplay_marked active]
    · rw [claimStale_of_marked (s := s.setMember e.frame.src (joinerEntry s e)) (by simp)]
      refine State.eq_of_units ?_ ?_ ?_ ?_ ?_ ?_ ?_ ?_ ?_ ?_ ?_ ?_ ?_ <;> simp
    case statuses =>
      intro p
      rw [State.setBif_gat, recordAt_claimStale, if_pos rfl]
      by_cases h : (recordAt s.gat e.frame.src p).status = .empty <;> simp [h]
    all_goals simp
  · have unanswered : answeredEntry s e mask = joinerEntry s e := if_neg fun h => active h.1
    rw [if_neg active, if_neg active, unanswered]
    refine State.eq_of_units ?_ ?_ ?_ ?_ ?_ ?_ ?_ ?_ ?_ ?_ ?_ ?_ ?_ <;> simp

/-! ## The own JOIN (R118) -/

theorem deliverStages_join_own {e : RxEntry} {mask : BitVec 16} (body : e.frame.body = .join mask) (own : e.origin ≠ .peer) (s : State) :
    deliverStages e s = claimStale e.frame.src (s.setMbu
      (if s.mbu.joinState = .pending then { s.mbu with joinState := .opened, joinWindow := .running s.tmb.localCount (3 * s.heartbeatMs) }
       else s.mbu)) := by
  have stages : deliverStages e s = claimStale e.frame.src (openJoinWindow s) := by
    simp [deliverStages, gtuStage, psqStage, tmbStage, mbuStage, ownHeard, body, own]
  rw [stages]
  unfold openJoinWindow
  cases h : s.mbu.joinState <;> rfl

/-! ## The statement -/

/-- What the marking of a block leaves, from a state that differs in the Membership Unit, to the end of the delivery (R8, R24). -/
theorem endDelivery_marked {s u : State} {mbu : Mbu} (st : Addr) (runs : mbu.mode.loggerRuns = true)
    (gat : u.gat = (claimStale st (s.setMbu mbu)).gat) (hrn : u.hrn = (claimStale st (s.setMbu mbu)).hrn)
    (jnl : u.jnl = (claimStale st (s.setMbu mbu)).jnl) :
    let t := endDelivery u
    (∀ p, recordAt t.gat st p = { recordAt s.gat st p with status := if (recordAt s.gat st p).status = .empty then .empty else .stale })
    ∧ (∀ a, a ≠ st → t.gat.get a = s.gat.get a)
    ∧ ((∃ p, (recordAt s.gat st p).status = .current ∨ (recordAt s.gat st p).status = .lost) →
        Reviewed s.conf t.gat s.hrn t.hrn ∧ Offered s t [.stationStale st s.tmb.groupTime])
    ∧ ((∀ p, (recordAt s.gat st p).status = .empty ∨ (recordAt s.gat st p).status = .stale) → t.hrn = s.hrn ∧ t.jnl = s.jnl) := by
  intro t
  have gat' : t.gat = (claimStale st (s.setMbu mbu)).gat := by simp [t, gat]
  have hrn' : t.hrn = (claimStale st (s.setMbu mbu)).hrn := by simp [t, hrn]
  have jnl' : t.jnl = (claimStale st (s.setMbu mbu)).jnl := by simp [t, jnl]
  obtain ⟨changes, keeps⟩ := claimStale_notices st (s := s.setMbu mbu) runs
  unfold Offered
  rw [gat', hrn', jnl']
  exact ⟨fun p => by rw [recordAt_claimStale, if_pos rfl]; rfl, fun a => get_claimStale_of_ne (s.setMbu mbu), changes, keeps⟩

/-- Settles O37: a peer's JOIN by `deliverStages_join_peer`, the own one by `deliverStages_join_own`. -/
theorem joinIsAnsweredOrOpensTheWindow : Obligations.JoinIsAnsweredOrOpensTheWindow := by
  refine ⟨?_, ?_⟩
  · intro s e rest mask runs rx body peer st m other schedules heard claimed
    have exec := exec_delivery_head runs rx
    have stages := deliverStages_join_peer body peer other
    rw [body] at exec
    generalize deliverStages e s = u at exec stages
    obtain ⟨records, others, changes, keeps⟩ := endDelivery_marked (s := s) (u := u) st (loggerRuns_of_runs runs)
      (mbu := (s.setMember st (joinerEntry s e)).mbu) (by rw [stages]; rfl) (by rw [stages]; rfl) (by rw [stages]; rfl)
    have members : (endDelivery u).mbu = { s.mbu with members := s.mbu.members.set st (answeredEntry s e mask) } := by rw [stages]; simp [st]
    have member : (endDelivery u).member st = answeredEntry s e mask := by
      unfold State.member
      rw [members]
      exact Tab.get_set_self ..
    have bus : u.bus = if s.mbu.mode = .active then s.bus.snapshotClaimed else s.bus := by rw [stages]
    have claimed_eq : claimed = { s with bus := { u.bus with rx := rest } } := by
      unfold claimed heard
      rw [bus]
      by_cases active : s.mbu.mode = .active
      · rw [if_pos active, if_pos active, snapshotClaimed_eq (by simp [active]), State.setBif, snapshotClaimed_rx]
      · rw [if_neg active, if_neg active]
    have queue : (endDelivery u).bus.queue = u.bus.queue := by simp
    have owed : (endDelivery u).bus.owedSnapshot = u.bus.owedSnapshot := by simp
    refine ⟨endDelivery u, exec, ?_, ?_, endDelivery_settled ?_, ?_, fun a h => ?_, ?_, records, others, changes, keeps, fun active => ?_,
      fun inactive => ?_, fun h free => ?_, fun h => ?_⟩
    · rw [stages]; simp
    · rw [stages]; simp
    · rw [bus]; split <;> simp
    · have freed := endDelivery_bus (s := u) (e := e) (rest := rest) (by rw [bus]; split <;> simpa using rx)
      rw [claimed_eq]
      refine State.eq_of_units ?_ ?_ ?_ ?_ ?_ ?_ ?_ ?_ freed ?_ ?_ ?_ ?_ <;> simp [stages]
    · unfold State.member
      rw [members]
      exact Tab.get_set_of_ne _ _ _ _ h
    · rw [member]
      unfold answeredEntry
      split <;> rfl
    · rw [queue, owed, bus, if_pos active]
      exact snapshotClaimed_stands s.bus
    · have unanswered : answeredEntry s e mask = joinerEntry s e := if_neg fun h => inactive h.1
      rw [queue, owed, bus, if_neg inactive, member, unanswered]
      exact ⟨rfl, rfl, rfl⟩
    · obtain ⟨active, filled, points, idle⟩ := h
      have answered : answeredEntry s e mask =
          { joinerEntry s e with replay := .scheduled, replayTimer := .running s.tmb.localCount ((s.own.val + 1) * 10) } :=
        if_pos ⟨active, filled, points, idle, free⟩
      rw [member, answered]
      exact ⟨rfl, rfl⟩
    · have unanswered : answeredEntry s e mask = joinerEntry s e := if_neg fun ⟨active, filled, points, idle, free⟩ => by
        rcases h with h | h
        · exact h ⟨active, filled, points, idle⟩
        · rw [free] at h; cases h
      rw [member, unanswered]
      exact ⟨rfl, rfl⟩
  · intro s e rest mask runs rx body own
    have exec := exec_delivery_head runs rx
    have stages := deliverStages_join_own body own s
    rw [body] at exec
    generalize deliverStages e s = u at exec stages
    obtain ⟨mbu, hmbu⟩ : ∃ mbu, mbu = if s.mbu.joinState = .pending then { s.mbu with joinState := .opened, joinWindow := .running s.tmb.localCount (3 * s.heartbeatMs) }
       else s.mbu := ⟨_, rfl⟩
    rw [← hmbu] at stages ⊢
    have mode : mbu.mode = s.mbu.mode := by rw [hmbu]; split <;> rfl
    subst stages
    obtain ⟨records, others, changes, keeps⟩ := endDelivery_marked e.frame.src (by rw [mode]; exact loggerRuns_of_runs runs) rfl rfl rfl
    refine ⟨_, exec, endDelivery_settled (by simp), ?_, records, others, changes, keeps⟩
    have bus := endDelivery_bus (s := claimStale e.frame.src (s.setMbu mbu)) (e := e) (rest := rest) (by simpa using rx)
    refine State.eq_of_units ?_ ?_ ?_ ?_ ?_ ?_ ?_ ?_ (by simpa using bus) ?_ ?_ ?_ ?_ <;> simp

end Sys2Proof.Machine
end

section
/-! What a command is made of, for the invariants of points, queue and claims: an operation that moves none of them, or one
of the shared operations that do. A predicate that those keep is kept by every step. -/
namespace Sys2Proof.Machine

/-! ## Operations that move no point, entry or claim -/

/-- The modes in which a JOIN, a RESYNC REQUEST or a REPLAY may wait only for a full queue (R90, R124). -/
abbrev ServesAll (m : Mode) : Prop := m = .loading ∨ m = .joining ∨ m = .active

/-- Between two states no queue entry has moved, and no claim has come to wait. -/
structure ClaimsStand (s t : State) : Prop where
  queue : t.bus.queue = s.bus.queue
  owedSnapshot : t.bus.owedSnapshot = s.bus.owedSnapshot
  owedJoin : t.bus.owedJoin = s.bus.owedJoin
  pendingAck : t.pnl.pendingAck = s.pnl.pendingAck
  pendingReset : t.pnl.pendingReset = s.pnl.pendingReset
  owed : ∀ p, (t.point p).owed = (s.point p).owed
  requests : ∀ a, (t.member a).resyncOwed = true → (s.member a).resyncOwed = true
  replays : ∀ a, (t.member a).replay = .due → (s.member a).replay = .due
  mode : ServesAll t.mbu.mode → ServesAll s.mbu.mode

/-- Besides, no sequence state or condition of a point and no qualified condition has moved. -/
structure Undisturbed (s t : State) : Prop extends ClaimsStand s t where
  points : ∀ p, (t.point p).state = (s.point p).state ∧ (t.point p).condition = (s.point p).condition ∧ (t.point p).field = (s.point p).field
  qualified : ∀ p, (t.fieldPoint p).qualified = (s.fieldPoint p).qualified

theorem Undisturbed.trans {s t u : State} (h : Undisturbed s t) (h' : Undisturbed t u) : Undisturbed s u where
  queue := h'.queue.trans h.queue
  owedSnapshot := h'.owedSnapshot.trans h.owedSnapshot
  owedJoin := h'.owedJoin.trans h.owedJoin
  pendingAck := h'.pendingAck.trans h.pendingAck
  pendingReset := h'.pendingReset.trans h.pendingReset
  owed p := (h'.owed p).trans (h.owed p)
  requests a ha := h.requests a (h'.requests a ha)
  replays a ha := h.replays a (h'.replays a ha)
  mode hm := h.mode (h'.mode hm)
  points p := by
    obtain ⟨state, condition, field⟩ := h.points p
    obtain ⟨state', condition', field'⟩ := h'.points p
    exact ⟨state'.trans state, condition'.trans condition, field'.trans field⟩
  qualified p := (h'.qualified p).trans (h.qualified p)

/-- Operations on the other parts of the units leave points, queue and claims undisturbed. -/
theorem Undisturbed.of_units {s t : State} (queue : t.bus.queue = s.bus.queue := by simp)
    (owedSnapshot : t.bus.owedSnapshot = s.bus.owedSnapshot := by simp) (owedJoin : t.bus.owedJoin = s.bus.owedJoin := by simp)
    (psq : t.psq = s.psq := by simp) (fiu : t.fiu = s.fiu := by simp) (pnl : t.pnl = s.pnl := by simp)
    (members : t.mbu.members = s.mbu.members := by simp) (mode : t.mbu.mode = s.mbu.mode := by simp) : Undisturbed s t where
  queue := queue
  owedSnapshot := owedSnapshot
  owedJoin := owedJoin
  pendingAck := by rw [pnl]
  pendingReset := by rw [pnl]
  owed p := by unfold State.point; rw [psq]
  points p := by unfold State.point; rw [psq]; exact ⟨rfl, rfl, rfl⟩
  qualified p := by unfold State.fieldPoint; rw [fiu]
  requests a := by unfold State.member; rw [members]; exact id
  replays a := by unfold State.member; rw [members]; exact id
  mode := by rw [mode]; exact id

theorem Undisturbed.refl (s : State) : Undisturbed s s := .of_units rfl rfl rfl rfl rfl rfl rfl rfl

/-- A member entry rewritten without a new claim. -/
theorem undisturbed_setMember {s : State} (a : Addr) {m : Member} (requests : m.resyncOwed = true → (s.member a).resyncOwed = true)
    (replays : m.replay = .due → (s.member a).replay = .due) : Undisturbed s (s.setMember a m) :=
  { Undisturbed.refl s with
    requests := fun b => by
      rw [State.member_setMember]; split
      · rename_i h; rw [h]; exact requests
      · exact id
    replays := fun b => by
      rw [State.member_setMember]; split
      · rename_i h; rw [h]; exact replays
      · exact id }

theorem undisturbed_settleIdleWait (s : State) : Undisturbed s (settleIdleWait s) := .of_units

theorem undisturbed_restartIdleWait (s : State) : Undisturbed s (restartIdleWait s) := .of_units

theorem undisturbed_claimStale (st : Addr) (s : State) : Undisturbed s (claimStale st s) := .of_units

theorem undisturbed_gtuStage (f : Frame) (s : State) : Undisturbed s (gtuStage f s) := .of_units

theorem undisturbed_tmbStage (f : Frame) (s : State) : Undisturbed s (tmbStage f s) := by
  refine .of_units ?_ ?_ ?_ <;> (unfold tmbStage; cases f.body <;> simp [applyMark])

theorem undisturbed_endDelivery (s : State) : Undisturbed s (endDelivery s) := .of_units

theorem undisturbed_abandonFrame (reason : AbandonReason) (s : State) : Undisturbed s (abandonFrame reason s) := by
  rcases abandonFrame_spec reason s with e | e <;> rw [e]
  · exact .of_units (by simp [completeGap]) (by simp [completeGap]) (by simp [completeGap]) (by simp [completeGap]) (by simp [completeGap])
      (by simp [completeGap]) (by simp [completeGap]) (by simp [completeGap])
  · exact .of_units

theorem undisturbed_enterHalted (cause : HaltCause) (s : State) : Undisturbed s (enterHalted cause s) where
  queue := by simp [enterHalted]
  owedSnapshot := by simp [enterHalted]
  owedJoin := by simp [enterHalted]
  pendingAck := by simp
  pendingReset := by simp
  owed p := by unfold State.point; simp
  points p := by unfold State.point; simp
  qualified p := by unfold State.fieldPoint; simp
  requests a := by unfold State.member; simp [enterHalted, Mbu.holdTimers, Member.holdTimers]
  replays a := by unfold State.member; simp [enterHalted, Mbu.holdTimers, Member.holdTimers]
  mode := by simp [ServesAll]

theorem undisturbed_receiveFrame (bytes : List Byte) (s : State) : Undisturbed s (receiveFrame bytes s) := by
  have line : Undisturbed s (s.setLine .seeking) := .of_units
  have clash : Undisturbed s (s.setBif { s.bus with line := .seeking, idleWait := .stopped, probe := .stopped, clash := true }) :=
    .of_units rfl rfl rfl rfl rfl rfl rfl rfl
  unfold receiveFrame
  dsimp only
  split
  · exact line
  · split
    · unfold clashFound
      dsimp only
      split
      · exact clash.trans (undisturbed_enterHalted ..)
      · exact clash
    · split
      · exact line
      · exact line.trans .of_units

theorem FieldPoint.qualified_sample (c : PointConfig) (high : Bool) (f : FieldPoint) : (f.sample c high).qualified = f.qualified := by
  unfold FieldPoint.sample FieldPoint.compare
  (repeat' split) <;> rfl

theorem undisturbed_takeTick (points : BitVec 16) (buttons : ButtonLevels) (s : State) : Undisturbed s (takeTick points buttons s) := by
  unfold takeTick
  dsimp only
  split
  · refine { Undisturbed.refl s with qualified := fun p => ?_ }
    simp [sampleInputs, Fiu.sample, State.fieldPoint, FieldPoint.qualified_sample]
  · exact .of_units rfl rfl rfl rfl rfl rfl rfl rfl

theorem undisturbed_declareAbsent (st : Addr) (s : State) : Undisturbed s (declareAbsent st s) := by
  have cleared : Undisturbed s (s.setMember st (s.member st).gone) := undisturbed_setMember st (by simp [Member.gone]) (by simp [Member.gone])
  exact cleared.trans (by unfold declareAbsent; exact .of_units)

theorem undisturbed_snapshotHeard (st : Addr) (c : SeqNo) (s : State) : Undisturbed s (snapshotHeard st c s) := by
  unfold snapshotHeard
  dsimp only
  split
  · have offered : ∀ r u, Undisturbed u (offerRecord r u) := fun _ _ => .of_units
    refine Undisturbed.trans ?_ (offered ..)
    exact undisturbed_setMember st (by simp) id
  · exact undisturbed_setMember st id id

theorem undisturbed_considerReplay (st : Addr) (mask : BitVec 16) (s : State) : Undisturbed s (considerReplay st mask s) := by
  unfold considerReplay
  split
  · exact undisturbed_setMember st id (by simp)
  · exact .refl s

theorem undisturbed_closeJoin (s : State) : Undisturbed s (closeJoin s) := .of_units rfl rfl rfl rfl rfl rfl rfl rfl

theorem undisturbed_joinComplete {s : State} (joining : s.mbu.mode = .joining) : Undisturbed s (changeMode .active .joinComplete s) where
  queue := by simp
  owedSnapshot := by simp
  owedJoin := by simp
  pendingAck := by simp
  pendingReset := by simp
  owed p := by unfold State.point; simp
  points p := by unfold State.point; simp
  qualified p := by unfold State.fieldPoint; simp
  requests a := by unfold State.member; simp
  replays a := by unfold State.member; simp
  mode _ := Or.inr (Or.inl joining)

theorem undisturbed_beginLoading (straps : BitVec 4) (s : State) : Undisturbed s (beginLoading straps s) := by
  have straps' : Undisturbed s ((s.setPins { s.pins with resetLow := false, straps := straps }).setLoader { s.loader with address := strapAddress straps }) := .of_units
  exact straps'.trans (undisturbed_setMember _ id id)

/-- The units take their configuration at the end of LOADING; the JOIN is then claimed (R189). -/
theorem loadAccepted_eq_claimJoin {s : State} (loading : s.mbu.mode = .loading) (c : StationConfig) :
    ∃ u, Undisturbed s u ∧ loadAccepted c s = claimJoin u := by
  unfold loadAccepted
  refine ⟨_, ⟨⟨?_, ?_, ?_, ?_, ?_, fun p => ?_, fun a => ?_, fun a => ?_, fun _ => Or.inl loading⟩, fun p => ?_, fun p => ?_⟩, rfl⟩
  all_goals simp [State.fieldPoint, State.member, State.point, PointRecord.configure]

/-! ## The commands -/

/-- A predicate that the shared operations of the commands keep. -/
structure KeptByOperations (P : State → Prop) : Prop where
  undisturbed : ∀ {s t}, Undisturbed s t → P s → P t
  coldState : ∀ low s, P (coldState low s)
  qualify : ∀ {s} p, P s → P (qualify p s)
  drainStep : ∀ {s}, P s → P (drainStep s)
  ackTaken : ∀ {s} mask, P s → P (takeRequest mask .alert .ack s)
  resetTaken : ∀ {s} mask, P s → P (takeRequest mask .returned .reset s)
  adoptReplay : ∀ {s} es, P s → P (adoptReplay es s)
  freshStart : ∀ {s}, P s → P (freshStart s)
  claimSnapshot : ∀ {s}, P s → P (claimSnapshot s)
  claimJoin : ∀ {s}, P s → P (claimJoin s)
  claimAck : ∀ {s}, P s → P (claimAck s)
  claimReset : ∀ {s}, P s → P (claimReset s)
  claimResync : ∀ {s} a, P s → P (claimResync a s)
  claimReplay : ∀ {s} a, P s → P (claimReplay a s)
  withdrawReplay : ∀ {s} a, P s → P (withdrawReplay a s)
  winContention : ∀ {s} c, P s → P (winContention c s)
  chargeAttempt : ∀ {s} c, P s → P (chargeAttempt c s)
  completeFrame : ∀ {s} c f, P s → P (completeFrame c f s)
  passLooped : ∀ {s}, P s → P (passLooped s)

namespace KeptByOperations

variable {P : State → Prop} (K : KeptByOperations P) {s t : State}
include K

theorem settled (hs : P s) : P (settleIdleWait s) := K.undisturbed (undisturbed_settleIdleWait s) hs

theorem restarted (hs : P s) : P (restartIdleWait s) := K.undisturbed (undisturbed_restartIdleWait s) hs

theorem beginWait (st : Addr) (hs : P s) : P (beginWait st s) :=
  K.undisturbed (undisturbed_claimStale ..) (K.claimResync st (K.undisturbed (undisturbed_setMember st id id) hs))

theorem streamHeard (st : Addr) (c : SeqNo) (b : Body) (hs : P s) : P (streamHeard st c b s) := by
  have heard := fun (m : Member) h h' => K.undisturbed (undisturbed_setMember (s := s) st (m := m) h h') hs
  unfold Machine.streamHeard
  dsimp only
  split
  · exact K.beginWait st (heard _ id id)
  · exact heard _ id id

theorem joinHeard (st : Addr) (c : SeqNo) (mask : BitVec 16) (hs : P s) : P (joinHeard st c mask s) := by
  have heard := fun (m : Member) h h' => K.undisturbed (undisturbed_setMember (s := s) st (m := m) h h') hs
  unfold Machine.joinHeard
  dsimp only
  split
  · exact K.undisturbed (undisturbed_considerReplay ..)
      (K.claimSnapshot (K.undisturbed (undisturbed_claimStale ..) (heard _ (by simp) id)))
  · exact heard _ (by simp) id

theorem peerHeard (f : Frame) (hs : P s) : P (peerHeard f s) := by
  have start : P (restartSilence f.src s) := K.undisturbed (undisturbed_setMember f.src id id) hs
  unfold Machine.peerHeard
  dsimp only
  split
  · exact hs
  · cases f.body with
    | join mask => exact K.joinHeard _ _ _ start
    | snapshot es => exact K.undisturbed (undisturbed_snapshotHeard ..) start
    | _ => exact K.streamHeard _ _ _ start

theorem peerClassHandling (e : RxEntry) (hs : P s) : P (peerClassHandling e s) := by
  unfold Machine.peerClassHandling
  cases e.frame.body with
  | resyncRequest target =>
    dsimp only
    split
    · exact K.claimSnapshot hs
    · exact hs
  | replay target es =>
    dsimp only
    split
    · exact K.undisturbed (undisturbed_closeJoin _) (K.withdrawReplay _ hs)
    · exact K.withdrawReplay _ hs
  | _ => exact hs

theorem ownHeard (e : RxEntry) (hs : P s) : P (ownHeard e s) := by
  unfold Machine.ownHeard
  cases e.frame.body with
  | join mask =>
    refine K.undisturbed ?_ hs
    dsimp only
    unfold openJoinWindow
    split <;> exact .of_units rfl rfl rfl rfl rfl rfl rfl rfl
  | snapshot es =>
    dsimp only
    split
    · rename_i joins; exact K.undisturbed (undisturbed_joinComplete joins.2) hs
    · exact hs
  | replay target es => exact K.withdrawReplay _ hs
  | _ => exact hs

theorem mbuStage (e : RxEntry) (hs : P s) : P (mbuStage e s) := by
  unfold Machine.mbuStage
  split
  · exact K.peerClassHandling e (K.peerHeard e.frame hs)
  · exact K.ownHeard e hs

theorem psqStage (passed : Bool) (f : Frame) (hs : P s) : P (psqStage passed f s) := by
  unfold Machine.psqStage
  cases f.body with
  | ack mask => exact K.ackTaken mask hs
  | reset mask => exact K.resetTaken mask hs
  | replay target es =>
    dsimp only
    split
    · exact K.adoptReplay es hs
    · exact hs
  | _ => exact hs

theorem deliver (cls : FrameClass) (hs : P s) (h : deliver cls s = .next t) : P t := by
  cases hd : s.deliverable cls with
  | none => rw [deliver_none hd] at h; cases h; exact hs
  | some e =>
    rw [deliver_some hd] at h
    cases h
    exact K.undisturbed (undisturbed_endDelivery _) (K.undisturbed (undisturbed_tmbStage ..)
      (K.psqStage _ _ (K.undisturbed (undisturbed_gtuStage ..) (K.mbuStage e hs))))

theorem finishRead (image : List Byte) (reading : s.reading = true) (hs : P s) : P (finishRead image s) := by
  have loading : s.mbu.mode = .loading := by
    simp only [State.reading, State.loadingRuns, Bool.and_eq_true, beq_iff_eq] at reading
    exact reading.1.2
  have loader : ∀ l, Undisturbed s (s.setLoader l) := fun l => .of_units
  unfold Machine.finishRead
  split
  · obtain ⟨u, undisturbed, eq⟩ := loadAccepted_eq_claimJoin loading ‹StationConfig›
    rw [eq]
    exact K.settled (K.claimJoin (K.undisturbed undisturbed hs))
  · split
    · exact K.undisturbed (loader _) hs
    · exact K.undisturbed ((loader _).trans (undisturbed_enterHalted ..)) hs

theorem press (b : Button) (hs : P s) : P (press b s) := by
  unfold Machine.press
  cases b with
  | ack => dsimp only; split; exacts [K.claimAck hs, hs]
  | reset => dsimp only; split; exacts [K.claimReset hs, hs]
  | silence => exact K.undisturbed .of_units hs
  | test =>
    have lampTest : Undisturbed s (s.setPnl { s.pnl with lampTest := true }) := { Undisturbed.refl s with }
    exact K.undisturbed .of_units (K.undisturbed lampTest hs)

theorem debounce (b : Button) (hs : P s) : P (debounce b s) := by
  have pressed : ∀ d, Undisturbed s (s.setPnl (s.pnl.setButton b d)) := fun d => by
    cases b <;> exact { Undisturbed.refl s with }
  have released : ∀ u, Undisturbed u (release b u) := fun u => by
    cases b <;> exact { Undisturbed.refl u with }
  unfold Machine.debounce
  dsimp only
  split
  · exact K.undisturbed ((pressed _).trans (released _)) hs
  · exact K.press b (K.undisturbed (pressed _) hs)

theorem resyncExpired (st : Addr) (hs : P s) : P (resyncExpired st s) := by
  unfold Machine.resyncExpired
  split
  · exact K.claimResync st (K.undisturbed (undisturbed_setMember st id id) hs)
  · exact K.undisturbed (undisturbed_declareAbsent st s) hs

omit K in
theorem arise {cond : Bool} {f : State → State} (h : Machine.arise cond f s = .next t) (hs : P s) (hf : cond = true → P (f s)) : P t :=
  arise_keeps hs hf h

/-- Every command keeps what the shared operations keep. -/
theorem exec {c : Instr} (hs : P s) (h : exec c s = .next t) : P t := by
  have line : ∀ l, Undisturbed s (s.setLine l) := fun l => .of_units
  cases c with
  | coldStart cause =>
    cases cause with
    | resetLow => rw [exec_coldStart_resetLow] at h; cases h; exact K.coldState _ _
    | powerOn straps => rw [exec_coldStart_powerOn] at h; cases h; exact K.undisturbed (undisturbed_beginLoading ..) (K.coldState _ _)
  | readStart => rw [exec_readStart] at h; exact arise h hs fun _ => K.undisturbed .of_units hs
  | readComplete image =>
    rw [exec_readComplete] at h
    split at h
    · exact arise h hs fun reading => K.finishRead image reading hs
    · cases h
  | tick points buttons => rw [exec_tick] at h; exact arise h hs fun _ => K.undisturbed (undisturbed_takeTick ..) hs
  | countdownExpiry p => rw [exec_countdownExpiry] at h; exact arise h hs fun _ => K.settled (K.qualify p hs)
  | drainTimerExpiry => rw [exec_drainTimerExpiry] at h; exact arise h hs fun _ => K.settled (K.drainStep hs)
  | debounce b => rw [exec_debounce] at h; exact arise h hs fun _ => K.settled (K.debounce b hs)
  | beginFrame =>
    rw [exec_beginFrame] at h
    unfold execBeginFrame at h
    split at h <;> cases h
    exacts [K.settled (K.undisturbed (line _) hs), hs]
  | loseContention =>
    rw [exec_loseContention] at h
    unfold execLoseContention at h
    split at h <;> cases h
    exacts [K.settled (K.undisturbed (line _) hs), hs]
  | winContention =>
    rw [exec_winContention] at h
    unfold execWinContention at h
    split at h <;> cases h
    exacts [K.settled (K.winContention _ hs), hs]
  | transmitError =>
    rw [exec_transmitError] at h
    unfold execTransmitError at h
    split at h <;> cases h
    exacts [K.restarted (K.chargeAttempt _ (K.undisturbed (line _) hs)), hs]
  | idleWaitExpiry =>
    rw [exec_idleWaitExpiry] at h
    unfold execIdleWaitExpiry at h
    split at h <;> cases h
    exacts [K.restarted (K.chargeAttempt _ hs), hs]
  | frameCompletion =>
    rw [exec_frameCompletion] at h
    unfold execFrameCompletion at h
    split at h <;> cases h
    exacts [K.restarted (K.completeFrame _ _ hs), hs, hs, hs, hs]
  | frameReceived bytes =>
    rw [exec_frameReceived] at h
    split at h
    · exact arise h hs fun _ => K.settled (K.undisturbed (undisturbed_receiveFrame ..) hs)
    · cases h
  | frameAbandoned reason => rw [exec_frameAbandoned] at h; exact arise h hs fun _ => K.undisturbed (undisturbed_abandonFrame ..) hs
  | addressClashHalt => rw [exec_addressClashHalt] at h; exact arise h hs fun _ => K.undisturbed (undisturbed_enterHalted ..) hs
  | loopbackPassage => rw [exec_loopbackPassage] at h; exact arise h hs fun _ => K.settled (K.passLooped hs)
  | deliverTimeMark => exact K.deliver _ hs h
  | deliverState => exact K.deliver _ hs h
  | deliverAck => exact K.deliver _ hs h
  | deliverReset => exact K.deliver _ hs h
  | deliverSnapshot => exact K.deliver _ hs h
  | deliverReplay => exact K.deliver _ hs h
  | deliverResyncRequest => exact K.deliver _ hs h
  | deliverJoin => exact K.deliver _ hs h
  | deliverHeartbeat => exact K.deliver _ hs h
  | heartbeatTimerExpiry => rw [exec_heartbeatTimerExpiry] at h; exact arise h hs fun _ => K.settled (K.undisturbed .of_units hs)
  | silenceTimerExpiry st => rw [exec_silenceTimerExpiry] at h; exact arise h hs fun _ => K.undisturbed (undisturbed_declareAbsent ..) hs
  | resyncTimerExpiry st => rw [exec_resyncTimerExpiry] at h; exact arise h hs fun _ => K.settled (K.resyncExpired st hs)
  | replayTimerExpiry st => rw [exec_replayTimerExpiry] at h; exact arise h hs fun _ => K.settled (K.claimReplay st hs)
  | joinWindowExpiry =>
    rw [exec_joinWindowExpiry] at h
    exact arise h hs fun _ => K.settled (K.freshStart (K.undisturbed (undisturbed_closeJoin s) hs))
  | probeTimerExpiry => rw [exec_probeTimerExpiry] at h; exact arise h hs fun _ => K.settled (K.undisturbed .of_units hs)
  | markTimerExpiry => rw [exec_markTimerExpiry] at h; exact arise h hs fun _ => K.settled (K.undisturbed .of_units hs)
  | stageTimerExpiry => rw [exec_stageTimerExpiry] at h; exact arise h hs fun _ => K.undisturbed .of_units hs
  | chimeTimerExpiry => rw [exec_chimeTimerExpiry] at h; exact arise h hs fun _ => K.undisturbed .of_units hs
  | logrdyChange high => rw [exec_logrdyChange] at h; cases h; exact K.undisturbed .of_units hs
  | recordDeparture => rw [exec_recordDeparture] at h; exact arise h hs fun _ => K.undisturbed .of_units hs
  | resetRelease straps => rw [exec_resetRelease] at h; exact arise h hs fun _ => K.undisturbed (undisturbed_beginLoading ..) hs
  | millisecond => rw [exec_millisecond] at h; exact arise h hs fun _ => K.undisturbed .of_units hs
  | idleGap => rw [exec_idleGap] at h; exact arise h hs fun _ => K.undisturbed (undisturbed_abandonFrame .idleGapBeforeEnd s) hs

/-- Every step keeps what the shared operations keep. -/
theorem step (hs : P s) (h : step s = .next t) : P t :=
  step_keeps (fun _ _ => K.undisturbed .of_units) (fun _ _ _ => K.exec) hs h

end KeptByOperations
end Sys2Proof.Machine
end

section
/-! What the operations leave of the Point Table's records: all but the owed flag and the missed count, where no event is
taken (R26, R37, R38, R40, R41). -/
namespace Sys2Proof.Machine

/-- Between two states the records of the Point Table keep all but the owed flag and the missed count. -/
abbrev RecordsStand (s t : State) : Prop :=
  ∀ p, t.point p = { s.point p with owed := (t.point p).owed, missed := (t.point p).missed }

theorem RecordsStand.trans {s t u : State} (h : RecordsStand s t) (h' : RecordsStand t u) : RecordsStand s u := by
  intro p
  have later := h' p
  rw [h p] at later
  exact later

theorem recordsStand_of_psq {s t : State} (psq : t.psq = s.psq := by simp) : RecordsStand s t := by
  intro p; unfold State.point; rw [psq]

theorem RecordsStand.of_points {s t u : State} (points : u.psq.points = t.psq.points) (h : RecordsStand s t) : RecordsStand s u := by
  intro p
  have same : u.point p = t.point p := by unfold State.point; rw [points]
  rw [same]
  exact h p

@[simp] theorem State.point_setPoint (s : State) (p q : Point) (r : PointRecord) :
    (s.setPoint p r).point q = if q = p then r else s.point q := Tab.get_set ..

theorem recordsStand_setPoint {s : State} {p : Point} {r : PointRecord} (h : r = { s.point p with owed := r.owed, missed := r.missed }) :
    RecordsStand s (s.setPoint p r) := by
  intro q
  rw [State.point_setPoint]
  split
  · rename_i e; rw [e]; exact h
  · rfl

theorem recordsStand_supersede (s : State) : RecordsStand s (supersede s) := by
  intro p; simp [supersede, State.point, PointRecord.settled]

theorem recordsStand_placed (s : State) (c : Claim) : RecordsStand s (Claim.placed s c) := by
  cases c with
  | state p => exact recordsStand_setPoint (s := s) (p := p) (r := { s.point p with owed := false, missed := 0 }) rfl
  | snapshot =>
    unfold Claim.placed
    dsimp only
    split
    · intro p; simp [State.point]
    · exact recordsStand_of_psq rfl
  | _ => exact recordsStand_of_psq rfl

theorem recordsStand_served (s : State) : RecordsStand s s.served :=
  offeredTimes_induction (kept := RecordsStand) (fun _ => recordsStand_of_psq rfl) (fun s c _ h => (recordsStand_placed s c).trans h) _ s

theorem recordsStand_offers (s : State) : RecordsStand s (offers s) := by rw [offers_eq_served]; exact recordsStand_served s

theorem recordsStand_snapshotClaimed (s : State) : RecordsStand s s.snapshotClaimed := by
  unfold State.snapshotClaimed
  split_ifs
  · exact recordsStand_of_psq rfl
  · exact (recordsStand_placed s .snapshot).trans (recordsStand_served _)
  · exact recordsStand_placed s .snapshot
  · exact recordsStand_of_psq rfl

theorem recordsStand_claimSnapshot (s : State) : RecordsStand s (claimSnapshot s) := by
  rw [claimSnapshot_eq]; exact recordsStand_snapshotClaimed s

theorem recordsStand_withdrawReplay (a : Addr) (s : State) : RecordsStand s (withdrawReplay a s) := by
  unfold withdrawReplay
  dsimp only
  split
  · exact RecordsStand.trans (recordsStand_of_psq rfl) (recordsStand_offers _)
  · exact recordsStand_of_psq rfl

theorem recordsStand_beginCandidate (c : Candidate) (s : State) : RecordsStand s (beginCandidate c s) := by
  have begun (e rest) : RecordsStand s (beginHead e rest s) := by
    unfold beginHead
    cases e.body with
    | snapshot contents => exact RecordsStand.trans (recordsStand_supersede (s.setQueue _)) (recordsStand_offers _)
    | _ => exact recordsStand_of_psq rfl
  unfold beginCandidate
  cases c with
  | queueHead =>
    dsimp only
    (repeat' split)
    exacts [recordsStand_of_psq rfl, begun _ _, recordsStand_of_psq rfl]
  | _ => dsimp only; (repeat' split) <;> exact recordsStand_of_psq rfl

theorem recordsStand_winContention (c : Candidate) (s : State) : RecordsStand s (winContention c s) := by
  unfold winContention
  dsimp only
  split <;> exact recordsStand_beginCandidate c s

theorem recordsStand_enterIsolated (s : State) : RecordsStand s (enterIsolated s) := by
  intro p
  unfold enterIsolated State.point
  dsimp only
  split <;> simp [Psq.superseded, PointRecord.settled]

theorem recordsStand_afterDiscard (s : State) : RecordsStand s (afterDiscard s) := by
  have counted : RecordsStand s (countDiscard s) := recordsStand_of_psq
  unfold afterDiscard
  dsimp only
  split
  · exact counted.trans ((recordsStand_enterIsolated _).trans (recordsStand_offers _))
  · exact counted.trans (recordsStand_offers _)

theorem recordsStand_settleDiscard (e : TxEntry) (s : State) : RecordsStand s (settleDiscard e s) := by
  unfold settleDiscard
  cases e.body with
  | state b =>
    dsimp only
    unfold oweDiscarded
    split
    · exact recordsStand_of_psq rfl
    · exact recordsStand_setPoint rfl
  | _ => exact recordsStand_of_psq rfl

theorem recordsStand_chargeAttempt (c : Candidate) (s : State) : RecordsStand s (chargeAttempt c s) := by
  have discarded {u : State} (h : RecordsStand s u) : RecordsStand s (afterDiscard u) := h.trans (recordsStand_afterDiscard u)
  unfold chargeAttempt
  cases c with
  | markSlot =>
    dsimp only
    (repeat' split)
    exacts [recordsStand_of_psq rfl, recordsStand_of_psq rfl, discarded (recordsStand_of_psq rfl)]
  | heartbeatSlot =>
    dsimp only
    (repeat' split)
    exacts [recordsStand_of_psq rfl, recordsStand_of_psq rfl, recordsStand_of_psq rfl, discarded (recordsStand_of_psq rfl)]
  | queueHead =>
    dsimp only
    (repeat' split)
    exacts [recordsStand_of_psq rfl, recordsStand_of_psq rfl, discarded (recordsStand_settleDiscard _ (s.setQueue _))]

theorem recordsStand_exitIsolated (s : State) : RecordsStand s (exitIsolated s) := by
  have active : RecordsStand s (offers (claimSnapshot (changeMode .active .probeComplete (s.setBif { s.bus with streak := 0, probe := .stopped })))) :=
    (recordsStand_of_psq (by simp)).trans ((recordsStand_claimSnapshot _).trans (recordsStand_offers _))
  unfold exitIsolated
  dsimp only
  split
  · refine .trans (recordsStand_of_psq ?_) (recordsStand_offers _)
    split <;> simp
  · exact active
  · exact active

theorem recordsStand_completeFrame (c : Candidate) (f : Frame) (s : State) : RecordsStand s (completeFrame c f s) := by
  unfold completeFrame
  dsimp only
  split
  · exact .trans (recordsStand_of_psq (by simp)) (recordsStand_exitIsolated _)
  · exact .trans (recordsStand_of_psq (by simp)) (recordsStand_offers _)

theorem recordsStand_passLooped (s : State) : RecordsStand s (passLooped s) := by
  unfold passLooped
  (repeat' split)
  exacts [recordsStand_of_psq rfl, recordsStand_of_psq rfl, .trans (recordsStand_of_psq (by simp)) (recordsStand_offers _)]

theorem recordsStand_announce (p : Point) (s : State) : RecordsStand s (announce p s) := by
  unfold announce
  dsimp only
  (repeat' split)
  · exact recordsStand_of_psq rfl
  · rw [serveOwed_eq_placed]; exact recordsStand_placed s (.state p)
  · exact recordsStand_setPoint rfl

/-! ## An event of a point -/

/-- The record that an event leaves of a point, before its announcement: by R44 in HOLDING, by the grid otherwise. -/
def PointRecord.after (phase : Phase) (r : PointRecord) (ev : PointEvent) (stamp : Millis) : PointRecord :=
  if phase = .holding then r.inHolding ev stamp else (r.byGrid ev stamp).1

/-- An event moves the one point, and its announcement no more than owed flags and missed counts. -/
theorem recordsStand_takeEvent (p : Point) (ev : PointEvent) (stamp : Millis) (s : State) :
    RecordsStand (s.setPoint p ((s.point p).after s.psq.phase ev stamp)) (takeEvent p ev stamp s) := by
  unfold takeEvent PointRecord.after
  cases s.psq.phase with
  | running =>
    rw [if_neg nofun]
    dsimp only
    split
    · exact recordsStand_announce p _
    · exact recordsStand_of_psq rfl
  | _ => exact recordsStand_of_psq rfl

theorem PointRecord.field_byGrid (r : PointRecord) (ev : PointEvent) (stamp : Millis) : (r.byGrid ev stamp).1.field = ev.field r.field := by
  unfold PointRecord.byGrid
  dsimp only
  split <;> rfl

theorem PointRecord.field_after (phase : Phase) (r : PointRecord) (ev : PointEvent) (stamp : Millis) :
    (r.after phase ev stamp).field = ev.field r.field := by
  unfold PointRecord.after
  split
  · unfold PointRecord.inHolding
    cases ev with
    | activate => dsimp only; split <;> rfl
    | clear => dsimp only; split <;> rfl
    | _ => rfl
  · exact r.field_byGrid ev stamp

end Sys2Proof.Machine
end

section
/-! State and condition of every point agree, and the qualified condition is the field condition, through every step (R26,
R27, R50). -/
namespace Sys2Proof.Machine

/-! ## One record -/

/-- State and condition of a record agree (R26). -/
abbrev RecordAgrees (r : PointRecord) : Prop :=
  (r.state = .held → r.condition = .active) ∧ (r.state = .normal → r.condition = .normal) ∧ (r.state = .returned → r.condition = .normal)

/-- Every entry of the grid leaves state and condition in agreement (R26, R29). -/
theorem recordAgrees_byGrid {r : PointRecord} (h : RecordAgrees r) (ev : PointEvent) (stamp : Millis) : RecordAgrees (r.byGrid ev stamp).1 := by
  obtain ⟨inUse, zone, priority, state, condition, field, old, cause, owed, missed⟩ := r
  cases ev with
  | unshelve c => cases state <;> cases c <;> simp_all [RecordAgrees, PointRecord.byGrid, grid]
  | _ => cases state <;> cases condition <;> simp_all [RecordAgrees, PointRecord.byGrid, grid]

theorem recordAgrees_inHolding {r : PointRecord} (h : RecordAgrees r) (ev : PointEvent) (stamp : Millis) : RecordAgrees (r.inHolding ev stamp) := by
  unfold PointRecord.inHolding
  cases ev with
  | activate => dsimp only; split <;> simp_all [RecordAgrees]
  | clear => dsimp only; split <;> simp_all [RecordAgrees]
  | shelve => simp [RecordAgrees]
  | unshelve c => simp [RecordAgrees]
  | _ => exact h

theorem recordAgrees_after {r : PointRecord} (h : RecordAgrees r) (phase : Phase) (ev : PointEvent) (stamp : Millis) :
    RecordAgrees (r.after phase ev stamp) := by
  unfold PointRecord.after
  split
  · exact recordAgrees_inHolding h ev stamp
  · exact recordAgrees_byGrid h ev stamp

/-- Adoption sets the condition to agree with the adopted state (R45). -/
theorem recordAgrees_adopt {r : PointRecord} (h : RecordAgrees r) (e : Entry) : RecordAgrees (r.adopt e) := by
  unfold PointRecord.adopt
  split
  · cases e.state <;> simp [RecordAgrees, adoptedState, adoptedCondition]
  · exact h

/-- Reconciliation moves a record through the grid to its field condition, which it keeps (R46). -/
theorem recordAgrees_reconcile {r : PointRecord} (h : RecordAgrees r) (stamp : Millis) :
    RecordAgrees (r.reconcile stamp) ∧ (r.reconcile stamp).field = r.field := by
  unfold PointRecord.reconcile
  split
  · split
    · rename_i hf
      exact ⟨recordAgrees_byGrid h _ _, by rw [PointRecord.field_byGrid, hf]; rfl⟩
    · rename_i hf
      exact ⟨recordAgrees_byGrid h _ _, by rw [PointRecord.field_byGrid, hf]; rfl⟩
    · exact ⟨h, rfl⟩
    · exact ⟨h, rfl⟩
  · exact ⟨h, rfl⟩

/-! ## Every point -/

/-- R26's agreement at every point, and R50's of the qualified with the field condition. -/
abbrev ConditionsAgree (s : State) : Prop := ∀ p, RecordAgrees (s.point p) ∧ (s.fieldPoint p).qualified = (s.point p).field

theorem ConditionsAgree.recordsStand {s t : State} (hs : ConditionsAgree s) (stand : RecordsStand s t) (fiu : t.fiu = s.fiu := by simp) :
    ConditionsAgree t := by
  intro p
  have qualified : t.fieldPoint p = s.fieldPoint p := by unfold State.fieldPoint; rw [fiu]
  rw [qualified, stand p]
  exact hs p

/-- An event keeps the agreement of a point whose qualified condition is the field condition that the event leaves. -/
theorem conditionsAgree_takeEvent {s : State} (p : Point) (ev : PointEvent) (stamp : Millis) (agree : ∀ q, RecordAgrees (s.point q))
    (moved : (s.fieldPoint p).qualified = ev.field (s.point p).field)
    (others : ∀ q, q ≠ p → (s.fieldPoint q).qualified = (s.point q).field) : ConditionsAgree (takeEvent p ev stamp s) := by
  refine ConditionsAgree.recordsStand (s := s.setPoint p ((s.point p).after s.psq.phase ev stamp)) (fun q => ?_) (recordsStand_takeEvent p ev stamp s)
  have fiu : (s.setPoint p ((s.point p).after s.psq.phase ev stamp)).fieldPoint q = s.fieldPoint q := rfl
  rw [State.point_setPoint, fiu]
  split
  · rename_i e
    rw [e, PointRecord.field_after]
    exact ⟨recordAgrees_after (agree p) _ _ _, moved⟩
  · exact ⟨agree q, others q ‹_›⟩

theorem ConditionsAgree.takeEvent {s : State} (hs : ConditionsAgree s) (p : Point) (ev : PointEvent) (stamp : Millis)
    (kept : ev.field (s.point p).field = (s.point p).field) : ConditionsAgree (takeEvent p ev stamp s) :=
  conditionsAgree_takeEvent p ev stamp (fun q => (hs q).1) (by rw [kept]; exact (hs p).2) (fun q _ => (hs q).2)

@[simp] theorem State.fieldPoint_setFieldPoint (s : State) (p q : Point) (f : FieldPoint) :
    (s.setFieldPoint p f).fieldPoint q = if q = p then f else s.fieldPoint q := Tab.get_set ..

theorem conditionsAgree_countActivation {s : State} (hs : ConditionsAgree s) (p : Point) : ConditionsAgree (countActivation p s) := by
  have counted : ConditionsAgree (s.setFieldPoint p { s.fieldPoint p with chatter := satIncr (s.fieldPoint p).chatter }) := by
    intro q
    rw [State.fieldPoint_setFieldPoint]
    split
    · rename_i e; rw [e]; exact hs p
    · exact hs q
  unfold countActivation
  dsimp only
  (repeat' split)
  · exact hs
  · exact counted.takeEvent p _ _ rfl
  · exact counted

/-- A qualified change takes the qualified condition and the field condition to the raw one together (R50, R53). -/
theorem conditionsAgree_qualify {s : State} (hs : ConditionsAgree s) (p : Point) : ConditionsAgree (qualify p s) := by
  have event (ev : PointEvent) (h : ev.field (s.point p).field = (s.fieldPoint p).raw) :
      ConditionsAgree (takeEvent p ev s.fiu.tickStamp (s.setFieldPoint p { s.fieldPoint p with qualified := (s.fieldPoint p).raw, due := false })) := by
    refine conditionsAgree_takeEvent p ev _ (fun q => (hs q).1) ?_ fun q hq => ?_
    · rw [State.fieldPoint_setFieldPoint, if_pos rfl]; exact h.symm
    · rw [State.fieldPoint_setFieldPoint, if_neg hq]; exact (hs q).2
  unfold qualify
  dsimp only
  split
  · rename_i raw; exact conditionsAgree_countActivation (event .activate raw.symm) p
  · rename_i raw; exact event .clear raw.symm

theorem conditionsAgree_drainStep {s : State} (hs : ConditionsAgree s) : ConditionsAgree (drainStep s) := by
  have drained : ConditionsAgree
      (s.setFiu { s.fiu with points := .ofFn fun p => (s.fieldPoint p).drain (s.conf.points.get p), drainCount := 0 }) := by
    intro p
    have same : ((s.fieldPoint p).drain (s.conf.points.get p)).qualified = (s.fieldPoint p).qualified := by
      unfold FieldPoint.drain; split <;> rfl
    simp only [State.fieldPoint, State.setFiu_fiu, Tab.get_ofFn] at same ⊢
    rw [same]
    exact hs p
  refine foldl_invariant ConditionsAgree _ (fun u p hu => ?_) _ _ drained
  unfold releasePoint
  split
  · exact hu.takeEvent p _ _ (hu p).2
  · exact hu

theorem conditionsAgree_takeRequest {s : State} (hs : ConditionsAgree s) (mask : ZoneMask) (acts : SeqState) {ev : PointEvent}
    (kept : ∀ c, ev.field c = c) : ConditionsAgree (takeRequest mask acts ev s) := by
  unfold takeRequest
  split
  · refine foldl_invariant ConditionsAgree _ (fun u p hu => ?_) _ _ hs
    split
    · exact hu.takeEvent p _ _ (kept _)
    · exact hu
  · exact hs

theorem conditionsAgree_reconcileAll {s : State} (hs : ConditionsAgree s) : ConditionsAgree (reconcileAll s) := by
  refine ConditionsAgree.recordsStand (fun p => ?_) (recordsStand_claimSnapshot _)
  obtain ⟨agrees, field⟩ := recordAgrees_reconcile (hs p).1 s.tmb.groupTime
  simp only [State.point, State.setPsq_psq, Tab.get_map] at agrees field ⊢
  rw [field]
  exact ⟨agrees, (hs p).2⟩

theorem conditionsAgree_adoptReplay {s : State} (hs : ConditionsAgree s) (es : Tab Entry) : ConditionsAgree (adoptReplay es s) := by
  unfold adoptReplay
  split
  · refine conditionsAgree_reconcileAll fun p => ?_
    have field : ((s.point p).adopt (es.get p)).field = (s.point p).field := by unfold PointRecord.adopt; split <;> rfl
    have point : (s.setPsq { s.psq with points := .ofFn fun p => (s.point p).adopt (es.get p) }).point p = (s.point p).adopt (es.get p) :=
      Tab.get_ofFn ..
    rw [point, field]
    exact ⟨recordAgrees_adopt (hs p).1 _, (hs p).2⟩
  · exact hs
  · exact hs

theorem conditionsAgree_coldState (low : Bool) (s : State) : ConditionsAgree (coldState low s) := by
  intro p
  have point : (coldState low s).point p = .cold := Tab.get_fill ..
  have fieldPoint : (coldState low s).fieldPoint p = .cold := Tab.get_fill ..
  rw [point, fieldPoint]
  decide

theorem conditionsAgree_kept : KeptByOperations ConditionsAgree where
  undisturbed h hs p := by
    obtain ⟨state, condition, field⟩ := h.points p
    rw [h.qualified p, field]
    unfold RecordAgrees
    rw [state, condition]
    exact hs p
  coldState := conditionsAgree_coldState
  qualify p hs := conditionsAgree_qualify hs p
  drainStep := conditionsAgree_drainStep
  ackTaken mask hs := conditionsAgree_takeRequest hs mask _ fun _ => rfl
  resetTaken mask hs := conditionsAgree_takeRequest hs mask _ fun _ => rfl
  adoptReplay es hs := conditionsAgree_adoptReplay hs es
  freshStart hs := by
    unfold freshStart
    split
    exacts [conditionsAgree_reconcileAll hs, hs, hs]
  claimSnapshot hs := hs.recordsStand (recordsStand_claimSnapshot _)
  claimJoin hs := hs.recordsStand recordsStand_of_psq
  claimAck hs := hs.recordsStand recordsStand_of_psq
  claimReset hs := hs.recordsStand recordsStand_of_psq
  claimResync _ hs := hs.recordsStand recordsStand_of_psq
  claimReplay _ hs := hs.recordsStand recordsStand_of_psq
  withdrawReplay a hs := hs.recordsStand (recordsStand_withdrawReplay a _)
  winContention c hs := hs.recordsStand (recordsStand_winContention c _)
  chargeAttempt c hs := hs.recordsStand (recordsStand_chargeAttempt c _)
  completeFrame c f hs := hs.recordsStand (recordsStand_completeFrame c f _)
  passLooped hs := hs.recordsStand (recordsStand_passLooped _)

/-- Settles O50: only the events of R29, R44, R45 and R46 move a record's state, condition or field condition, and each
leaves them in agreement. -/
theorem stepsKeepPointConditions : Obligations.StepsKeepPointConditions := by
  intro s s' agree field h
  have kept := conditionsAgree_kept.step (fun p => ⟨agree p, field p⟩) h
  exact ⟨fun p => (kept p).1, fun p => (kept p).2⟩

end Sys2Proof.Machine
end

section
/-! The announcement of a point and the service of claims: what each leaves of the queue and of the waiting claims (R37 to
R39, R73, R74). -/
namespace Sys2Proof.Machine

/-! ## Unsent STATE entries -/

/-- The number of unsent STATE entries for a point in a queue. -/
def unsentStates (p : Point) (queue : List TxEntry) : Nat := queue.countP (TxEntry.unsentStateFor p)

theorem unsentStates_eq_zero_iff (p : Point) (queue : List TxEntry) :
    unsentStates p queue = 0 ↔ queue.any (TxEntry.unsentStateFor p) = false := by
  simp [unsentStates]

theorem unsentStateFor_iff (p : Point) (e : TxEntry) :
    e.unsentStateFor p = true ↔ e.disposition = .unsent ∧ ∃ b, e.body = .state b ∧ b.point = p := by
  unfold TxEntry.unsentStateFor
  cases e.body <;> simp

theorem unsentStateFor_of_not_unsent {e : TxEntry} (h : e.disposition ≠ .unsent) (p : Point) : e.unsentStateFor p = false := by
  rw [← Bool.not_eq_true, unsentStateFor_iff]; exact fun h' => h h'.1

theorem unsentStateFor_of_not_state {e : TxEntry} (h : ∀ b, e.body ≠ .state b) (p : Point) : e.unsentStateFor p = false := by
  rw [← Bool.not_eq_true, unsentStateFor_iff]; rintro ⟨-, b, hb, -⟩; exact h b hb

theorem unsentStates_append (p : Point) (q q' : List TxEntry) : unsentStates p (q ++ q') = unsentStates p q + unsentStates p q' :=
  List.countP_append ..

theorem unsentStates_cons (p : Point) (e : TxEntry) (q : List TxEntry) :
    unsentStates p (e :: q) = (if e.unsentStateFor p then 1 else 0) + unsentStates p q := by
  unfold unsentStates; rw [List.countP_cons]; omega

/-- Rewriting an unsent STATE entry in place changes neither the length of the queue nor any point's unsent entries (R37). -/
theorem rewriteUnsent_counts (p : Point) (b : StateBody) (point : b.point = p) (queue : List TxEntry) :
    (rewriteUnsent p b queue).length = queue.length ∧ ∀ q, unsentStates q (rewriteUnsent p b queue) = unsentStates q queue := by
  induction queue with
  | nil => exact ⟨rfl, fun _ => rfl⟩
  | cons e rest ih =>
    unfold rewriteUnsent
    by_cases h : e.unsentStateFor p = true
    · obtain ⟨unsent, old, body, rfl⟩ := (unsentStateFor_iff ..).1 h
      rw [if_pos h, body]
      refine ⟨rfl, fun q => ?_⟩
      simp [unsentStates_cons, TxEntry.unsentStateFor, body, point]
    · rw [if_neg h]
      exact ⟨by simp [ih.1], fun q => by simp [unsentStates_cons, ih.2 q]⟩

/-! ## Offers one after another -/

/-- What the service of a first waiting claim keeps while an entry is free, the services of all claims keep. -/
theorem served_keeps {P : State → Prop}
    (placed : ∀ s c, s.bus.queue.length < 24 → s.firstClaim = some c → P s → P (Claim.placed s c)) {s : State} (hs : P s) : P s.served := by
  have times : ∀ n s, P s → P (s.offeredTimes n) := by
    intro n
    induction n with
    | zero => exact fun s hs => hs
    | succ n ih =>
      intro s hs
      unfold State.offeredTimes
      split
      · split
        · exact ih _ (placed s _ ‹_› ‹_› hs)
        · exact hs
      · exact hs
  exact times _ s hs

theorem holds_of_firstClaim {s : State} {c : Claim} (h : s.firstClaim = some c) : s.holds c = true := by
  have := List.find?_some h
  simp only [Bool.and_eq_true] at this
  exact this.1

theorem entryOf_body (s : State) (body : TxBody) (byte : SeqNo) : (s.entryOf body byte).body = body := by
  unfold State.entryOf; split <;> rfl

/-! ## The record of a point after an event -/

/-- An event leaves a record's settings, owed flag and missed count. -/
theorem PointRecord.after_frame (phase : Phase) (r : PointRecord) (ev : PointEvent) (stamp : Millis) :
    r.after phase ev stamp =
      { r with state := (r.after phase ev stamp).state, condition := (r.after phase ev stamp).condition, field := (r.after phase ev stamp).field
               stamp := (r.after phase ev stamp).stamp, cause := (r.after phase ev stamp).cause } := by
  unfold PointRecord.after
  split
  · unfold PointRecord.inHolding
    cases ev with
    | activate => dsimp only; split <;> rfl
    | clear => dsimp only; split <;> rfl
    | _ => rfl
  · unfold PointRecord.byGrid
    dsimp only
    split <;> rfl

theorem PointRecord.owed_after (phase : Phase) (r : PointRecord) (ev : PointEvent) (stamp : Millis) : (r.after phase ev stamp).owed = r.owed := by
  rw [PointRecord.after_frame]

/-- An event is the move of the point, announced where it is a transition in RUNNING. -/
theorem takeEvent_eq (p : Point) (ev : PointEvent) (stamp : Millis) (s : State) :
    takeEvent p ev stamp s =
      if s.psq.phase = .running ∧ ((s.point p).byGrid ev stamp).2 = true then announce p (s.setPoint p ((s.point p).after s.psq.phase ev stamp))
      else s.setPoint p ((s.point p).after s.psq.phase ev stamp) := by
  unfold takeEvent PointRecord.after
  cases s.psq.phase <;> simp

/-! ## Predicates of the queue and the waiting claims -/

/-- A predicate of the queue and the waiting claims that announcements, claims and offers keep. -/
structure KeptByClaims (P : State → Prop) : Prop where
  claimsStand : ∀ {s t}, ClaimsStand s t → P s → P t
  coldState : ∀ low s, P (coldState low s)
  announce : ∀ {s} p, P s → P (announce p s)
  claimSnapshot : ∀ {s}, P s → P (claimSnapshot s)
  claimJoin : ∀ {s}, P s → P (claimJoin s)
  claimAck : ∀ {s}, P s → P (claimAck s)
  claimReset : ∀ {s}, P s → P (claimReset s)
  claimResync : ∀ {s} a, P s → P (claimResync a s)
  claimReplay : ∀ {s} a, P s → P (claimReplay a s)
  withdrawReplay : ∀ {s} a, P s → P (withdrawReplay a s)
  winContention : ∀ {s} c, P s → P (winContention c s)
  chargeAttempt : ∀ {s} c, P s → P (chargeAttempt c s)
  completeFrame : ∀ {s} c f, P s → P (completeFrame c f s)
  passLooped : ∀ {s}, P s → P (passLooped s)

theorem ClaimsStand.refl (s : State) : ClaimsStand s s := (Undisturbed.refl s).toClaimsStand

theorem claimsStand_setPoint {s : State} {p : Point} {r : PointRecord} (owed : r.owed = (s.point p).owed) : ClaimsStand s (s.setPoint p r) :=
  { ClaimsStand.refl s with
    owed := fun q => by
      rw [State.point_setPoint]; split
      · rename_i e; rw [e]; exact owed
      · rfl }

theorem claimsStand_setPsq {s : State} {q : Psq} (owed : ∀ p, (q.points.get p).owed = (s.point p).owed) : ClaimsStand s (s.setPsq q) :=
  { ClaimsStand.refl s with owed := owed }

theorem claimsStand_setMember {s : State} (a : Addr) {m : Member} (requests : m.resyncOwed = true → (s.member a).resyncOwed = true)
    (replays : m.replay = .due → (s.member a).replay = .due) : ClaimsStand s (s.setMember a m) :=
  (undisturbed_setMember a requests replays).toClaimsStand

theorem claimsStand_setFiu (s : State) (f : Fiu) : ClaimsStand s (s.setFiu f) := { ClaimsStand.refl s with }

namespace KeptByClaims

variable {P : State → Prop} (K : KeptByClaims P) {s : State}
include K

theorem takeEvent (p : Point) (ev : PointEvent) (stamp : Millis) (hs : P s) : P (takeEvent p ev stamp s) := by
  have moved : P (s.setPoint p ((s.point p).after s.psq.phase ev stamp)) := K.claimsStand (claimsStand_setPoint (PointRecord.owed_after ..)) hs
  rw [takeEvent_eq]
  split
  · exact K.announce p moved
  · exact moved

theorem qualify (p : Point) (hs : P s) : P (qualify p s) := by
  have event (ev : PointEvent) (f : FieldPoint) : P (Machine.takeEvent p ev s.fiu.tickStamp (s.setFieldPoint p f)) :=
    K.takeEvent p ev _ (K.claimsStand (claimsStand_setFiu ..) hs)
  unfold Machine.qualify
  dsimp only
  split
  · unfold countActivation
    dsimp only
    (repeat' split)
    · exact event ..
    · exact K.takeEvent p _ _ (K.claimsStand (claimsStand_setFiu ..) (event ..))
    · exact K.claimsStand (claimsStand_setFiu ..) (event ..)
  · exact event ..

theorem drainStep (hs : P s) : P (drainStep s) := by
  refine foldl_invariant P _ (fun u p hu => ?_) _ _ (K.claimsStand (claimsStand_setFiu ..) hs)
  unfold releasePoint
  split
  · exact K.takeEvent p _ _ hu
  · exact hu

theorem takeRequest (mask : ZoneMask) (acts : SeqState) (ev : PointEvent) (hs : P s) : P (takeRequest mask acts ev s) := by
  unfold Machine.takeRequest
  split
  · refine foldl_invariant P _ (fun u p hu => ?_) _ _ hs
    split
    · exact K.takeEvent p _ _ hu
    · exact hu
  · exact hs

theorem reconcileAll (hs : P s) : P (reconcileAll s) := by
  refine K.claimSnapshot (K.claimsStand (claimsStand_setPsq fun p => ?_) hs)
  rw [Tab.get_map]
  unfold PointRecord.reconcile PointRecord.byGrid
  (repeat' split) <;> rfl

theorem adoptReplay (es : Tab Entry) (hs : P s) : P (adoptReplay es s) := by
  unfold Machine.adoptReplay
  split
  · refine K.reconcileAll (K.claimsStand (claimsStand_setPsq fun p => ?_) hs)
    rw [Tab.get_ofFn]
    unfold PointRecord.adopt
    split <;> rfl
  · exact hs
  · exact hs

theorem freshStart (hs : P s) : P (freshStart s) := by
  unfold Machine.freshStart
  split
  exacts [K.reconcileAll hs, hs, hs]

theorem keptByOperations : KeptByOperations P where
  undisturbed h := K.claimsStand h.toClaimsStand
  coldState := K.coldState
  qualify := K.qualify
  drainStep := K.drainStep
  ackTaken mask := K.takeRequest mask _ _
  resetTaken mask := K.takeRequest mask _ _
  adoptReplay := K.adoptReplay
  freshStart := K.freshStart
  claimSnapshot := K.claimSnapshot
  claimJoin := K.claimJoin
  claimAck := K.claimAck
  claimReset := K.claimReset
  claimResync := K.claimResync
  claimReplay := K.claimReplay
  withdrawReplay := K.withdrawReplay
  winContention := K.winContention
  chargeAttempt := K.chargeAttempt
  completeFrame := K.completeFrame
  passLooped := K.passLooped

end KeptByClaims

end Sys2Proof.Machine
end

section
/-! The limits of the transmit queue through every step: 24 entries, one unsent STATE for a point, and none for an owed one
(R38, R71). -/
namespace Sys2Proof.Machine

theorem queueHolds_iff (s : State) : QueueHolds s ↔
    s.bus.queue.length ≤ 24 ∧ ∀ p, unsentStates p s.bus.queue ≤ 1 ∧ ((s.point p).owed = true → unsentStates p s.bus.queue = 0) := by
  simp only [QueueHolds, ← unsentStates_eq_zero_iff]
  simp only [unsentStates, List.countP_eq_length_filter]

/-- No more entries than allowed, no more unsent STATEs than before, and no point newly owed beside one. -/
theorem QueueHolds.of_counts {s t : State} (hs : QueueHolds s) (length : t.bus.queue.length ≤ 24)
    (counts : ∀ p, unsentStates p t.bus.queue ≤ unsentStates p s.bus.queue)
    (owed : ∀ p, (t.point p).owed = true → (s.point p).owed = true ∨ unsentStates p t.bus.queue = 0) : QueueHolds t := by
  rw [queueHolds_iff] at hs ⊢
  refine ⟨length, fun p => ⟨(counts p).trans (hs.2 p).1, fun h => ?_⟩⟩
  rcases owed p h with h | h
  · have := counts p; have := (hs.2 p).2 h; omega
  · exact h

theorem QueueHolds.of_sublist {s t : State} (hs : QueueHolds s) (queue : t.bus.queue.Sublist s.bus.queue)
    (owed : ∀ p, (t.point p).owed = true → (s.point p).owed = true ∨ unsentStates p t.bus.queue = 0) : QueueHolds t :=
  hs.of_counts (queue.length_le.trans hs.1) (fun _ => queue.countP_le) owed

/-- The queue is the same and no point is newly owed. -/
theorem QueueHolds.of_same {s t : State} (hs : QueueHolds s) (queue : t.bus.queue = s.bus.queue := by simp)
    (psq : t.psq = s.psq := by simp) : QueueHolds t :=
  hs.of_sublist (by rw [queue]) fun p h => Or.inl (by unfold State.point at h ⊢; rwa [psq] at h)

/-- A free entry taken by a frame that is no STATE. -/
theorem QueueHolds.append {s t : State} (hs : QueueHolds s) (free : s.bus.queue.length < 24) {e : TxEntry} (body : ∀ b, e.body ≠ .state b)
    (queue : t.bus.queue = s.bus.queue ++ [e]) (owed : ∀ p, (t.point p).owed = true → (s.point p).owed = true) : QueueHolds t := by
  refine hs.of_counts (by rw [queue, List.length_append]; simp; omega) (fun p => ?_) fun p h => Or.inl (owed p h)
  rw [queue, unsentStates_append, unsentStates_cons, unsentStateFor_of_not_state body]
  simp [unsentStates]

/-- A point told in a free entry, with no unsent STATE of it in the queue. -/
theorem queueHolds_placed_state {s : State} (hs : QueueHolds s) (free : s.bus.queue.length < 24) {p : Point}
    (none : unsentStates p s.bus.queue = 0) : QueueHolds (Claim.placed s (.state p)) := by
  rw [queueHolds_iff] at hs ⊢
  obtain ⟨-, points⟩ := hs
  have point : ∀ q, (Claim.placed s (.state p)).point q = if q = p then { s.point p with owed := false, missed := 0 } else s.point q :=
    fun q => Tab.get_set ..
  refine ⟨by simp [Claim.placed]; omega, fun q => ?_⟩
  have count : unsentStates q (Claim.placed s (.state p)).bus.queue ≤ unsentStates q s.bus.queue + if q = p then 1 else 0 := by
    simp only [Claim.placed, unsentStates_append]
    unfold unsentStates
    rw [List.countP_singleton]
    by_cases h : q = p
    · rw [if_pos h]; split <;> omega
    · have other : (s.entryOf (.state (toldOf (s.point p) p ((s.point p).cause.getD .activate) (s.point p).missed)) (s.bus.counter + 1)).unsentStateFor q = false := by
        rw [← Bool.not_eq_true, unsentStateFor_iff]
        rintro ⟨-, b, hb, hq⟩
        rw [entryOf_body] at hb
        cases hb
        exact h hq.symm
      rw [other, if_neg h]; simp
  rw [point]
  by_cases h : q = p
  · rw [if_pos h] at count ⊢
    rw [h, none] at count
    exact ⟨by rw [h]; omega, nofun⟩
  · rw [if_neg h] at count ⊢
    have := (points q).1
    exact ⟨by omega, fun ho => by have := (points q).2 ho; omega⟩

/-- A claim that waits is placed in a free entry. -/
theorem queueHolds_placed {s : State} (hs : QueueHolds s) (free : s.bus.queue.length < 24) (c : Claim)
    (untold : ∀ p, c = .state p → unsentStates p s.bus.queue = 0) : QueueHolds (Claim.placed s c) := by
  have body {b byte} (h : ∀ b', b ≠ .state b') : ∀ b', (s.entryOf b byte).body ≠ .state b' := by rw [entryOf_body]; exact h
  cases c with
  | state p => exact queueHolds_placed_state hs free (untold p rfl)
  | snapshot =>
    unfold Claim.placed
    dsimp only
    split
    · have freed : QueueHolds (supersede s) := by
        refine hs.of_sublist ?_ fun p h => ?_
        · exact List.filter_sublist ..
        · simp [supersede, State.point, PointRecord.settled] at h
      refine freed.append ?_ (body (by simp)) rfl fun p h => ?_
      · exact lt_of_le_of_lt (List.length_filter_le ..) free
      · simp [State.point] at h
    · exact hs.append free (body (by simp)) rfl fun _ h => h
  | _ => exact hs.append free (body (by simp)) rfl fun _ h => h

theorem queueHolds_served {s : State} (hs : QueueHolds s) : QueueHolds s.served := by
  refine served_keeps (fun s c free first hs => queueHolds_placed hs free c ?_) hs
  rintro p rfl
  exact ((queueHolds_iff s).1 hs).2 p |>.2 (holds_of_firstClaim first)

theorem queueHolds_offers {s : State} (hs : QueueHolds s) : QueueHolds (offers s) := by rw [offers_eq_served]; exact queueHolds_served hs

theorem queueHolds_claimSnapshot {s : State} (hs : QueueHolds s) : QueueHolds (claimSnapshot s) := by
  rw [claimSnapshot_eq]
  unfold State.snapshotClaimed
  split_ifs with absorbed free
  · exact hs
  · exact queueHolds_served (queueHolds_placed hs free .snapshot nofun)
  · exact queueHolds_placed hs free .snapshot nofun
  · exact hs

theorem queueHolds_claimJoin {s : State} (hs : QueueHolds s) : QueueHolds (claimJoin s) := by
  rw [claimJoin_eq]
  unfold State.joinClaimed
  split_ifs with absorbed free
  · exact hs
  · exact queueHolds_placed hs free .join nofun
  · exact hs

/-- A frame that is no STATE, in the entry that a claim or a request makes. -/
theorem QueueHolds.entryFor {s t : State} (hs : QueueHolds s) (free : s.bus.hasFree = true) {body : TxBody} (other : ∀ b, body ≠ .state b)
    {isolated : Bool} (queue : t.bus.queue = s.bus.queue ++ [entryFor isolated s.bus body]) (psq : t.psq = s.psq) : QueueHolds t := by
  refine hs.append ((hasFree_iff _).1 free) (e := Machine.entryFor isolated s.bus body) ?_ queue fun p h => ?_
  · unfold Machine.entryFor; split <;> exact other
  · unfold State.point at h ⊢; rwa [psq] at h

theorem queueHolds_announce {s : State} (hs : QueueHolds s) (p : Point) : QueueHolds (announce p s) := by
  unfold announce
  dsimp only
  split
  · obtain ⟨length, counts⟩ := rewriteUnsent_counts p (announcement (s.point p) p 0) rfl s.bus.queue
    exact hs.of_counts (by rw [State.setQueue_bus, length]; exact hs.1) (fun q => (counts q).le) fun q h => Or.inl h
  · rename_i untold
    have none := (unsentStates_eq_zero_iff p s.bus.queue).2 (by simpa using untold)
    split
    · rename_i free
      rw [serveOwed_eq_placed]
      exact queueHolds_placed_state hs ((hasFree_iff _).1 free) none
    · refine hs.of_sublist (by simp) fun q h => ?_
      rw [State.point_setPoint] at h
      split at h
      · rename_i e; rw [e]; exact Or.inr none
      · exact Or.inl h

theorem queueHolds_of_claimsStand {s t : State} (h : ClaimsStand s t) (hs : QueueHolds s) : QueueHolds t :=
  hs.of_sublist (by rw [h.queue]) fun p ho => Or.inl (by rw [← h.owed p]; exact ho)

end Sys2Proof.Machine
end

section
/-! The limits of the transmit queue through every command (R38, R71). -/
namespace Sys2Proof.Machine

/-- Entries rewritten in place, none into an unsent STATE. -/
theorem unsentStates_cons_le {p : Point} {e e' : TxEntry} (rest : List TxEntry) (h : e'.unsentStateFor p = true → e.unsentStateFor p = true) :
    unsentStates p (e' :: rest) ≤ unsentStates p (e :: rest) := by
  rw [unsentStates_cons, unsentStates_cons]
  split
  · rw [if_pos (h ‹_›)]
  · omega

/-- The head of the queue is replaced, by no new unsent STATE. -/
theorem QueueHolds.head {s t : State} (hs : QueueHolds s) {e e' : TxEntry} {rest : List TxEntry} (before : s.bus.queue = e :: rest)
    (after : t.bus.queue = e' :: rest) (state : ∀ p, e'.unsentStateFor p = true → e.unsentStateFor p = true)
    (psq : t.psq = s.psq) : QueueHolds t := by
  refine hs.of_counts ?_ (fun p => ?_) fun p h => Or.inl ?_
  · have := hs.1; rw [before] at this; rw [after]; exact this
  · rw [before, after]; exact unsentStates_cons_le rest (state p)
  · unfold State.point at h ⊢; rwa [psq] at h

theorem queueHolds_supersede {s : State} (hs : QueueHolds s) : QueueHolds (supersede s) :=
  hs.of_sublist (List.filter_sublist ..) fun p h => by simp [supersede, State.point, PointRecord.settled] at h

theorem queueHolds_winContention {s : State} (hs : QueueHolds s) (c : Candidate) : QueueHolds (winContention c s) := by
  have begun : QueueHolds (beginCandidate c s) := by
    unfold beginCandidate
    split
    · (repeat' split) <;> exact hs
    · (repeat' split) <;> exact hs
    · split
      · exact hs
      · rename_i e rest queue
        split
        · have begun (e' : TxEntry) (h : e'.disposition = .begun) (p) : e'.unsentStateFor p = true → e.unsentStateFor p = true := fun hu => by
            rw [unsentStateFor_of_not_unsent (by simp [h])] at hu; cases hu
          unfold beginHead
          cases e.body with
          | snapshot contents =>
            refine queueHolds_offers (queueHolds_supersede ?_)
            exact hs.head queue rfl (begun _ rfl) rfl
          | _ => exact hs.head queue rfl (begun _ rfl) rfl
        · exact hs
  unfold winContention
  dsimp only
  split <;> exact begun.of_same rfl rfl

theorem loopBackQueue_spec (entries : Tab Entry) (counter : SeqNo) (queue : List TxEntry) :
    ∀ ended sup, (loopBackQueue entries counter ended sup queue).1.length ≤ queue.length
      ∧ ∀ e ∈ (loopBackQueue entries counter ended sup queue).1, e.disposition = .loopedBack := by
  induction queue with
  | nil => intro ended sup; exact ⟨Nat.le_refl _, nofun⟩
  | cons e rest ih =>
    have kept (e' : TxEntry) (he : e'.disposition = .loopedBack) (ended sup) :
        (e' :: (loopBackQueue entries counter ended sup rest).1).length ≤ (e :: rest).length
          ∧ ∀ x ∈ e' :: (loopBackQueue entries counter ended sup rest).1, x.disposition = .loopedBack :=
      ⟨Nat.succ_le_succ (ih ended sup).1, by simpa [he] using (ih ended sup).2⟩
    have dropped (ended sup) : (loopBackQueue entries counter ended sup rest).1.length ≤ (e :: rest).length
          ∧ ∀ x ∈ (loopBackQueue entries counter ended sup rest).1, x.disposition = .loopedBack :=
      ⟨(ih ended sup).1.trans (Nat.le_succ _), (ih ended sup).2⟩
    intro ended sup
    unfold loopBackQueue
    cases e.body with
    | state b =>
      cases e.seq with
      | some n => exact kept _ rfl _ _
      | none =>
        cases sup with
        | true => exact dropped _ _
        | false => exact kept _ rfl _ _
    | snapshot contents => cases contents <;> exact kept _ rfl _ _
    | ack mask => exact kept _ rfl _ _
    | reset mask => exact kept _ rfl _ _
    | _ => exact dropped _ _

/-- The queue at the entry to ISOLATED is no longer, and all of it looped back (R88). -/
theorem enterIsolated_queue (s : State) :
    (enterIsolated s).bus.queue.length ≤ s.bus.queue.length ∧ ∀ e ∈ (enterIsolated s).bus.queue, e.disposition = .loopedBack := by
  have queue : (enterIsolated s).bus.queue = (loopBackQueue (snapshotEntries s) s.bus.counter s.bus.lastEnded false s.bus.queue).1 := by
    unfold enterIsolated; rfl
  rw [queue]
  exact loopBackQueue_spec ..

theorem unsentStates_of_loopedBack {queue : List TxEntry} (h : ∀ e ∈ queue, e.disposition = .loopedBack) (p : Point) :
    unsentStates p queue = 0 := by
  rw [unsentStates_eq_zero_iff, List.any_eq_false]
  exact fun e he => by rw [unsentStateFor_of_not_unsent (by simp [h e he])]; simp

theorem queueHolds_enterIsolated {s : State} (length : s.bus.queue.length ≤ 24) : QueueHolds (enterIsolated s) := by
  obtain ⟨shorter, looped⟩ := enterIsolated_queue s
  refine (queueHolds_iff _).2 ⟨shorter.trans length, fun p => ?_⟩
  rw [unsentStates_of_loopedBack looped p]
  exact ⟨Nat.zero_le 1, fun _ => rfl⟩

theorem queueHolds_afterDiscard {s : State} (hs : QueueHolds s) : QueueHolds (afterDiscard s) := by
  have counted : QueueHolds (countDiscard s) := hs.of_same
  unfold afterDiscard
  dsimp only
  split
  · exact queueHolds_offers (queueHolds_enterIsolated counted.1)
  · exact queueHolds_offers counted

theorem queueHolds_settleDiscard {s : State} (hs : QueueHolds s) (e : TxEntry) : QueueHolds (settleDiscard e s) := by
  unfold settleDiscard
  cases e.body with
  | state b =>
    dsimp only
    unfold oweDiscarded
    split
    · exact hs.of_same rfl rfl
    · rename_i untold
      refine hs.of_sublist (by simp) fun p h => ?_
      rw [State.point_setPoint] at h
      split at h
      · rename_i e
        rw [e]
        exact Or.inr ((unsentStates_eq_zero_iff ..).2 (by simpa using untold))
      · exact Or.inl h
  | _ => exact hs.of_same rfl rfl

theorem queueHolds_chargeAttempt {s : State} (hs : QueueHolds s) (c : Candidate) : QueueHolds (chargeAttempt c s) := by
  unfold chargeAttempt
  cases c with
  | markSlot =>
    dsimp only
    (repeat' split)
    exacts [hs, hs.of_same rfl rfl, queueHolds_afterDiscard (hs.of_same rfl rfl)]
  | heartbeatSlot =>
    dsimp only
    (repeat' split)
    exacts [hs, hs.of_same rfl rfl, hs.of_same rfl rfl, queueHolds_afterDiscard (hs.of_same rfl rfl)]
  | queueHead =>
    dsimp only
    split
    · exact hs
    · rename_i e rest queue
      split
      · exact hs.head queue rfl (fun p h => h) rfl
      · refine queueHolds_afterDiscard (queueHolds_settleDiscard (s := s.setQueue rest) ?_ e)
        exact hs.of_sublist (by rw [queue]; exact List.sublist_cons_self ..) fun p h => Or.inl h

theorem queueHolds_exitIsolated {s : State} (hs : QueueHolds s) : QueueHolds (exitIsolated s) := by
  have active : QueueHolds (offers (claimSnapshot (changeMode .active .probeComplete (s.setBif { s.bus with streak := 0, probe := .stopped })))) :=
    queueHolds_offers (queueHolds_claimSnapshot (hs.of_same))
  unfold exitIsolated
  dsimp only
  split
  · refine queueHolds_offers (queueHolds_claimJoin ?_)
    split <;> exact hs.of_same
  · exact active
  · exact active

theorem queueHolds_completeFrame {s : State} (hs : QueueHolds s) (c : Candidate) (f : Frame) : QueueHolds (completeFrame c f s) := by
  have freed : ∀ b : Bif, QueueHolds ((releaseCandidate c f (receive f .line (s.setLine .seeking))).setBif
      { (releaseCandidate c f (receive f .line (s.setLine .seeking))).bus with streak := 0 }) := fun _ => by
    refine hs.of_sublist ?_ fun p h => Or.inl ?_
    · cases c with
      | queueHead => exact List.tail_sublist ..
      | _ => exact List.Sublist.refl _
    · unfold State.point at h ⊢; simpa using h
  unfold completeFrame
  dsimp only
  split
  · exact queueHolds_exitIsolated (freed s.bus)
  · exact queueHolds_offers (freed s.bus)

theorem passing_queue {s : State} {e : TxEntry} {rest : List TxEntry} (h : s.passing = some (e, rest)) : s.bus.queue = e :: rest := by
  unfold State.passing at h
  split at h
  · cases h
  · split at h <;> cases h
    assumption

theorem queueHolds_passLooped {s : State} (hs : QueueHolds s) : QueueHolds (passLooped s) := by
  unfold passLooped
  split
  · exact hs
  · rename_i e rest passing
    split
    · exact hs
    · refine queueHolds_offers (hs.of_sublist ?_ fun p h => Or.inl h)
      rw [passing_queue passing]
      exact List.sublist_cons_self ..

theorem queueHolds_withdrawReplay {s : State} (hs : QueueHolds s) (a : Addr) : QueueHolds (withdrawReplay a s) := by
  unfold withdrawReplay
  dsimp only
  split
  · exact queueHolds_offers (hs.of_sublist (List.filter_sublist ..) fun p h => Or.inl h)
  · exact hs.of_same

theorem queueHolds_kept : KeptByClaims QueueHolds where
  claimsStand := queueHolds_of_claimsStand
  coldState low s := (queueHolds_iff _).2 ⟨Nat.zero_le 24, fun p => ⟨Nat.zero_le 1, fun _ => rfl⟩⟩
  announce p hs := queueHolds_announce hs p
  claimSnapshot := queueHolds_claimSnapshot
  claimJoin := queueHolds_claimJoin
  claimAck hs := by
    unfold claimAck
    split_ifs with pending free
    exacts [hs, hs.entryFor free (by simp) rfl rfl, hs.of_same]
  claimReset hs := by
    unfold claimReset
    split_ifs with pending free
    exacts [hs, hs.entryFor free (by simp) rfl rfl, hs.of_same]
  claimResync a hs := by
    unfold claimResync
    split_ifs with place
    exacts [hs.entryFor (Bool.and_eq_true_iff.1 place).1 (by simp) rfl rfl, hs.of_same]
  claimReplay a hs := by
    unfold claimReplay
    split_ifs with place
    exacts [hs.entryFor (Bool.and_eq_true_iff.1 place).1 (by simp) rfl rfl, hs.of_same]
  withdrawReplay a hs := queueHolds_withdrawReplay hs a
  winContention c hs := queueHolds_winContention hs c
  chargeAttempt c hs := queueHolds_chargeAttempt hs c
  completeFrame c f hs := queueHolds_completeFrame hs c f
  passLooped := queueHolds_passLooped

end Sys2Proof.Machine
end

section
/-! A claim waits only while the queue is full, through every step (R73, R74, R90, R105, R112, R124, R139). -/
namespace Sys2Proof.Machine

/-- A waiting claim counts where its mode serves it at all. -/
abbrev MustWaitFull (s : State) (c : Claim) : Prop := s.holds c = true ∧ (c.passedOver = true → ServesAll s.mbu.mode)

theorem claimWaits_iff (s : State) : s.claimWaits = true ↔ ∃ c, s.holds c = true ∧ c.passedOver = false := by
  simp only [State.claimWaits, Bool.or_eq_true, Tab.any_iff]
  constructor
  · rintro (((⟨p, h⟩ | h) | h) | h)
    exacts [⟨.state p, h, rfl⟩, ⟨.snapshot, h, rfl⟩, ⟨.ack, h, rfl⟩, ⟨.reset, h, rfl⟩]
  · rintro ⟨c, h, behind⟩
    cases c with
    | state p => exact Or.inl (Or.inl (Or.inl ⟨p, h⟩))
    | snapshot => exact Or.inl (Or.inl (Or.inr h))
    | ack => exact Or.inl (Or.inr h)
    | reset => exact Or.inr h
    | _ => cases behind

theorem heldBackWaits_iff (s : State) : s.heldBackWaits = true ↔ ∃ c, s.holds c = true ∧ c.passedOver = true := by
  simp only [State.heldBackWaits, Bool.or_eq_true, Tab.any_iff]
  constructor
  · rintro (h | ⟨a, h | h⟩)
    exacts [⟨.join, h, rfl⟩, ⟨.resyncRequest a, h, rfl⟩, ⟨.replay a, h, rfl⟩]
  · rintro ⟨c, h, behind⟩
    cases c with
    | join => exact Or.inl h
    | resyncRequest a => exact Or.inr ⟨a, Or.inl h⟩
    | replay a => exact Or.inr ⟨a, Or.inr h⟩
    | _ => cases behind

theorem waitsOnlyWhenFull_iff (s : State) : WaitsOnlyWhenFull s ↔
    s.bus.queue.length ≤ 24 ∧ ∀ c, MustWaitFull s c → s.bus.queue.length = 24 := by
  simp only [WaitsOnlyWhenFull, claimWaits_iff, heldBackWaits_iff]
  refine and_congr_right fun _ => ⟨fun ⟨waits, heldBack⟩ c ⟨h, mode⟩ => ?_, fun all => ⟨fun ⟨c, h, behind⟩ => ?_, fun mode ⟨c, h, behind⟩ => ?_⟩⟩
  · cases behind : c.passedOver with
    | true => exact heldBack (mode behind) ⟨c, h, behind⟩
    | false => exact waits ⟨c, h, behind⟩
  · exact all c ⟨h, fun h' => by rw [behind] at h'; cases h'⟩
  · exact all c ⟨h, fun _ => mode⟩

/-- The queue is no shorter, and what newly waits does so beside a full one. -/
theorem WaitsOnlyWhenFull.of_holds {s t : State} (hs : WaitsOnlyWhenFull s) (length : t.bus.queue.length ≤ 24)
    (grows : s.bus.queue.length ≤ t.bus.queue.length) (holds : ∀ c, MustWaitFull t c → MustWaitFull s c ∨ 24 ≤ t.bus.queue.length) :
    WaitsOnlyWhenFull t := by
  rw [waitsOnlyWhenFull_iff] at hs ⊢
  refine ⟨length, fun c hc => ?_⟩
  rcases holds c hc with h | h
  · have := hs.2 c h; omega
  · omega

theorem WaitsOnlyWhenFull.of_same {s t : State} (hs : WaitsOnlyWhenFull s) (queue : t.bus.queue.length = s.bus.queue.length)
    (holds : ∀ c, t.holds c = true → s.holds c = true) (mode : t.mbu.mode = s.mbu.mode) : WaitsOnlyWhenFull t :=
  hs.of_holds (by rw [queue]; exact hs.1) queue.ge fun c hc => Or.inl ⟨holds c hc.1, by rw [← mode]; exact hc.2⟩

theorem length_placed_le (s : State) (c : Claim) : (Claim.placed s c).bus.queue.length ≤ s.bus.queue.length + 1 := by
  cases c with
  | snapshot =>
    unfold Claim.placed
    dsimp only
    split
    · have := List.length_filter_le (fun e : TxEntry => !e.unsentState) s.bus.queue
      simp; omega
    · simp
  | _ => simp [Claim.placed]

theorem length_served_le {s : State} (hs : s.bus.queue.length ≤ 24) : s.served.bus.queue.length ≤ 24 :=
  served_keeps (P := fun s => s.bus.queue.length ≤ 24) (fun s c free _ _ => (length_placed_le s c).trans free) hs

/-- When the free entries have been offered, a claim still waits only beside a full queue. -/
theorem waitsOnlyWhenFull_served {s : State} (hs : s.bus.queue.length ≤ 24) : WaitsOnlyWhenFull s.served := by
  refine (waitsOnlyWhenFull_iff _).2 ⟨length_served_le hs, fun c ⟨waits, mode⟩ => ?_⟩
  by_contra free
  have none := served_exhausts s (lt_of_le_of_ne (length_served_le hs) free)
  have passed := List.find?_eq_none.1 none c (mem_order c)
  rw [waits] at passed
  simp only [Bool.true_and, Bool.not_eq_true', Bool.not_eq_false, Bool.and_eq_true, beq_iff_eq] at passed
  have := mode passed.2
  rw [passed.1] at this
  simp [ServesAll] at this

theorem waitsOnlyWhenFull_offers {s : State} (hs : s.bus.queue.length ≤ 24) : WaitsOnlyWhenFull (offers s) := by
  rw [offers_eq_served]; exact waitsOnlyWhenFull_served hs

/-- A free entry taken, and no claim newly waiting. -/
theorem WaitsOnlyWhenFull.append {s t : State} (hs : WaitsOnlyWhenFull s) (free : s.bus.queue.length < 24) {e : TxEntry}
    (queue : t.bus.queue = s.bus.queue ++ [e]) (holds : ∀ c, t.holds c = true → s.holds c = true) (mode : t.mbu.mode = s.mbu.mode) :
    WaitsOnlyWhenFull t := by
  have length : t.bus.queue.length = s.bus.queue.length + 1 := by rw [queue]; simp
  exact hs.of_holds (by omega) (by omega) fun c hc => Or.inl ⟨holds c hc.1, by rw [← mode]; exact hc.2⟩

theorem holds_of_placed {s : State} {c c' : Claim} (h : (Claim.placed s c).holds c' = true) : s.holds c' = true := by
  cases c with
  | state p =>
    cases c' with
    | state q =>
      have point : (Claim.placed s (.state p)).point q = if q = p then { s.point p with owed := false, missed := 0 } else s.point q :=
        Tab.get_set ..
      simp only [State.holds, point] at h ⊢
      split at h
      · cases h
      · exact h
    | _ => exact h
  | snapshot =>
    by_cases isolated : s.mbu.mode = .isolated
    · cases c' with
      | state q => simp [State.holds, Claim.placed, isolated, State.point] at h
      | snapshot => simp [State.holds, Claim.placed, isolated] at h
      | _ => unfold Claim.placed at h; rw [if_pos isolated] at h; exact h
    · cases c' with
      | snapshot => simp [State.holds, Claim.placed, isolated] at h
      | _ => unfold Claim.placed at h; rw [if_neg isolated] at h; exact h
  | join => cases c' with
    | join => exact nomatch h
    | _ => exact h
  | ack => cases c' with
    | ack => exact nomatch h
    | _ => exact h
  | reset => cases c' with
    | reset => exact nomatch h
    | _ => exact h
  | resyncRequest a =>
    have cleared : ClaimsStand s (s.setMember a { s.member a with resyncOwed := false }) := claimsStand_setMember a (by simp) id
    cases c' with
    | resyncRequest b => exact cleared.requests b h
    | replay b => exact beq_iff_eq.2 (cleared.replays b (beq_iff_eq.1 h))
    | _ => exact h
  | replay a =>
    have cleared : ClaimsStand s (s.setMember a { s.member a with replay := .none }) := claimsStand_setMember a id (by simp)
    cases c' with
    | resyncRequest b => exact cleared.requests b h
    | replay b => exact beq_iff_eq.2 (cleared.replays b (beq_iff_eq.1 h))
    | _ => exact h

theorem waitsOnlyWhenFull_claimSnapshot {s : State} (hs : WaitsOnlyWhenFull s) : WaitsOnlyWhenFull (claimSnapshot s) := by
  rw [claimSnapshot_eq]
  unfold State.snapshotClaimed
  split_ifs with absorbed free isolated
  · exact hs
  · exact waitsOnlyWhenFull_served ((length_placed_le ..).trans free)
  · obtain ⟨e, queue, -⟩ := placed_appends s .snapshot isolated
    exact hs.append free queue (fun _ => holds_of_placed) (by rw [placed_frame])
  · exact hs.of_holds hs.1 (Nat.le_refl _) fun c hc => Or.inr (Nat.le_of_not_lt free)

theorem waitsOnlyWhenFull_claimJoin {s : State} (hs : WaitsOnlyWhenFull s) : WaitsOnlyWhenFull (claimJoin s) := by
  rw [claimJoin_eq]
  unfold State.joinClaimed
  split_ifs with absorbed free
  · exact hs
  · exact hs.append free rfl (fun _ => holds_of_placed) rfl
  · exact hs.of_holds hs.1 (Nat.le_refl _) fun c hc => Or.inr (Nat.le_of_not_lt free)

theorem holds_of_claimsStand {s t : State} (h : ClaimsStand s t) {c : Claim} (hc : t.holds c = true) : s.holds c = true := by
  cases c with
  | state p => exact (h.owed p).symm.trans hc
  | snapshot => exact h.owedSnapshot.symm.trans hc
  | join => exact h.owedJoin.symm.trans hc
  | ack => exact h.pendingAck.symm.trans hc
  | reset => exact h.pendingReset.symm.trans hc
  | resyncRequest a => exact h.requests a hc
  | replay a => exact beq_iff_eq.2 (h.replays a (beq_iff_eq.1 hc))

theorem waitsOnlyWhenFull_announce {s : State} (hs : WaitsOnlyWhenFull s) (p : Point) : WaitsOnlyWhenFull (announce p s) := by
  unfold announce
  dsimp only
  split
  · obtain ⟨length, -⟩ := rewriteUnsent_counts p (announcement (s.point p) p 0) rfl s.bus.queue
    exact hs.of_same length (fun _ h => h) rfl
  · split
    · rename_i free
      rw [serveOwed_eq_placed]
      exact hs.append ((hasFree_iff _).1 free) rfl (fun _ => holds_of_placed) rfl
    · rename_i full
      exact hs.of_holds hs.1 (Nat.le_refl _) fun c hc => Or.inr (by simpa [hasFree_iff] using full)

theorem waitsOnlyWhenFull_winContention {s : State} (hs : WaitsOnlyWhenFull s) (c : Candidate) : WaitsOnlyWhenFull (winContention c s) := by
  have begun : WaitsOnlyWhenFull (beginCandidate c s) := by
    unfold beginCandidate
    split
    · (repeat' split) <;> exact hs
    · (repeat' split) <;> exact hs
    · split
      · exact hs
      · rename_i e rest queue
        split
        · have length : ∀ e', (e' :: rest : List TxEntry).length = s.bus.queue.length := fun _ => by rw [queue]; rfl
          unfold beginHead
          cases e.body with
          | snapshot contents =>
            refine waitsOnlyWhenFull_offers ((List.length_filter_le ..).trans ?_)
            exact (length _).le.trans hs.1
          | _ => exact hs.of_same (length _) (fun _ h => h) rfl
        · exact hs
  unfold winContention
  dsimp only
  split
  · exact begun.of_same rfl (fun _ h => h) rfl
  · exact begun

theorem waitsOnlyWhenFull_afterDiscard {s : State} (hs : s.bus.queue.length ≤ 24) : WaitsOnlyWhenFull (afterDiscard s) := by
  unfold afterDiscard
  dsimp only
  refine waitsOnlyWhenFull_offers ?_
  split
  · exact (enterIsolated_queue _).1.trans hs
  · exact hs

theorem queue_settleDiscard (e : TxEntry) (s : State) : (settleDiscard e s).bus.queue = s.bus.queue := by
  unfold settleDiscard
  cases e.body with
  | state b => dsimp only; unfold oweDiscarded; split <;> rfl
  | _ => rfl

theorem waitsOnlyWhenFull_chargeAttempt {s : State} (hs : WaitsOnlyWhenFull s) (c : Candidate) : WaitsOnlyWhenFull (chargeAttempt c s) := by
  have same {u : State} (queue : u.bus.queue.length = s.bus.queue.length) := hs.of_same (t := u) queue
  unfold chargeAttempt
  cases c with
  | markSlot =>
    dsimp only
    (repeat' split)
    exacts [hs, same rfl (fun _ h => h) rfl, waitsOnlyWhenFull_afterDiscard hs.1]
  | heartbeatSlot =>
    dsimp only
    (repeat' split)
    exacts [hs, same rfl (fun _ h => h) rfl, same rfl (fun _ h => h) rfl, waitsOnlyWhenFull_afterDiscard hs.1]
  | queueHead =>
    dsimp only
    split
    · exact hs
    · rename_i e rest queue
      split
      · exact same (by rw [queue]; rfl) (fun _ h => h) rfl
      · refine waitsOnlyWhenFull_afterDiscard ?_
        have length := hs.1
        rw [queue_settleDiscard]
        rw [queue] at length
        exact (Nat.le_succ _).trans length

theorem length_claimSnapshot_le {s : State} (hs : s.bus.queue.length ≤ 24) : (claimSnapshot s).bus.queue.length ≤ 24 := by
  rw [claimSnapshot_eq]
  unfold State.snapshotClaimed
  split_ifs with absorbed free isolated
  · exact hs
  · exact length_served_le ((length_placed_le ..).trans free)
  · exact (length_placed_le ..).trans free
  · exact hs

theorem length_claimJoin_le {s : State} (hs : s.bus.queue.length ≤ 24) : (claimJoin s).bus.queue.length ≤ 24 := by
  rw [claimJoin_eq]
  unfold State.joinClaimed
  split_ifs with absorbed free
  · exact hs
  · exact (length_placed_le ..).trans free
  · exact hs

theorem waitsOnlyWhenFull_exitIsolated {s : State} (hs : s.bus.queue.length ≤ 24) : WaitsOnlyWhenFull (exitIsolated s) := by
  unfold exitIsolated
  dsimp only
  split
  · refine waitsOnlyWhenFull_offers (length_claimJoin_le ?_)
    split <;> simpa using hs
  · exact waitsOnlyWhenFull_offers (length_claimSnapshot_le (by simpa using hs))
  · exact waitsOnlyWhenFull_offers (length_claimSnapshot_le (by simpa using hs))

theorem waitsOnlyWhenFull_completeFrame {s : State} (hs : WaitsOnlyWhenFull s) (c : Candidate) (f : Frame) :
    WaitsOnlyWhenFull (completeFrame c f s) := by
  have length : (releaseCandidate c f (receive f .line (s.setLine .seeking))).bus.queue.length ≤ 24 := by
    refine Nat.le_trans ?_ hs.1
    cases c with
    | queueHead => exact (List.tail_sublist ..).length_le
    | _ => exact Nat.le_refl _
  unfold completeFrame
  dsimp only
  split
  · exact waitsOnlyWhenFull_exitIsolated length
  · exact waitsOnlyWhenFull_offers length

theorem waitsOnlyWhenFull_passLooped {s : State} (hs : WaitsOnlyWhenFull s) : WaitsOnlyWhenFull (passLooped s) := by
  unfold passLooped
  split
  · exact hs
  · rename_i e rest passing
    split
    · exact hs
    · refine waitsOnlyWhenFull_offers ?_
      have length := hs.1
      rw [passing_queue passing] at length
      exact (Nat.le_succ _).trans length

theorem not_mustWaitFull_of_isolated {s : State} {c : Claim} (behind : c.passedOver = true) (isolated : s.isolated = true) :
    ¬ MustWaitFull s c := by
  rintro ⟨-, mode⟩
  have mode := mode behind
  rw [show s.mbu.mode = .isolated by simpa [State.isolated] using isolated] at mode
  simp [ServesAll] at mode

/-- A member entry takes a claim that ISOLATED passes over: it waits in ISOLATED, and otherwise where no entry is free. -/
theorem WaitsOnlyWhenFull.setMember {s : State} (hs : WaitsOnlyWhenFull s) (a : Addr) (m : Member)
    (waits : ¬ (s.bus.hasFree && !s.isolated) = true) : WaitsOnlyWhenFull (s.setMember a m) := by
  refine hs.of_holds hs.1 (Nat.le_refl _) fun c hc => ?_
  cases isolated : s.isolated with
  | true =>
    cases c with
    | resyncRequest b => exact absurd hc (not_mustWaitFull_of_isolated rfl isolated)
    | replay b => exact absurd hc (not_mustWaitFull_of_isolated rfl isolated)
    | _ => exact Or.inl hc
  | false =>
    rw [isolated] at waits
    exact Or.inr (by simpa [hasFree_iff] using waits)

theorem waitsOnlyWhenFull_claimResync {s : State} (hs : WaitsOnlyWhenFull s) (a : Addr) : WaitsOnlyWhenFull (claimResync a s) := by
  unfold claimResync
  split_ifs with place
  · rw [resyncRequest_eq_placed]
    exact hs.append ((hasFree_iff _).1 (Bool.and_eq_true_iff.1 place).1) rfl (fun _ => holds_of_placed) rfl
  · exact hs.setMember a _ place

theorem waitsOnlyWhenFull_claimReplay {s : State} (hs : WaitsOnlyWhenFull s) (a : Addr) : WaitsOnlyWhenFull (claimReplay a s) := by
  have cancelled : ClaimsStand s (s.setMember a { s.member a with replay := .none, replayTimer := .stopped }) :=
    claimsStand_setMember a id (by simp)
  unfold claimReplay
  split_ifs with place
  · exact hs.append ((hasFree_iff _).1 (Bool.and_eq_true_iff.1 place).1) rfl (fun _ => holds_of_claimsStand cancelled) rfl
  · exact hs.setMember a _ place

theorem waitsOnlyWhenFull_kept : KeptByClaims WaitsOnlyWhenFull where
  claimsStand h hs := hs.of_holds (by rw [h.queue]; exact hs.1) (by rw [h.queue])
    fun c hc => Or.inl ⟨holds_of_claimsStand h hc.1, fun behind => h.mode (hc.2 behind)⟩
  coldState low s := (waitsOnlyWhenFull_iff _).2 ⟨Nat.zero_le 24, fun c ⟨h, _⟩ => by
    cases c <;> simp [State.holds, coldState, State.point, State.member, State.reset, Psq.cold, PointRecord.cold, Bif.cold, Pnl.cold, Mbu.cold, Member.cold] at h⟩
  announce p hs := waitsOnlyWhenFull_announce hs p
  claimSnapshot := waitsOnlyWhenFull_claimSnapshot
  claimJoin := waitsOnlyWhenFull_claimJoin
  claimAck hs := by
    unfold claimAck
    split_ifs with pending free
    · exact hs
    · exact hs.append ((hasFree_iff _).1 free) rfl (fun _ h => h) rfl
    · exact hs.of_holds hs.1 (Nat.le_refl _) fun c hc => Or.inr (by simpa [hasFree_iff] using free)
  claimReset hs := by
    unfold claimReset
    split_ifs with pending free
    · exact hs
    · exact hs.append ((hasFree_iff _).1 free) rfl (fun _ h => h) rfl
    · exact hs.of_holds hs.1 (Nat.le_refl _) fun c hc => Or.inr (by simpa [hasFree_iff] using free)
  claimResync a hs := waitsOnlyWhenFull_claimResync hs a
  claimReplay a hs := waitsOnlyWhenFull_claimReplay hs a
  withdrawReplay {s} a hs := by
    have cancelled : ClaimsStand s (s.setMember a { s.member a with replay := .none, replayTimer := .stopped }) :=
      claimsStand_setMember a id (by simp)
    unfold withdrawReplay
    dsimp only
    split
    · exact waitsOnlyWhenFull_offers ((List.length_filter_le ..).trans hs.1)
    · exact hs.of_same rfl (fun _ => holds_of_claimsStand cancelled) rfl
  winContention c hs := waitsOnlyWhenFull_winContention hs c
  chargeAttempt c hs := waitsOnlyWhenFull_chargeAttempt hs c
  completeFrame c f hs := waitsOnlyWhenFull_completeFrame hs c f
  passLooped := waitsOnlyWhenFull_passLooped

/-- Settles O51: each of the two properties is kept by what announces, claims and offers, and every step is made of that. -/
theorem stepsKeepTheTransmitQueue : Obligations.StepsKeepTheTransmitQueue := by
  intro s s' h
  exact ⟨fun hs => queueHolds_kept.keptByOperations.step hs h, fun hs => waitsOnlyWhenFull_kept.keptByOperations.step hs h⟩

end Sys2Proof.Machine
end

section
/-! The service of waiting claims, further: a full queue, one freed entry, what stays of queue, phase and points (R41, R43,
R74, R90). -/
namespace Sys2Proof.Machine

theorem restartIdleWait_bus (s : State) :
    restartIdleWait s = { s with bus := { s.bus with idleWait := (restartIdleWait s).bus.idleWait } } := by
  obtain ⟨w, hw⟩ := settleIdleWait_eq (s.setBif { s.bus with idleWait := .stopped })
  have eq : restartIdleWait s = _ := hw
  rw [eq]; rfl

theorem offeredTimes_of_full {s : State} (full : 24 ≤ s.bus.queue.length) (n : Nat) : s.offeredTimes n = s := by
  cases n with
  | zero => rfl
  | succ n => unfold State.offeredTimes; rw [if_neg (Nat.not_lt.2 full)]

/-- A full queue serves nothing. -/
theorem served_of_full {s : State} (full : 24 ≤ s.bus.queue.length) : s.served = s := offeredTimes_of_full full _

/-- One free entry, which any claim fills, goes to the first claim alone. -/
theorem served_eq_offered {s : State} (one : s.bus.queue.length = 23) (fills : ∀ c, 24 ≤ (Claim.placed s c).bus.queue.length) :
    s.served = s.offered := by
  show s.offeredTimes (51 + 1) = s.offered
  unfold State.offeredTimes State.offered
  rw [if_pos (by omega)]
  split
  · exact offeredTimes_of_full (fills _) _
  · rfl

theorem length_placed {s : State} (h : s.mbu.mode ≠ .isolated) (c : Claim) :
    (Claim.placed s c).bus.queue.length = s.bus.queue.length + 1 := by
  obtain ⟨e, queue, -⟩ := placed_appends s c h
  rw [queue, List.length_append]; rfl

theorem unsentState_iff (e : TxEntry) : e.unsentState = true ↔ e.disposition = .unsent ∧ ∃ b, e.body = .state b := by
  unfold TxEntry.unsentState
  cases e.body <;> simp

theorem filter_unsentState_of_none {queue : List TxEntry} (h : ∀ e ∈ queue, e.unsentState = false) :
    queue.filter (fun e => !e.unsentState) = queue := List.filter_eq_self.2 fun e he => by simp [h e he]

/-- In a queue without unsent STATE entries a placed claim is one entry more at the tail, in ISOLATED too. -/
theorem placed_appends_of_none {s : State} (quiet : ∀ e ∈ s.bus.queue, e.unsentState = false) (c : Claim) :
    ∃ e, (Claim.placed s c).bus.queue = s.bus.queue ++ [e] ∧ ((∀ p, c ≠ .state p) → e.unsentState = false) := by
  have other {b byte} (h : ∀ b', b ≠ .state b') : (s.entryOf b byte).unsentState = false := by
    rw [← Bool.not_eq_true, unsentState_iff, entryOf_body]; rintro ⟨-, b', hb⟩; exact h b' hb
  cases c with
  | state p => exact ⟨_, rfl, fun h => absurd rfl (h p)⟩
  | snapshot =>
    by_cases isolated : s.mbu.mode = .isolated
    · refine ⟨s.entryOf (.snapshot (some (snapshotEntries s))) s.bus.lastEnded, ?_, fun _ => other (by simp)⟩
      unfold Claim.placed
      rw [if_pos isolated]
      dsimp only
      rw [filter_unsentState_of_none quiet]
    · refine ⟨s.entryOf (.snapshot none) s.bus.lastEnded, ?_, fun _ => other (by simp)⟩
      unfold Claim.placed
      rw [if_neg isolated]
  | _ => exact ⟨_, rfl, fun _ => other (by simp)⟩

/-- An entry that is no unsent STATE stays in the queue while claims are served. -/
theorem mem_placed {s : State} {e : TxEntry} (h : e ∈ s.bus.queue) (other : e.unsentState = false) (c : Claim) :
    e ∈ (Claim.placed s c).bus.queue := by
  cases c with
  | snapshot =>
    unfold Claim.placed
    dsimp only
    split
    · exact List.mem_append_left _ (List.mem_filter.2 ⟨h, by rw [other]; rfl⟩)
    · exact List.mem_append_left _ h
  | _ => exact List.mem_append_left _ h

theorem mem_served {s : State} {e : TxEntry} (h : e ∈ s.bus.queue) (other : e.unsentState = false) : e ∈ s.served.bus.queue :=
  served_keeps (P := fun s => e ∈ s.bus.queue) (fun _ c _ _ h => mem_placed h other c) h

/-- Once RUNNING or HOLDING, the phase stays while claims are served (R43). -/
theorem phase_placed {s : State} (h : s.psq.phase ≠ .settling) (c : Claim) : (Claim.placed s c).psq.phase = s.psq.phase := by
  cases c with
  | snapshot =>
    unfold Claim.placed
    by_cases isolated : s.mbu.mode = .isolated
    · rw [if_pos isolated]; exact if_neg h
    · rw [if_neg isolated]
  | _ => rfl

theorem phase_served {s : State} (h : s.psq.phase ≠ .settling) : s.served.psq.phase = s.psq.phase :=
  served_keeps (P := fun t => t.psq.phase = s.psq.phase) (fun t c _ _ ht => (phase_placed (by rw [ht]; exact h) c).trans ht) rfl

/-- What plays no part in one service plays none in the service of all waiting claims. -/
theorem served_commutes {f : State → State} (placed : ∀ s c, Claim.placed (f s) c = f (Claim.placed s c)) (first : ∀ s, (f s).firstClaim = s.firstClaim)
    (queue : ∀ s, (f s).bus.queue = s.bus.queue) (s : State) : (f s).served = f s.served := by
  have times : ∀ n s, State.offeredTimes n (f s) = f (s.offeredTimes n) := by
    intro n
    induction n with
    | zero => exact fun s => rfl
    | succ n ih =>
      intro s
      unfold State.offeredTimes
      rw [first, queue]
      by_cases free : s.bus.queue.length < 24
      · rw [if_pos free, if_pos free]
        cases s.firstClaim with
        | none => rfl
        | some c => dsimp only; rw [placed, ih]
      · rw [if_neg free, if_neg free]
  exact times _ s

/-- The line plays no part in the service of claims. -/
theorem served_setLine (s : State) (l : Line) : (s.setLine l).served = s.served.setLine l := by
  refine served_commutes (f := fun s => s.setLine l) (fun s c => ?_) (fun _ => rfl) (fun _ => rfl) s
  cases c with
  | snapshot =>
    unfold Claim.placed
    by_cases isolated : s.mbu.mode = .isolated
    · rw [if_pos isolated, if_pos (show (s.setLine l).mbu.mode = .isolated from isolated)]; rfl
    · rw [if_neg isolated, if_neg (show (s.setLine l).mbu.mode ≠ .isolated from isolated)]; rfl
  | _ => rfl

/-! ## After a supersession -/

/-- A supersession has left no unsent STATE, no owed point and no SETTLING (R41, R43). -/
structure SupersededIn (s : State) : Prop where
  told : ∀ e ∈ s.bus.queue, e.unsentState = false
  settled : ∀ p, (s.point p).owed = false ∧ (s.point p).missed = 0
  phase : s.psq.phase ≠ .settling

theorem SupersededIn.firstClaim {s : State} (h : SupersededIn s) {c : Claim} (first : s.firstClaim = some c) (p : Point) : c ≠ .state p := by
  rintro rfl
  have owed : (s.point p).owed = true := holds_of_firstClaim first
  rw [(h.settled p).1] at owed
  cases owed

/-- What is served after a supersession is no STATE: the Point Sequencer stays, and the queue grows by other frames. -/
theorem SupersededIn.placed {s : State} (h : SupersededIn s) {c : Claim} (other : ∀ p, c ≠ .state p) : (Claim.placed s c).psq = s.psq := by
  obtain ⟨-, settled, phase⟩ := h
  cases c with
  | state p => exact absurd rfl (other p)
  | snapshot =>
    unfold Claim.placed
    by_cases isolated : s.mbu.mode = .isolated
    · rw [if_pos isolated]
      dsimp only
      rw [if_neg phase]
      have points : (s.psq.points.map fun r => { r with owed := false, missed := 0 }) = s.psq.points := Tab.ext_get fun p => by
        obtain ⟨owed, missed⟩ := settled p
        rw [Tab.get_map, ← owed, ← missed]
        rfl
      rw [points]
    · rw [if_neg isolated]
  | _ => rfl

theorem SupersededIn.served {s : State} (h : SupersededIn s) :
    s.served.psq = s.psq ∧ ∃ more, s.served.bus.queue = s.bus.queue ++ more ∧ ∀ e ∈ more, e.unsentState = false := by
  refine served_keeps (P := fun t => t.psq = s.psq ∧ ∃ more, t.bus.queue = s.bus.queue ++ more ∧ ∀ e ∈ more, e.unsentState = false) ?_
    ⟨rfl, [], by simp, by simp⟩
  rintro t c - first ⟨psq, more, queue, others⟩
  have superseded : SupersededIn t := by
    refine ⟨fun e he => ?_, fun p => ?_, by rw [psq]; exact h.phase⟩
    · rw [queue] at he
      rcases List.mem_append.1 he with he | he
      exacts [h.told e he, others e he]
    · unfold State.point
      rw [psq]
      exact h.settled p
  have other := superseded.firstClaim first
  obtain ⟨e, added, told⟩ := placed_appends_of_none superseded.told c
  refine ⟨(superseded.placed other).trans psq, more ++ [e], by rw [added, queue, List.append_assoc], fun x hx => ?_⟩
  rcases List.mem_append.1 hx with hx | hx
  · exact others x hx
  · rw [List.mem_singleton.1 hx]; exact told other

end Sys2Proof.Machine
end

section
/-! A frame that has passed leaves its place, and the freed entry is offered: FRAME_COMPLETION and LOOPBACK_PASSAGE (R68, R74,
R89). -/
namespace Sys2Proof.Machine

theorem bif_hasPlace {b : Bif} (free : b.rx.length < 6) : b.heldOff = false := by
  unfold Bif.heldOff
  rw [Bool.not_eq_false', decide_eq_true_eq]
  exact free

theorem served_idleWait (s : State) : s.served.bus.idleWait = s.bus.idleWait := by rw [served_frame]

/-- Settles O27: the head passes, and its entry is offered by `offers_eq_served`. -/
theorem loopedBackHeadPasses : Obligations.LoopedBackHeadPasses := by
  intro s e rest n body runs clash queue looped seq contents free idle freed
  have passing : s.passing = some (e, rest) := by
    simp [State.passing, queue, looped, bif_hasPlace free, idle, State.onLine, runs, clash]
  have passed : passLooped s = freed.served := by
    rw [← offers_eq_served]
    simp only [passLooped, passing, loopedFrame, contents, Option.map_some, seq, Option.getD_some]
    rfl
  have outcome : exec .loopbackPassage s = .next (settleIdleWait freed.served) := by
    rw [exec_loopbackPassage, arise_true (by rw [passing]; rfl), passed]
  have settled := settleIdleWait_bus freed.served
  refine ⟨_, outcome, (settleIdleWait_spec _).of_timer (served_idleWait freed), settled, fun nothing => ?_, fun full inOrder => ?_⟩
  · have same : freed.served = freed := served_of_nothingWaits freed nothing
    rw [same] at settled ⊢
    exact settled
  · have one : freed.bus.queue.length = 23 := by rw [queue] at full; simpa using full
    have same : freed.served = freed.offered := by
      refine served_eq_offered one fun c => ?_
      by_cases isolated : s.mbu.mode = .isolated
      · have none : ∀ x ∈ freed.bus.queue, x.unsentState = false := fun x hx => by
          rw [← Bool.not_eq_true, unsentState_iff, inOrder isolated x hx]; simp
        obtain ⟨x, added, -⟩ := placed_appends_of_none none c
        rw [added, List.length_append, one]; rfl
      · rw [length_placed (s := freed) isolated c, one]
    rw [same] at settled ⊢
    exact settled

/-- Settles O23: the completed frame is taken and leaves its place, and free entries are offered by `offers_eq_served`. -/
theorem completedFrameIsTaken : Obligations.CompletedFrameIsTaken := by
  intro s c f line noProbe freed
  have probe : (c == .heartbeatSlot && s.bus.probing) = false := by
    rw [← Bool.not_eq_true, Bool.and_eq_true, beq_iff_eq]
    rintro ⟨rfl, probing⟩
    unfold Bif.probing at probing
    cases slot : s.bus.heartbeatSlot with
    | none => rw [slot] at probing; cases probing
    | some h => rw [slot] at probing; exact noProbe ⟨rfl, h, slot, probing⟩
  have completed : completeFrame c f s = freed.served := by
    rw [← offers_eq_served]
    unfold completeFrame
    dsimp only
    rw [probe]
    rw [if_neg Bool.false_ne_true]
    refine congrArg offers ?_
    cases c <;> simp [freed, releaseCandidate, receive, Bif.without, State.setLine, State.setBif]
  have outcome : exec .frameCompletion s = .next (restartIdleWait freed.served) := by
    rw [exec_frameCompletion, execFrameCompletion, line, ← completed]
  have restarted := restartIdleWait_bus freed.served
  refine ⟨_, outcome, restartIdleWait_spec _, restarted, fun still => ?_, fun head full connected => ?_⟩
  · have same : freed.served = freed := by
      rcases still with nothing | ⟨slot, full⟩
      · refine served_of_nothingWaits freed ?_
        cases c <;> exact nothing
      · refine served_of_full ?_
        cases c with
        | queueHead => exact absurd rfl slot
        | _ => exact full
    rw [same] at restarted ⊢
    exact restarted
  · subst head
    have one : freed.bus.queue.length = 23 := by simp [freed, Bif.without, full]
    have same : freed.served = freed.offered := served_eq_offered one fun c => by rw [length_placed (s := freed) connected c, one]
    rw [same] at restarted ⊢
    exact restarted

end Sys2Proof.Machine
end

section
/-! The own SNAPSHOT on the line: WIN_CONTENTION and the supersession it brings (R41, R43, R75). -/
namespace Sys2Proof.Machine

theorem nothingWaits_iff (s : State) : NothingWaits s ↔ ∀ c, s.holds c = false := by
  have split : NothingWaits s ↔ s.claimWaits = false ∧ s.heldBackWaits = false := by
    simp only [NothingWaits, State.heldBackWaits, Bool.or_eq_false_iff, Tab.any_false, State.member, beq_eq_false_iff_ne]
  rw [split, ← Bool.not_eq_true, ← Bool.not_eq_true, claimWaits_iff, heldBackWaits_iff]
  simp only [← Bool.not_eq_true (State.holds _ _)]
  refine ⟨fun ⟨free, behind⟩ c h => ?_, fun none => ⟨fun ⟨c, h, _⟩ => none c h, fun ⟨c, h, _⟩ => none c h⟩⟩
  cases kind : c.passedOver with
  | true => exact behind ⟨c, h, kind⟩
  | false => exact free ⟨c, h, kind⟩

/-- Where no claim is new, none waits after all. -/
theorem nothingWaits_of_holds {s t : State} (h : NothingWaits s) (older : ∀ c, t.holds c = true → s.holds c = true) : NothingWaits t := by
  rw [nothingWaits_iff] at h ⊢
  intro c
  rw [← Bool.not_eq_true]
  intro holds
  have held := older c holds
  rw [h c] at held
  cases held

theorem afterSnapshot_eq (f : Phase) : f.afterSnapshot = if f = .settling then .running else f := by cases f <;> rfl

theorem settleIdleWait_of_own {s : State} {c : Candidate} (own : s.bus.line.own = some c) :
    settleIdleWait s = s.setBif { s.bus with idleWait := .stopped } := by
  unfold settleIdleWait State.idleWaitRuns
  rw [own]
  simp

theorem supersededIn_supersede (s : State) : SupersededIn (supersede s) where
  told e he := by
    have kept := (List.mem_filter.1 he).2
    rwa [Bool.not_eq_true'] at kept
  settled p := by simp [supersede, State.point, PointRecord.settled]
  phase := by simp only [supersede, State.setQueue_psq, State.setPsq_psq, afterSnapshot_eq]; split <;> simp_all

theorem holds_supersede {s : State} {c : Claim} (h : (supersede s).holds c = true) : s.holds c = true := by
  cases c with
  | state p =>
    have owed : ((supersede s).point p).owed = true := h
    rw [((supersededIn_supersede s).settled p).1] at owed
    cases owed
  | _ => exact h

theorem served_own (s : State) : s.served.own = s.own := by rw [served_frame]; rfl

theorem served_lastEnded (s : State) : s.served.bus.lastEnded = s.bus.lastEnded := by rw [served_frame]

/-- Settles O18: what the win supersedes is `SupersededIn`, so that what is served after it is no STATE. -/
theorem wonSnapshotSupersedes : Obligations.WonSnapshotSupersedes := by
  intro s e rest line queue body unsent seq
  let begun : TxEntry := { e with body := .snapshot (some (snapshotEntries s)), disposition := .begun }
  let won : State := supersede (s.setQueue (begun :: rest))
  let f : Frame := { src := s.own, seq := s.bus.lastEnded, body := .snapshot (snapshotEntries s) }
  obtain ⟨psq, more, appended, others⟩ := (supersededIn_supersede (s.setQueue (begun :: rest))).served
  have wonQueue : won.bus.queue = begun :: rest.filter fun x => !x.unsentState := by
    have kept : (!begun.unsentState) = true := rfl
    exact List.filter_cons_of_pos (p := fun x : TxEntry => !x.unsentState) kept
  have appended : won.served.bus.queue = begun :: (rest.filter fun x => !x.unsentState) ++ more := by rw [← wonQueue]; exact appended
  have begins : beginCandidate .queueHead s = won.served := by
    rw [← offers_eq_served]
    unfold beginCandidate
    dsimp only
    rw [queue]
    dsimp only
    rw [if_pos unsent]
    unfold beginHead
    rw [body]
  have frame : candidateFrame .queueHead won.served = some f := by
    unfold candidateFrame
    dsimp only
    rw [appended, served_own, served_lastEnded]
    show some ({ src := _, seq := e.seq.getD _, body := _ } : Frame) = _
    rw [seq]
    rfl
  have wins : winContention .queueHead s = (won.setLine (.sending .queueHead f)).served := by
    unfold winContention
    dsimp only
    rw [begins, frame, served_setLine]
  have outcome : exec .winContention s = .next (((won.setLine (.sending .queueHead f)).served).setBif { (won.setLine (.sending .queueHead f)).served.bus with idleWait := .stopped }) := by
    rw [exec_winContention, execWinContention, State.contender, line]
    dsimp only
    rw [wins, settleIdleWait_of_own (c := .queueHead) (by rw [served_setLine]; rfl)]
  have points (p : Point) : won.served.point p = { s.point p with owed := false, missed := 0 } := by
    show won.served.psq.points.get p = _
    rw [psq]
    exact Tab.get_map ..
  have phase : won.served.psq.phase = if s.psq.phase = .settling then .running else s.psq.phase := by
    rw [psq]; exact afterSnapshot_eq _
  rw [served_setLine] at outcome
  refine ⟨_, snapshotEntries s, more, outcome, fun p => Tab.get_ofFn .., appended, others, rfl, points, phase, ?_, fun nothing => ?_⟩
  · have freed : won.setLine (.sending .queueHead f) =
        { s with psq := { points := s.psq.points.map fun r => { r with owed := false, missed := 0 }, phase := won.served.psq.phase }
                 bus := { s.bus with line := .sending .queueHead f, queue := begun :: rest.filter fun x => !x.unsentState } } := by
      rw [psq, ← wonQueue]; rfl
    exact (congrArg (fun t : State => t.setBif { t.bus with idleWait := .stopped }) (served_setLine won _)).symm.trans
      (congrArg (fun t : State => t.served.setBif { t.served.bus with idleWait := .stopped }) freed)
  · have same : won.served = won := served_of_nothingWaits won (nothingWaits_of_holds (s := s) nothing fun c h => holds_supersede (s := s.setQueue (begun :: rest)) h)
    rw [same, wonQueue] at appended
    exact List.self_eq_append_right.1 appended

end Sys2Proof.Machine
end

section
/-! A fresh start: the points reconciled with the field, SETTLING, and the SNAPSHOT claimed (R46, R47, R120). -/
namespace Sys2Proof.Machine

/-! ## One record -/

theorem PointRecord.byGrid_frame (r : PointRecord) (ev : PointEvent) (stamp : Millis) :
    (r.byGrid ev stamp).1 =
      { r with state := (r.byGrid ev stamp).1.state, condition := (r.byGrid ev stamp).1.condition, field := ev.field r.field
               stamp := (r.byGrid ev stamp).1.stamp, cause := (r.byGrid ev stamp).1.cause } := by
  unfold PointRecord.byGrid
  dsimp only
  split <;> rfl

/-- Reconciliation moves state, condition, stamp and cause alone. -/
theorem PointRecord.reconcile_frame (r : PointRecord) (stamp : Millis) :
    r.reconcile stamp =
      { r with state := (r.reconcile stamp).state, condition := (r.reconcile stamp).condition
               stamp := (r.reconcile stamp).stamp, cause := (r.reconcile stamp).cause } := by
  have moved (ev : PointEvent) (field : ev.field r.field = r.field) :
      (r.byGrid ev stamp).1 =
        { r with state := (r.byGrid ev stamp).1.state, condition := (r.byGrid ev stamp).1.condition
                 stamp := (r.byGrid ev stamp).1.stamp, cause := (r.byGrid ev stamp).1.cause } := by
    have frame := r.byGrid_frame ev stamp
    rwa [field] at frame
  unfold PointRecord.reconcile
  split
  · split
    · rename_i field
      exact moved .activate field.symm
    · rename_i field
      exact moved .clear field.symm
    · rfl
    · rfl
  · rfl

/-- A record out of use, SHELVED or in agreement with its field condition stays as it is (R46). -/
theorem PointRecord.reconcile_of_agree {r : PointRecord} (stamp : Millis) (h : r.inUse = false ∨ r.state = .shelved ∨ r.condition = r.field) :
    r.reconcile stamp = r := by
  unfold PointRecord.reconcile
  rcases h with unused | shelved | agree
  · rw [unused]; rfl
  · rw [shelved]; simp
  · rw [agree]
    cases r.field <;> simp

/-- A NORMAL condition under an ACTIVE field condition is an ACTIVATE (R46). -/
theorem PointRecord.reconcile_activates {r : PointRecord} (stamp : Millis) (used : r.inUse = true)
    (rests : r.state = .normal ∨ r.state = .alert ∨ r.state = .returned) (condition : r.condition = .normal) (field : r.field = .active) :
    r.reconcile stamp = { r with state := .alert, condition := .active, stamp := stamp, cause := some .activate } := by
  obtain ⟨inUse, zone, priority, state, condition, field, old, cause, owed, missed⟩ := r
  subst used condition field
  rcases rests with rfl | rfl | rfl <;> rfl

/-- An ACTIVE condition under a NORMAL field condition is a CLEAR (R46). -/
theorem PointRecord.reconcile_clears {r : PointRecord} (stamp : Millis) (used : r.inUse = true)
    (raised : r.state = .alert ∨ r.state = .held) (condition : r.condition = .active) (field : r.field = .normal) :
    r.reconcile stamp = { r with state := if r.state = .held then .returned else .alert, condition := .normal, stamp := stamp, cause := some .clear } := by
  obtain ⟨inUse, zone, priority, state, condition, field, old, cause, owed, missed⟩ := r
  subst used condition field
  rcases raised with rfl | rfl <;> rfl

/-! ## The state -/

/-- The points reconciled and SETTLING, before the claim of the SNAPSHOT. -/
def State.reconciled (s : State) : State :=
  s.setPsq { points := s.psq.points.map (PointRecord.reconcile s.tmb.groupTime), phase := .settling }

theorem reconcileAll_eq (s : State) : reconcileAll s = s.reconciled.snapshotClaimed := claimSnapshot_eq _

theorem point_reconciled (s : State) (p : Point) : s.reconciled.point p = (s.point p).reconcile s.tmb.groupTime := Tab.get_map ..

theorem point_reconcileAll (s : State) (p : Point) :
    (reconcileAll s).point p =
      { (s.point p).reconcile s.tmb.groupTime with owed := ((reconcileAll s).point p).owed, missed := ((reconcileAll s).point p).missed } := by
  have stands := recordsStand_snapshotClaimed s.reconciled p
  rwa [← reconcileAll_eq, point_reconciled] at stands

/-- The reconciled points, read off a state after the claim. -/
theorem reconciled_of_points {s t : State} (points : ∀ p, t.point p = (reconcileAll s).point p) :
    s.reconciled =
      { s with psq := { phase := .settling
                        points := .ofFn fun p => { s.point p with state := (t.point p).state, condition := (t.point p).condition
                                                                  stamp := (t.point p).stamp, cause := (t.point p).cause } } } := by
  refine congrArg (fun points => s.setPsq { points := points, phase := .settling }) (Tab.ext_get fun p => ?_)
  rw [Tab.get_map, Tab.get_ofFn, points, point_reconcileAll]
  exact PointRecord.reconcile_frame ..

@[simp] theorem snapshotClaimed_owedJoin (b : Bif) : b.snapshotClaimed.owedJoin = b.owedJoin := by
  unfold Bif.snapshotClaimed; split_ifs <;> rfl

/-- The SNAPSHOT claim of SETTLING: outside ISOLATED the phase stays and the SNAPSHOT is owed or stands unsent; in ISOLATED a free
entry loops it back at once, which makes the phase RUNNING (R43, R73, R90). -/
theorem snapshotClaimed_settling {s : State} (settling : s.psq.phase = .settling) :
    s.snapshotClaimed.psq.phase ≠ .holding
    ∧ (s.mbu.mode ≠ .isolated → s.snapshotClaimed.psq.phase = .settling
        ∧ (s.snapshotClaimed.bus.owedSnapshot = true ∨ s.snapshotClaimed.bus.queue.any TxEntry.unsentSnapshot = true))
    ∧ (s.mbu.mode = .isolated → (s.snapshotClaimed.psq.phase = .settling ∧ s.snapshotClaimed.bus.owedSnapshot = true)
        ∨ (s.snapshotClaimed.psq.phase = .running ∧ ∃ x ∈ s.snapshotClaimed.bus.queue, ∃ es, x.body = .snapshot (some es))) := by
  by_cases isolated : s.mbu.mode = .isolated
  · suffices outcome : (s.snapshotClaimed.psq.phase = .settling ∧ s.snapshotClaimed.bus.owedSnapshot = true)
        ∨ (s.snapshotClaimed.psq.phase = .running ∧ ∃ x ∈ s.snapshotClaimed.bus.queue, ∃ es, x.body = .snapshot (some es)) by
      refine ⟨?_, fun h => absurd isolated h, fun _ => outcome⟩
      rcases outcome with ⟨phase, -⟩ | ⟨phase, -⟩ <;> rw [phase] <;> decide
    unfold State.snapshotClaimed
    split_ifs with absorbed free
    · rcases absorbed with owed | ⟨mode, -⟩
      exacts [Or.inl ⟨settling, owed⟩, absurd isolated mode]
    · have placed : Claim.placed s .snapshot = _ := if_pos isolated
      have phase : (Claim.placed s .snapshot).psq.phase = .running := by rw [placed]; exact if_pos settling
      refine Or.inr ⟨by rw [phase_served (by rw [phase]; decide), phase], s.entryOf (.snapshot (some (snapshotEntries s))) s.bus.lastEnded, ?_, _, by rw [entryOf_body]⟩
      refine mem_served ?_ ?_
      · rw [placed]; exact List.mem_append_right _ (List.mem_singleton.2 rfl)
      · rw [← Bool.not_eq_true, unsentState_iff, entryOf_body]; simp
    · exact Or.inl ⟨settling, rfl⟩
  · refine ⟨?_, fun _ => ?_, fun h => absurd h isolated⟩
    · rw [snapshotClaimed_eq isolated]; show s.psq.phase ≠ _; rw [settling]; decide
    · rw [snapshotClaimed_eq isolated]; exact ⟨settling, snapshotClaimed_stands s.bus⟩

theorem freshStart_of_holding {s : State} (h : s.psq.phase = .holding) : freshStart s = reconcileAll s := by unfold freshStart; rw [h]

theorem freshStart_of_not_holding {s : State} (h : s.psq.phase ≠ .holding) : freshStart s = s := by
  unfold freshStart; cases phase : s.psq.phase <;> simp_all

/-- Settles O41: the fresh start is the reconciliation and the SNAPSHOT claim of `reconcileAll`. -/
theorem joinWindowEndsInAFreshStart : Obligations.JoinWindowEndsInAFreshStart := by
  intro s start toward runs opened window reached
  have due : s.joinWindowExpires = true := by
    simp only [State.joinWindowExpires, State.expired, Timer.reached, runs, opened, window, decide_eq_true reached]; rfl
  have outcome : exec .joinWindowExpiry s = .next (settleIdleWait (freshStart (closeJoin s))) := by rw [exec_joinWindowExpiry, arise_true due]
  have timer : IdleWaitSettled s (settleIdleWait (freshStart (closeJoin s))) := (settleIdleWait_spec _).of_timer (by simp [closeJoin])
  have bus := settleIdleWait_bus (freshStart (closeJoin s))
  by_cases holding : s.psq.phase = .holding
  · rw [freshStart_of_holding (s := closeJoin s) holding] at outcome timer bus
    have record (p : Point) : (reconcileAll (closeJoin s)).point p =
        { (s.point p).reconcile s.tmb.groupTime with
            owed := ((reconcileAll (closeJoin s)).point p).owed, missed := ((reconcileAll (closeJoin s)).point p).missed } := point_reconcileAll (closeJoin s) p
    have points (p : Point) : (settleIdleWait (reconcileAll (closeJoin s))).point p = (reconcileAll (closeJoin s)).point p := by rw [bus]; rfl
    obtain ⟨left, connected, isolated⟩ := snapshotClaimed_settling (s := (closeJoin s).reconciled) rfl
    rw [← reconcileAll_eq] at left connected isolated
    refine ⟨_, outcome, timer, ?_, fun mode => ?_, fun h => absurd holding h, fun _ => ⟨?_, fun mode => ?_, fun mode => ?_, fun p => ⟨?_, ?_⟩⟩⟩
    · have claimed := reconcileAll_eq (closeJoin s)
      rw [reconciled_of_points points] at claimed
      dsimp only
      rw [if_pos holding]
      exact bus.trans (congrArg (fun t : State => { t with bus := { t.bus with idleWait := (settleIdleWait (reconcileAll (closeJoin s))).bus.idleWait } }) claimed)
    · have claimed := (reconcileAll_eq (closeJoin s)).trans (snapshotClaimed_eq (s := (closeJoin s).reconciled) mode)
      rw [bus, claimed]
      exact ⟨rfl, rfl, snapshotClaimed_owedJoin s.bus⟩
    · rw [bus]; exact left
    · rw [bus]; exact connected mode
    · rw [bus]; exact isolated mode
    · intro used state condition field
      rw [points, record, PointRecord.reconcile_activates _ used (Or.inl state) condition field]
      exact ⟨rfl, rfl, rfl, rfl⟩
    · intro agree
      rw [points, record, PointRecord.reconcile_of_agree _ (agree.imp_right (Or.imp_right And.right))]
      exact ⟨rfl, rfl, rfl, rfl⟩
  · rw [freshStart_of_not_holding (s := closeJoin s) holding] at outcome timer bus
    refine ⟨_, outcome, timer, ?_, fun _ => ?_, fun _ => ?_, fun h => absurd h holding⟩
    · dsimp only
      rw [if_neg holding]
      exact bus
    · rw [bus]; exact ⟨rfl, rfl, rfl⟩
    · rw [bus]; exact ⟨rfl, rfl⟩

end Sys2Proof.Machine
end

section
/-! One transition announced: in the point's unsent STATE, in a new entry, or by owing the point (R36 to R38). -/
namespace Sys2Proof.Machine

theorem satIncr_val (c : Count) : (satIncr c).val = min 15 (c.val + 1) := by
  unfold satIncr
  split
  · show c.val + 1 = _; omega
  · omega

/-! ## The unsent entry rewritten -/

theorem rewriteUnsent_of_split {p : Point} (b : StateBody) {pre : List TxEntry} {e : TxEntry} {old : StateBody} (post : List TxEntry)
    (before : ∀ x ∈ pre, x.unsentStateFor p = false) (here : e.unsentStateFor p = true) (body : e.body = .state old) :
    rewriteUnsent p b (pre ++ e :: post) = pre ++ { e with body := .state { b with count := satIncr old.count } } :: post := by
  induction pre with
  | nil => rw [List.nil_append, List.nil_append, rewriteUnsent, if_pos here, body]
  | cons x pre ih =>
    rw [List.cons_append, List.cons_append, rewriteUnsent, if_neg (by simp [before x (by simp)]), ih fun y hy => before y (by simp [hy])]

/-- An entry rewritten where it is the unsent STATE of a point (R37). -/
def TxEntry.rewritten (p : Point) (b : StateBody) (e : TxEntry) : TxEntry :=
  match e.disposition, e.body with
  | .unsent, .state old => if old.point = p then { e with body := .state { b with count := satIncr old.count } } else e
  | _, _ => e

theorem TxEntry.rewritten_of_state {e : TxEntry} {old : StateBody} (unsent : e.disposition = .unsent) (body : e.body = .state old) (p : Point) (b : StateBody) :
    e.rewritten p b = if old.point = p then { e with body := .state { b with count := satIncr old.count } } else e := by
  unfold TxEntry.rewritten; rw [unsent, body]

theorem TxEntry.rewritten_of_other {e : TxEntry} {p : Point} (h : e.unsentStateFor p = false) (b : StateBody) : e.rewritten p b = e := by
  rw [← Bool.not_eq_true, unsentStateFor_iff] at h
  unfold TxEntry.rewritten
  split
  · rename_i old unsent body
    exact if_neg fun same => h ⟨unsent, old, body, same⟩
  · rfl

theorem map_rewritten_of_none {p : Point} (b : StateBody) {queue : List TxEntry} (h : unsentStates p queue = 0) :
    queue.map (TxEntry.rewritten p b) = queue := by
  refine (List.map_congr_left fun e he => TxEntry.rewritten_of_other ?_ b).trans (List.map_id queue)
  rw [unsentStates_eq_zero_iff, List.any_eq_false] at h
  simpa using h e he

/-- With at most one unsent STATE of the point the rewriting goes entry by entry. -/
theorem rewriteUnsent_eq_map {p : Point} (b : StateBody) {queue : List TxEntry} (once : unsentStates p queue ≤ 1) :
    rewriteUnsent p b queue = queue.map (TxEntry.rewritten p b) := by
  induction queue with
  | nil => rfl
  | cons e rest ih =>
    rw [unsentStates_cons] at once
    unfold rewriteUnsent
    by_cases h : e.unsentStateFor p = true
    · rw [if_pos h] at once ⊢
      obtain ⟨unsent, old, body, point⟩ := (unsentStateFor_iff ..).1 h
      rw [List.map_cons, map_rewritten_of_none b (by omega), TxEntry.rewritten_of_state unsent body, if_pos point, body]
    · rw [if_neg h] at once ⊢
      rw [List.map_cons, ih (by omega), TxEntry.rewritten_of_other (by simpa using h)]

/-! ## The three ways of an announcement -/

theorem announce_of_unsent {s : State} {p : Point} (h : s.bus.queue.any (TxEntry.unsentStateFor p) = true) :
    announce p s = s.setQueue (rewriteUnsent p (announcement (s.point p) p 0) s.bus.queue) := by
  unfold announce; dsimp only; rw [if_pos h]

theorem announce_of_free {s : State} {p : Point} (h : s.bus.queue.any (TxEntry.unsentStateFor p) = false) (free : s.bus.queue.length < 24) :
    announce p s = Claim.placed s (.state p) := by
  unfold announce; dsimp only; rw [if_neg (by rw [h]; decide), if_pos ((hasFree_iff _).2 free), serveOwed_eq_placed]

theorem announce_of_full {s : State} {p : Point} (h : s.bus.queue.any (TxEntry.unsentStateFor p) = false) (full : 24 ≤ s.bus.queue.length) :
    announce p s = s.setPoint p { s.point p with owed := true, missed := satIncr (s.point p).missed } := by
  unfold announce; dsimp only; rw [if_neg (by rw [h]; decide), if_neg (fun free => absurd ((hasFree_iff _).1 free) (by omega))]

theorem point_placed_state (s : State) (p q : Point) :
    (Claim.placed s (.state p)).point q = if q = p then { s.point p with owed := false, missed := 0 } else s.point q := Tab.get_set ..

/-- An announcement changes the Point Table and the queue alone. -/
theorem announce_eq (p : Point) (s : State) :
    announce p s = { s with psq := { s.psq with points := (announce p s).psq.points }, bus := { s.bus with queue := (announce p s).bus.queue } } := by
  unfold announce
  dsimp only
  (repeat' split)
  · rfl
  · rw [serveOwed_eq_placed]; rfl
  · rfl

/-- An event of a point changes the Point Table and the queue alone. -/
theorem takeEvent_units (p : Point) (ev : PointEvent) (stamp : Millis) (s : State) :
    takeEvent p ev stamp s =
      { s with psq := { s.psq with points := (takeEvent p ev stamp s).psq.points }, bus := { s.bus with queue := (takeEvent p ev stamp s).bus.queue } } := by
  rw [takeEvent_eq]
  split
  · rw [announce_eq]; rfl
  · rfl

theorem point_announce_of_ne {p q : Point} (h : q ≠ p) (s : State) : (announce p s).point q = s.point q := by
  unfold announce
  dsimp only
  (repeat' split)
  · rfl
  · rw [serveOwed_eq_placed, point_placed_state, if_neg h]
  · rw [State.point_setPoint, if_neg h]

theorem point_takeEvent_of_ne {p q : Point} (h : q ≠ p) (ev : PointEvent) (stamp : Millis) (s : State) :
    (takeEvent p ev stamp s).point q = s.point q := by
  rw [takeEvent_eq]
  split
  · rw [point_announce_of_ne h, State.point_setPoint, if_neg h]
  · rw [State.point_setPoint, if_neg h]

/-- The point that takes an event has its record moved, owed flag and missed count apart. -/
theorem point_takeEvent (p : Point) (ev : PointEvent) (stamp : Millis) (s : State) :
    (takeEvent p ev stamp s).point p =
      { (s.point p).after s.psq.phase ev stamp with
          owed := ((takeEvent p ev stamp s).point p).owed, missed := ((takeEvent p ev stamp s).point p).missed } := by
  have stands := recordsStand_takeEvent p ev stamp s p
  rwa [State.point_setPoint, if_pos rfl] at stands

/-- An event that is no transition in RUNNING is not announced. -/
theorem takeEvent_of_quiet {p : Point} {ev : PointEvent} {stamp : Millis} {s : State} (h : ¬ (s.psq.phase = .running ∧ ((s.point p).byGrid ev stamp).2 = true)) :
    takeEvent p ev stamp s = s.setPoint p ((s.point p).after s.psq.phase ev stamp) := by
  rw [takeEvent_eq, if_neg h]

theorem takeEvent_of_made {p : Point} {ev : PointEvent} {stamp : Millis} {s : State} (running : s.psq.phase = .running)
    (made : ((s.point p).byGrid ev stamp).2 = true) : takeEvent p ev stamp s = announce p (s.setPoint p ((s.point p).byGrid ev stamp).1) := by
  rw [takeEvent_eq, if_pos ⟨running, made⟩, PointRecord.after, if_neg (by rw [running]; decide)]

/-- A transition takes its cause (R26). -/
theorem PointRecord.cause_of_made {r : PointRecord} {ev : PointEvent} {stamp : Millis} (made : (r.byGrid ev stamp).2 = true) :
    (r.byGrid ev stamp).1.cause = some ev.cause := by
  unfold PointRecord.byGrid at made ⊢
  dsimp only at made ⊢
  split at made <;> cases made
  rfl

end Sys2Proof.Machine
end

section
/-! Points announced one after another: `Announced`, step by step (R36 to R38, R42). -/
namespace Sys2Proof.Machine

/-- An entry at the announcement of points: rewritten where it is the unsent STATE of one of them (R37). -/
def TxEntry.retold (points : List Point) (t : State) (cause : Cause) (e : TxEntry) : TxEntry :=
  match e.disposition, e.body with
  | .unsent, .state b => if b.point ∈ points then { e with body := .state (toldOf (t.point b.point) b.point cause (satIncr b.count)) } else e
  | _, _ => e

/-- The entry that a point newly takes at its announcement (R38, R42). -/
def State.newlyTold (s t : State) (cause : Cause) (p : Point) : TxEntry :=
  s.entryOf (.state (toldOf (t.point p) p cause (s.point p).missed)) (s.bus.counter + 1)

/-- The announced points that stand in no unsent entry of the queue. -/
def freshPoints (queue : List TxEntry) (points : List Point) : List Point := points.filter fun p => !queue.any (TxEntry.unsentStateFor p)

theorem announced_iff (queue : List TxEntry) (s t : State) (points : List Point) (cause : Cause) :
    Announced queue s t points cause ↔
      t.bus.queue = queue.map (TxEntry.retold points t cause) ++ ((freshPoints queue points).take (24 - queue.length)).map (s.newlyTold t cause)
      ∧ ∀ p, (p ∈ (freshPoints queue points).take (24 - queue.length) → (t.point p).owed = false ∧ (t.point p).missed = 0)
        ∧ (p ∈ (freshPoints queue points).drop (24 - queue.length) → (t.point p).owed = true ∧ (t.point p).missed = satIncr (s.point p).missed)
        ∧ (p ∉ freshPoints queue points → (t.point p).owed = (s.point p).owed ∧ (t.point p).missed = (s.point p).missed) :=
  Iff.rfl

theorem TxEntry.retold_of_state {e : TxEntry} {b : StateBody} (unsent : e.disposition = .unsent) (body : e.body = .state b) (points : List Point) (t : State)
    (cause : Cause) :
    e.retold points t cause = if b.point ∈ points then { e with body := .state (toldOf (t.point b.point) b.point cause (satIncr b.count)) } else e := by
  unfold TxEntry.retold; rw [unsent, body]

theorem TxEntry.retold_of_other {e : TxEntry} (h : ¬ (e.disposition = .unsent ∧ ∃ b, e.body = .state b)) (points : List Point) (t : State) (cause : Cause) :
    e.retold points t cause = e := by
  unfold TxEntry.retold
  split
  · rename_i b unsent body
    exact absurd ⟨unsent, b, body⟩ h
  · rfl

theorem unsentStateFor_retold (p : Point) (points : List Point) (t : State) (cause : Cause) (e : TxEntry) :
    (e.retold points t cause).unsentStateFor p = e.unsentStateFor p := by
  by_cases h : e.disposition = .unsent ∧ ∃ b, e.body = .state b
  · obtain ⟨unsent, b, body⟩ := h
    rw [TxEntry.retold_of_state unsent body]
    split
    · simp [TxEntry.unsentStateFor, body, toldOf]
    · rfl
  · rw [TxEntry.retold_of_other h]

theorem retold_nil (t : State) (cause : Cause) (queue : List TxEntry) : queue.map (TxEntry.retold [] t cause) = queue := by
  refine (List.map_congr_left fun e _ => ?_).trans (List.map_id queue)
  by_cases h : e.disposition = .unsent ∧ ∃ b, e.body = .state b
  · obtain ⟨unsent, b, body⟩ := h
    rw [TxEntry.retold_of_state unsent body, if_neg List.not_mem_nil]; rfl
  · rw [TxEntry.retold_of_other h]; rfl

theorem announced_nil {queue : List TxEntry} {s t : State} (cause : Cause) (same : t.bus.queue = queue)
    (claims : ∀ p, (t.point p).owed = (s.point p).owed ∧ (t.point p).missed = (s.point p).missed) : Announced queue s t [] cause := by
  rw [announced_iff, retold_nil]
  refine ⟨by simp [freshPoints, same], fun p => ⟨fun h => ?_, fun h => ?_, fun _ => claims p⟩⟩ <;> simp [freshPoints] at h

/-- The announcement is the same read off states that agree in what it speaks of. -/
theorem Announced.of_same {queue : List TxEntry} {s s' t t' : State} {points : List Point} {cause : Cause} (h : Announced queue s t points cause)
    (mode : s'.mbu.mode = s.mbu.mode) (counter : s'.bus.counter = s.bus.counter) (before : s'.psq.points = s.psq.points)
    (after : t'.psq.points = t.psq.points) (told : t'.bus.queue = t.bus.queue) : Announced queue s' t' points cause := by
  unfold Announced State.entryOf State.point at h ⊢
  rw [mode, counter, before, after, told]
  exact h

/-- Entries are retold alike where the points told have the same records. -/
theorem retold_congr {points points' : List Point} {t t' : State} {cause : Cause} {e : TxEntry}
    (same : ∀ p, e.unsentStateFor p = true → (p ∈ points ↔ p ∈ points') ∧ (p ∈ points → t.point p = t'.point p)) :
    e.retold points t cause = e.retold points' t' cause := by
  by_cases h : e.disposition = .unsent ∧ ∃ b, e.body = .state b
  · obtain ⟨unsent, b, body⟩ := h
    obtain ⟨told, record⟩ := same b.point ((unsentStateFor_iff ..).2 ⟨unsent, b, body, rfl⟩)
    rw [TxEntry.retold_of_state unsent body, TxEntry.retold_of_state unsent body]
    by_cases mem : b.point ∈ points
    · rw [if_pos mem, if_pos (told.1 mem), record mem]
    · rw [if_neg mem, if_neg fun h => mem (told.2 h)]
  · rw [TxEntry.retold_of_other h, TxEntry.retold_of_other h]

theorem freshPoints_append (queue : List TxEntry) (points : List Point) (p : Point) :
    freshPoints queue (points ++ [p]) = freshPoints queue points ++ if queue.any (TxEntry.unsentStateFor p) then [] else [p] := by
  unfold freshPoints
  rw [List.filter_append]
  cases h : queue.any (TxEntry.unsentStateFor p) <;> simp [h]

theorem unsentStateFor_newlyTold_of_ne {s t : State} {cause : Cause} {p q : Point} (h : q ≠ p) : (s.newlyTold t cause q).unsentStateFor p = false := by
  rw [← Bool.not_eq_true, unsentStateFor_iff]
  rintro ⟨-, b, body, point⟩
  rw [State.newlyTold, entryOf_body] at body
  cases body
  exact h point

section
variable {queue : List TxEntry} {s u : State} {points : List Point} {cause : Cause} {p : Point}

/-- After announcements the unsent STATEs of a point not among them are those of the queue. -/
theorem Announced.unsentStates (done : Announced queue s u points cause) (new : p ∉ points) : unsentStates p u.bus.queue = unsentStates p queue := by
  obtain ⟨told, -⟩ := (announced_iff ..).1 done
  have others : Machine.unsentStates p (((freshPoints queue points).take (24 - queue.length)).map (s.newlyTold u cause)) = 0 := by
    rw [unsentStates_eq_zero_iff, List.any_eq_false]
    intro e he
    obtain ⟨q, hq, rfl⟩ := List.mem_map.1 he
    rw [unsentStateFor_newlyTold_of_ne]
    · decide
    · rintro rfl; exact new (List.mem_filter.1 (List.mem_of_mem_take hq)).1
  rw [told, unsentStates_append, others]
  unfold Machine.unsentStates
  rw [List.countP_map, Nat.add_zero]
  exact List.countP_congr fun e _ => by simp [unsentStateFor_retold]

theorem Announced.length (done : Announced queue s u points cause) :
    u.bus.queue.length = queue.length + min (24 - queue.length) (freshPoints queue points).length := by
  obtain ⟨told, -⟩ := (announced_iff ..).1 done
  rw [told]; simp

theorem Announced.claims_of_not_mem (done : Announced queue s u points cause) (new : p ∉ points) :
    (u.point p).owed = (s.point p).owed ∧ (u.point p).missed = (s.point p).missed := by
  obtain ⟨-, claims⟩ := (announced_iff ..).1 done
  exact (claims p).2.2 fun h => new (List.mem_filter.1 h).1

/-- Behind earlier announcements the records of their points stay, and with them what their entries tell. -/
theorem newlyTold_congr {t : State} {told : List Point} (others : ∀ q, q ≠ p → t.point q = u.point q) (new : p ∉ told) :
    told.map (s.newlyTold u cause) = told.map (s.newlyTold t cause) :=
  List.map_congr_left fun q hq => by unfold State.newlyTold; rw [others q fun h => new (h ▸ hq)]

theorem retold_append_of_other {t : State} {e : TxEntry} (others : ∀ q, q ≠ p → t.point q = u.point q) (h : e.unsentStateFor p = false) :
    e.retold (points ++ [p]) t cause = e.retold points u cause := by
  refine (retold_congr fun q hq => ?_).symm
  have ne : q ≠ p := by rintro rfl; rw [h] at hq; cases hq
  exact ⟨by simp [ne], fun _ => (others q ne).symm⟩

/-- The point stands in an unsent entry, which is rewritten in place (R37). -/
theorem Announced.announce_unsent {t : State} (done : Announced queue s u points cause) (once : Machine.unsentStates p queue ≤ 1) (new : p ∉ points)
    (unsent : queue.any (TxEntry.unsentStateFor p) = true) (others : ∀ q, q ≠ p → t.point q = u.point q) {b : StateBody}
    (rewrites : t.bus.queue = rewriteUnsent p b u.bus.queue) (body : ∀ n, { b with count := n } = toldOf (t.point p) p cause n)
    (owed : (t.point p).owed = (u.point p).owed) (missed : (t.point p).missed = (u.point p).missed) :
    Announced queue s t (points ++ [p]) cause := by
  have untold : p ∉ freshPoints queue points := fun h => new (List.mem_filter.1 h).1
  have length := done.unsentStates new
  obtain ⟨told, claims⟩ := (announced_iff ..).1 done
  rw [announced_iff, freshPoints_append, if_pos unsent, List.append_nil]
  refine ⟨?_, fun q => ?_⟩
  · have fresh : p ∉ (freshPoints queue points).take (24 - queue.length) := fun h => untold (List.mem_of_mem_take h)
    rw [rewrites, rewriteUnsent_eq_map b (by rw [length]; exact once), told, List.map_append, List.map_map, List.map_map, ← newlyTold_congr others fresh]
    congr 1
    · refine List.map_congr_left fun e _ => ?_
      by_cases h : e.unsentStateFor p = true
      · obtain ⟨unsent, old, state, point⟩ := (unsentStateFor_iff ..).1 h
        have kept : e.retold points u cause = e := by rw [TxEntry.retold_of_state unsent state, if_neg (by rw [point]; exact new)]
        rw [Function.comp_apply, kept, TxEntry.rewritten_of_state unsent state, if_pos point, TxEntry.retold_of_state unsent state, if_pos (by simp [point]), point, body]
      · have h : e.unsentStateFor p = false := by simpa using h
        rw [Function.comp_apply, TxEntry.rewritten_of_other (by rw [unsentStateFor_retold]; exact h), retold_append_of_other others h]
    · refine List.map_congr_left fun q hq => ?_
      exact TxEntry.rewritten_of_other (unsentStateFor_newlyTold_of_ne (by rintro rfl; exact fresh hq)) b
  · by_cases h : q = p
    · subst h
      exact ⟨fun h => absurd (List.mem_of_mem_take h) untold, fun h => absurd (List.mem_of_mem_drop h) untold, fun _ => by
        rw [owed, missed]; exact (claims q).2.2 untold⟩
    · rw [others q h]; exact claims q

/-- The point stands in no unsent entry: it takes a free one at the tail, or is owed (R38). -/
theorem Announced.announce_fresh {t : State} (done : Announced queue s u points cause) (new : p ∉ points)
    (unsent : queue.any (TxEntry.unsentStateFor p) = false) (others : ∀ q, q ≠ p → t.point q = u.point q)
    (queued : t.bus.queue = if u.bus.queue.length < 24 then u.bus.queue ++ [s.newlyTold t cause p] else u.bus.queue)
    (claims : if u.bus.queue.length < 24 then (t.point p).owed = false ∧ (t.point p).missed = 0
      else (t.point p).owed = true ∧ (t.point p).missed = satIncr (s.point p).missed) :
    Announced queue s t (points ++ [p]) cause := by
  have untold : p ∉ freshPoints queue points := fun h => new (List.mem_filter.1 h).1
  have length := done.length
  obtain ⟨told, before⟩ := (announced_iff ..).1 done
  have none (e : TxEntry) (he : e ∈ queue) : e.unsentStateFor p = false := by simpa using List.any_eq_false.1 unsent e he
  have retold : queue.map (TxEntry.retold (points ++ [p]) t cause) = queue.map (TxEntry.retold points u cause) :=
    List.map_congr_left fun e he => retold_append_of_other others (none e he)
  rw [announced_iff, freshPoints_append, if_neg (by rw [unsent]; decide), retold, queued, told]
  rw [told] at length
  by_cases free : u.bus.queue.length < 24
  · have room : (freshPoints queue points).length + 1 ≤ 24 - queue.length := by rw [told, length] at free; omega
    rw [if_pos free] at claims
    rw [← told, if_pos free, told]
    rw [List.take_of_length_le (by omega)] at before ⊢
    rw [List.take_of_length_le (by simpa using room), List.drop_of_length_le (by simpa using room)]
    refine ⟨by rw [newlyTold_congr others untold]; simp, fun q => ?_⟩
    by_cases h : q = p
    · subst h
      exact ⟨fun _ => claims, nofun, fun out => absurd (by simp) out⟩
    · rw [others q h]
      obtain ⟨taken, -, out⟩ := before q
      exact ⟨fun mem => taken (by simpa [h] using mem), nofun, fun mem => out fun mem' => mem (List.mem_append_left _ mem')⟩
  · have room : 24 - queue.length ≤ (freshPoints queue points).length := by rw [told, length] at free; omega
    rw [if_neg free] at claims
    rw [← told, if_neg free, told, List.take_append_of_le_length room, List.drop_append_of_le_length room]
    refine ⟨by rw [newlyTold_congr others fun h => untold (List.mem_of_mem_take h)], fun q => ?_⟩
    by_cases h : q = p
    · subst h
      exact ⟨fun mem => absurd (List.mem_of_mem_take mem) untold, fun _ => claims, fun out => absurd (by simp) out⟩
    · rw [others q h]
      obtain ⟨taken, owed, out⟩ := before q
      exact ⟨taken, fun mem => owed (by simpa [h] using mem), fun mem => out fun mem' => mem (List.mem_append_left _ mem')⟩

theorem Announced.unsent_same (done : Announced queue s u points cause) (new : p ∉ points) :
    u.bus.queue.any (TxEntry.unsentStateFor p) = queue.any (TxEntry.unsentStateFor p) := by
  have counts := done.unsentStates new
  rw [Bool.eq_iff_iff, ← Bool.not_eq_false, ← Bool.not_eq_false, ← unsentStates_eq_zero_iff, ← unsentStates_eq_zero_iff, counts]

/-- One point more is announced, behind those before it. -/
theorem Announced.announce {r : PointRecord} (done : Announced queue s u points cause) (once : Machine.unsentStates p queue ≤ 1) (new : p ∉ points)
    (mode : u.mbu.mode = s.mbu.mode) (counter : u.bus.counter = s.bus.counter) (told : r.cause = some cause)
    (owed : r.owed = (u.point p).owed) (missed : r.missed = (u.point p).missed) :
    Announced queue s (Machine.announce p (u.setPoint p r)) (points ++ [p]) cause := by
  have others : ∀ q, q ≠ p → (Machine.announce p (u.setPoint p r)).point q = u.point q := fun q h => by
    rw [point_announce_of_ne h, State.point_setPoint, if_neg h]
  have record : (u.setPoint p r).point p = r := by rw [State.point_setPoint, if_pos rfl]
  have same : (u.setPoint p r).bus.queue.any (TxEntry.unsentStateFor p) = queue.any (TxEntry.unsentStateFor p) := done.unsent_same new
  have missedBefore := missed.trans (done.claims_of_not_mem new).2
  cases unsent : queue.any (TxEntry.unsentStateFor p) with
  | true =>
    have way := announce_of_unsent (same.trans unsent)
    have point : (Machine.announce p (u.setPoint p r)).point p = r := by rw [way]; exact record
    refine done.announce_unsent once new unsent others (b := announcement r p 0) (by rw [way, record]; rfl) (fun n => ?_) (by rw [point, owed]) (by rw [point, missed])
    rw [point]
    simp [announcement, toldOf, told]
  | false =>
    by_cases free : u.bus.queue.length < 24
    · have way := announce_of_free (same.trans unsent) free
      have point : (Machine.announce p (u.setPoint p r)).point p = { r with owed := false, missed := 0 } := by
        rw [way, point_placed_state, if_pos rfl, record]
      refine done.announce_fresh new unsent others ?_ ?_
      · rw [if_pos free, State.newlyTold, point, way]
        simp only [Claim.placed, record, State.entryOf, told, Option.getD_some, missedBefore]
        rw [show (u.setPoint p r).mbu.mode = s.mbu.mode from mode, show (u.setPoint p r).bus.counter = s.bus.counter from counter]
        rfl
      · rw [if_pos free, point]; exact ⟨rfl, rfl⟩
    · have way := announce_of_full (same.trans unsent) (Nat.not_lt.1 free)
      have point : (Machine.announce p (u.setPoint p r)).point p = { r with owed := true, missed := satIncr r.missed } := by
        rw [way, State.point_setPoint, if_pos rfl, record]
      refine done.announce_fresh new unsent others ?_ ?_
      · rw [if_neg free, way]; rfl
      · rw [if_neg free, point, missedBefore]; exact ⟨rfl, rfl⟩

/-- One transition more in RUNNING is announced behind those before it. -/
theorem Announced.takeEvent {ev : PointEvent} (done : Announced queue s u points ev.cause) (once : Machine.unsentStates p queue ≤ 1) (new : p ∉ points)
    (mode : u.mbu.mode = s.mbu.mode) (counter : u.bus.counter = s.bus.counter) (running : u.psq.phase = .running) {stamp : Millis}
    (made : ((u.point p).byGrid ev stamp).2 = true) :
    Announced queue s (Machine.takeEvent p ev stamp u) (points ++ [p]) ev.cause := by
  rw [takeEvent_of_made running made]
  exact done.announce once new mode counter (PointRecord.cause_of_made made) (by rw [PointRecord.byGrid_frame]) (by rw [PointRecord.byGrid_frame])

end

end Sys2Proof.Machine
end

section
/-! A qualified change moves its point: COUNTDOWN_EXPIRY (R29, R36, R44, R53, R57, R58). -/
namespace Sys2Proof.Machine

theorem Tab.lowest_eq_some {α : Type} {f : α → Bool} {t : Tab α} {p : Fin 16} (here : f (t.get p) = true) (below : ∀ q, q < p → f (t.get q) = false) :
    t.lowest f = some p := by
  cases h : t.lowest f with
  | none => rw [Tab.lowest_none.1 h p] at here; cases here
  | some q =>
    have found := Tab.lowest_some h
    rcases lt_trichotomy q p with less | same | more
    · rw [below q less] at found; cases found
    · rw [same]
    · unfold Tab.lowest at h
      obtain ⟨-, before, after, split, earlier⟩ := List.find?_eq_some_iff_append.1 h
      have mem : p ∈ before := by
        have all : p ∈ before ++ q :: after := split ▸ mem_indices p
        have sorted : (before ++ q :: after).Pairwise (· < ·) := split ▸ (by decide : indices.Pairwise (· < ·))
        rcases List.mem_append.1 all with h | h
        · exact h
        · rcases List.mem_cons.1 h with h | h
          · exact absurd h more.ne
          · exact absurd (List.rel_of_pairwise_cons (List.pairwise_append.1 sorted).2.1 h) (not_lt_of_gt more)
      have := earlier p mem
      rw [here] at this
      cases this

/-- The lowest point whose change is due is qualified (R51). -/
theorem exec_countdownExpiry_lowest {s : State} {p : Point} (runs : s.runs = true) (due : (s.fieldPoint p).due = true)
    (below : ∀ q, q < p → (s.fieldPoint q).due = false) : exec (.countdownExpiry p) s = .next (settleIdleWait (qualify p s)) := by
  have lowest : s.fiu.points.lowest (·.due) = some p := Tab.lowest_eq_some due below
  rw [exec_countdownExpiry, arise_true (by simp [State.qualifiesNext, runs, lowest])]

/-! ## The grid, by its events -/

theorem PointRecord.byGrid_activate {r : PointRecord} (h : r.state = .normal ∨ r.state = .alert ∨ r.state = .returned) (stamp : Millis) :
    r.byGrid .activate stamp = ({ r with field := .active, state := .alert, condition := .active, stamp := stamp, cause := some .activate }, true) := by
  unfold PointRecord.byGrid; rcases h with h | h | h <;> rw [h] <;> rfl

theorem PointRecord.byGrid_clear {r : PointRecord} (h : r.state = .alert ∨ r.state = .held) (stamp : Millis) :
    r.byGrid .clear stamp =
      ({ r with field := .normal, state := if r.state = .alert then .alert else .returned, condition := .normal, stamp := stamp, cause := some .clear }, true) := by
  unfold PointRecord.byGrid; rcases h with h | h <;> rw [h] <;> rfl

/-- The change qualified, before its event. -/
def State.qualified (s : State) (p : Point) : State := s.setFieldPoint p { s.fieldPoint p with qualified := (s.fieldPoint p).raw, due := false }

theorem qualify_of_normal {s : State} {p : Point} (raw : (s.fieldPoint p).raw = .normal) :
    qualify p s = takeEvent p .clear s.fiu.tickStamp (s.qualified p) := by
  unfold qualify
  dsimp only
  split
  · simp_all
  · rfl

theorem qualify_of_active {s : State} {p : Point} (raw : (s.fieldPoint p).raw = .active) :
    qualify p s = countActivation p (takeEvent p .activate s.fiu.tickStamp (s.qualified p)) := by
  unfold qualify
  dsimp only
  split
  · rfl
  · simp_all

/-- Settles O11: the three ways of `announce`. -/
theorem clearIsAnnounced : Obligations.ClearIsAnnounced := by
  intro s p runs running due below raw state r told
  let cleared : PointRecord := { r with field := .normal, state := if r.state = .alert then .alert else .returned, condition := .normal, stamp := s.fiu.tickStamp, cause := some .clear }
  let moved : State := (s.qualified p).setPoint p cleared
  have event : qualify p s = announce p moved := by
    have grid := PointRecord.byGrid_clear (r := (s.qualified p).point p) state s.fiu.tickStamp
    rw [qualify_of_normal raw, takeEvent_of_made (s := s.qualified p) running (by rw [grid]), grid]
    rfl
  have record : moved.point p = cleared := by rw [State.point_setPoint, if_pos rfl]
  have outcome : exec (.countdownExpiry p) s = .next (settleIdleWait (announce p moved)) := by
    rw [exec_countdownExpiry_lowest runs due below, event]
  have bus := settleIdleWait_bus (announce p moved)
  have queue : (settleIdleWait (announce p moved)).bus.queue = (announce p moved).bus.queue := by rw [bus]
  have point : (settleIdleWait (announce p moved)).point p = (announce p moved).point p := by rw [bus]; rfl
  refine ⟨_, outcome, fun pre e post b n split before here body count => ?_, fun none free => ?_, fun none full => ?_⟩
  · have unsent : moved.bus.queue.any (TxEntry.unsentStateFor p) = true := List.any_eq_true.2 ⟨e, by
      show e ∈ s.bus.queue; rw [split]; simp, here⟩
    have counted : satIncr b.count = n := Fin.ext ((satIncr_val _).trans count.symm)
    rw [queue, point, announce_of_unsent unsent, State.setQueue_bus, record]
    refine ⟨?_, (congrArg PointRecord.owed record : _ = cleared.owed), (congrArg PointRecord.missed record : _ = cleared.missed)⟩
    show rewriteUnsent p _ s.bus.queue = _
    rw [split, rewriteUnsent_of_split _ post before here body, counted]
    rfl
  · have unsent : moved.bus.queue.any (TxEntry.unsentStateFor p) = false := List.any_eq_false.2 fun e he => by rw [none e he]; decide
    rw [queue, point, announce_of_free unsent free, point_placed_state, if_pos rfl]
    refine ⟨rfl, rfl, ?_⟩
    simp only [Claim.placed, record]
    rfl
  · have unsent : moved.bus.queue.any (TxEntry.unsentStateFor p) = false := List.any_eq_false.2 fun e he => by rw [none e he]; decide
    rw [queue, point, announce_of_full unsent full, record, State.point_setPoint, if_pos rfl]
    exact ⟨rfl, rfl, satIncr_val _⟩

end Sys2Proof.Machine
end

section
/-! A qualified ACTIVATE and the SHELVE it may bring about (R57, R58): O10. -/
namespace Sys2Proof.Machine

/-! ## The grid and R44, by their events -/

theorem PointRecord.byGrid_activate_held {r : PointRecord} (h : r.state = .held) (stamp : Millis) :
    r.byGrid .activate stamp = ({ r with field := .active }, false) := by
  unfold PointRecord.byGrid; rw [h]; rfl

theorem PointRecord.byGrid_activate_shelved {r : PointRecord} (h : r.state = .shelved) (stamp : Millis) :
    r.byGrid .activate stamp = ({ r with field := .active, condition := .active }, false) := by
  unfold PointRecord.byGrid; rw [h]; rfl

theorem PointRecord.byGrid_clear_shelved {r : PointRecord} (h : r.state = .shelved) (stamp : Millis) :
    r.byGrid .clear stamp = ({ r with field := .normal, condition := .normal }, false) := by
  unfold PointRecord.byGrid; rw [h]; rfl

theorem PointRecord.byGrid_clear_settled {r : PointRecord} (h : r.state = .normal ∨ r.state = .returned) (stamp : Millis) :
    r.byGrid .clear stamp = ({ r with field := .normal }, false) := by
  unfold PointRecord.byGrid; rcases h with h | h <;> rw [h] <;> rfl

theorem PointRecord.byGrid_shelve {r : PointRecord} (h : r.state ≠ .shelved) (stamp : Millis) :
    r.byGrid .shelve stamp = ({ r with state := .shelved, stamp := stamp, cause := some .shelve }, true) := by
  unfold PointRecord.byGrid; cases state : r.state <;> first | exact absurd state h | rfl

/-! ## The count of an ACTIVATE -/

/-- The ACTIVATE that brings a point's count to its threshold (R58). -/
abbrev Shelves (s : State) (p : Point) : Prop :=
  (s.fieldPoint p).raw = .active ∧ (s.conf.points.get p).threshold.val ≠ 0
    ∧ (s.fieldPoint p).chatter.val + 1 = (s.conf.points.get p).threshold.val ∧ (s.point p).state ≠ .shelved

/-- The field point after its qualified change: an ACTIVATE is counted where the point has a threshold (R53, R57). -/
def FieldPoint.counted (f : FieldPoint) (threshold : Nat) : FieldPoint :=
  { f with qualified := f.raw, due := false, chatter := if f.raw = .active ∧ threshold ≠ 0 then satIncr f.chatter else f.chatter }

/-- The event of a qualified change (R53). -/
def Condition.event : Condition → PointEvent
  | .active => .activate
  | .normal => .clear

theorem Condition.event_field (c old : Condition) : c.event.field old = c := by cases c <;> rfl

/-- The change and the SHELVE it brings about, as the Point Sequencer takes them. -/
def State.changed (s : State) (p : Point) : State :=
  let moved := takeEvent p (s.fieldPoint p).raw.event s.fiu.tickStamp s
  if Shelves s p then takeEvent p .shelve s.tmb.groupTime moved else moved

theorem changed_of_shelves {s : State} {p : Point} (h : Shelves s p) :
    s.changed p = takeEvent p .shelve s.tmb.groupTime (takeEvent p .activate s.fiu.tickStamp s) := by
  have raw := h.1
  unfold State.changed
  dsimp only
  rw [if_pos h, raw]
  rfl

theorem changed_of_not_shelves {s : State} {p : Point} (h : ¬ Shelves s p) :
    s.changed p = takeEvent p (s.fieldPoint p).raw.event s.fiu.tickStamp s := if_neg h

/-- The Field Input Unit plays no part in an event of the Point Sequencer. -/
theorem takeEvent_setFiu (p : Point) (ev : PointEvent) (stamp : Millis) (s : State) (f : Fiu) :
    takeEvent p ev stamp (s.setFiu f) = (takeEvent p ev stamp s).setFiu f := by
  have told (u : State) : announce p (u.setFiu f) = (announce p u).setFiu f := by
    unfold announce
    dsimp only
    rw [State.setFiu_bus]
    (repeat' split) <;> rfl
  rw [takeEvent_eq, takeEvent_eq]
  by_cases h : s.psq.phase = .running ∧ ((s.point p).byGrid ev stamp).2 = true
  · rw [if_pos h]; exact (if_pos h).trans (told (s.setPoint p ((s.point p).after s.psq.phase ev stamp)))
  · rw [if_neg h]; exact if_neg h

/-- An event leaves SHELVED and not SHELVED apart, but for SHELVE and UNSHELVE. -/
theorem state_activate_shelved_iff (p : Point) (stamp : Millis) (s : State) :
    ((takeEvent p .activate stamp s).point p).state = .shelved ↔ (s.point p).state = .shelved := by
  rw [point_takeEvent]
  unfold PointRecord.after
  split
  · unfold PointRecord.inHolding; dsimp only; split <;> rfl
  · unfold PointRecord.byGrid; cases (s.point p).state <;> simp [grid]

theorem fiu_changed (s : State) (p : Point) : (s.changed p).fiu = s.fiu := by
  unfold State.changed; dsimp only; split <;> simp

theorem setFieldPoint_setFieldPoint (s : State) (p : Point) (f g : FieldPoint) : (s.setFieldPoint p f).setFieldPoint p g = s.setFieldPoint p g := by
  unfold State.setFieldPoint
  rw [State.setFiu_fiu, set_set]
  rfl

theorem takeEvent_setFieldPoint (p q : Point) (ev : PointEvent) (stamp : Millis) (s : State) (f : FieldPoint) :
    takeEvent p ev stamp (s.setFieldPoint q f) = (takeEvent p ev stamp s).setFieldPoint q f := by
  unfold State.setFieldPoint
  rw [takeEvent_setFiu]
  simp

/-- A qualified change: the Point Sequencer takes it, and the Field Input Unit counts it. -/
theorem qualify_eq (p : Point) (s : State) :
    qualify p s = (s.changed p).setFieldPoint p ((s.fieldPoint p).counted (s.conf.points.get p).threshold.val) := by
  cases raw : (s.fieldPoint p).raw with
  | normal =>
    have quiet : ¬ Shelves s p := fun h => by have := h.1; rw [raw] at this; cases this
    rw [qualify_of_normal raw, changed_of_not_shelves quiet, raw, State.qualified, takeEvent_setFieldPoint, FieldPoint.counted, if_neg (by rw [raw]; simp)]
    rfl
  | active =>
    let f : FieldPoint := { s.fieldPoint p with qualified := (s.fieldPoint p).raw, due := false }
    let moved := takeEvent p .activate s.fiu.tickStamp s
    have taken : takeEvent p .activate s.fiu.tickStamp (s.qualified p) = moved.setFieldPoint p f := by
      rw [State.qualified, takeEvent_setFieldPoint]
    have here : (moved.setFieldPoint p f).fieldPoint p = f := by rw [State.fieldPoint_setFieldPoint, if_pos rfl]
    have conf : (moved.setFieldPoint p f).conf = s.conf := by
      show (takeEvent p .activate s.fiu.tickStamp s).conf = _; rw [takeEvent_units]; rfl
    have stamp : (moved.setFieldPoint p f).tmb.groupTime = s.tmb.groupTime := by
      show (takeEvent p .activate s.fiu.tickStamp s).tmb.groupTime = _; rw [takeEvent_units]
    rw [qualify_of_active raw, taken, countActivation]
    dsimp only
    rw [here, conf, stamp, setFieldPoint_setFieldPoint, takeEvent_setFieldPoint]
    by_cases zero : (s.conf.points.get p).threshold.val = 0
    · rw [if_pos zero, changed_of_not_shelves fun h => h.2.1 zero, raw, FieldPoint.counted, if_neg fun h => h.2 zero]
      rfl
    · have counted : (s.fieldPoint p).counted (s.conf.points.get p).threshold.val = { f with chatter := satIncr f.chatter } := by
        rw [FieldPoint.counted, if_pos ⟨raw, zero⟩]
      have shelves : (f.chatter.val + 1 = (s.conf.points.get p).threshold.val ∧ ((moved.setFieldPoint p f).point p).state ≠ .shelved) ↔ Shelves s p := by
        have shelved := state_activate_shelved_iff p s.fiu.tickStamp s
        exact ⟨fun ⟨count, h⟩ => ⟨raw, zero, count, fun h' => h (shelved.2 h')⟩, fun ⟨_, _, count, h⟩ => ⟨count, fun h' => h (shelved.1 h')⟩⟩
      rw [if_neg zero, counted]
      by_cases h : Shelves s p
      · rw [if_pos (shelves.2 h), changed_of_shelves h]
      · rw [if_neg fun h' => h (shelves.1 h'), changed_of_not_shelves h, raw]; rfl

/-! ## The record of the point -/

theorem takeEvent_phase (p : Point) (ev : PointEvent) (stamp : Millis) (s : State) : (takeEvent p ev stamp s).psq.phase = s.psq.phase := by
  rw [takeEvent_units]

theorem changed_units (s : State) (p : Point) :
    s.changed p = { s with psq := { s.psq with points := (s.changed p).psq.points }, bus := { s.bus with queue := (s.changed p).bus.queue } } := by
  by_cases h : Shelves s p
  · rw [changed_of_shelves h, takeEvent_units, takeEvent_units p .activate]
  · rw [changed_of_not_shelves h]; exact takeEvent_units ..

theorem point_changed_of_ne {p q : Point} (h : q ≠ p) (s : State) : (s.changed p).point q = s.point q := by
  by_cases shelves : Shelves s p
  · rw [changed_of_shelves shelves, point_takeEvent_of_ne h, point_takeEvent_of_ne h]
  · rw [changed_of_not_shelves shelves, point_takeEvent_of_ne h]

/-- What the SHELVE of a full count leaves of the record (R44, R58). -/
theorem point_changed_of_shelves {s : State} {p : Point} (h : Shelves s p) (held : (s.point p).state = .held → (s.point p).condition = .active) :
    ((s.changed p).point p).state = .shelved ∧ ((s.changed p).point p).condition = .active ∧ ((s.changed p).point p).field = .active
      ∧ ((s.changed p).point p).stamp = s.tmb.groupTime ∧ ((s.changed p).point p).cause = some .shelve := by
  have activated := point_takeEvent p .activate s.fiu.tickStamp s
  rw [changed_of_shelves h, point_takeEvent p .shelve, takeEvent_phase, activated]
  obtain ⟨-, -, -, unshelved⟩ := h
  unfold PointRecord.after
  by_cases holding : s.psq.phase = .holding
  · rw [if_pos holding, if_pos holding]
    unfold PointRecord.inHolding
    exact ⟨rfl, by dsimp only; rw [if_neg unshelved]; rfl, by dsimp only; rw [if_neg unshelved]; rfl, rfl, rfl⟩
  · rw [if_neg holding, if_neg holding]
    cases state : (s.point p).state with
    | shelved => exact absurd state unshelved
    | held =>
      rw [PointRecord.byGrid_activate_held state, PointRecord.byGrid_shelve (by exact unshelved)]
      exact ⟨rfl, held state, rfl, rfl, rfl⟩
    | _ =>
      rw [PointRecord.byGrid_activate (by simp [state]), PointRecord.byGrid_shelve (by simp)]
      exact ⟨rfl, rfl, rfl, rfl, rfl⟩

theorem point_changed_of_not_shelves {s : State} {p : Point} (h : ¬ Shelves s p) :
    (s.changed p).point p =
      { (s.point p).after s.psq.phase (s.fieldPoint p).raw.event s.fiu.tickStamp with
          owed := ((s.changed p).point p).owed, missed := ((s.changed p).point p).missed } := by
  rw [changed_of_not_shelves h]; exact point_takeEvent ..

/-- An event that is no transition in RUNNING leaves queue, owed flag and missed count. -/
theorem takeEvent_claims {p : Point} {ev : PointEvent} {stamp : Millis} {s : State} (h : ¬ (s.psq.phase = .running ∧ ((s.point p).byGrid ev stamp).2 = true)) :
    (takeEvent p ev stamp s).bus.queue = s.bus.queue ∧ ((takeEvent p ev stamp s).point p).owed = (s.point p).owed
      ∧ ((takeEvent p ev stamp s).point p).missed = (s.point p).missed := by
  rw [takeEvent_of_quiet h, State.point_setPoint, if_pos rfl, PointRecord.after_frame]
  exact ⟨rfl, rfl, rfl⟩

theorem changed_claims_of_not_running {s : State} (p : Point) (h : s.psq.phase ≠ .running) :
    (s.changed p).bus.queue = s.bus.queue ∧ ((s.changed p).point p).owed = (s.point p).owed ∧ ((s.changed p).point p).missed = (s.point p).missed := by
  by_cases shelves : Shelves s p
  · obtain ⟨queue, owed, missed⟩ := takeEvent_claims (p := p) (ev := .activate) (stamp := s.fiu.tickStamp) fun h' => h h'.1
    obtain ⟨queue', owed', missed'⟩ := takeEvent_claims (s := takeEvent p .activate s.fiu.tickStamp s) (p := p) (ev := .shelve) (stamp := s.tmb.groupTime)
      fun h' => h (by rw [← takeEvent_phase]; exact h'.1)
    rw [changed_of_shelves shelves]
    exact ⟨queue'.trans queue, owed'.trans owed, missed'.trans missed⟩
  · rw [changed_of_not_shelves shelves]
    exact takeEvent_claims fun h' => h h'.1

/-! ## The announcements of a change in RUNNING -/

section
variable {u : State} {p : Point} (r : PointRecord)

theorem told_of_unsent (h : u.bus.queue.any (TxEntry.unsentStateFor p) = true) :
    (announce p (u.setPoint p r)).bus.queue = rewriteUnsent p (announcement r p 0) u.bus.queue ∧ (announce p (u.setPoint p r)).point p = r := by
  have record : (u.setPoint p r).point p = r := by rw [State.point_setPoint, if_pos rfl]
  rw [announce_of_unsent (s := u.setPoint p r) h, record]
  exact ⟨rfl, record⟩

theorem told_of_free (h : u.bus.queue.any (TxEntry.unsentStateFor p) = false) (free : u.bus.queue.length < 24) :
    (announce p (u.setPoint p r)).bus.queue = u.bus.queue ++ [u.entryOf (.state (announcement r p r.missed)) (u.bus.counter + 1)]
      ∧ (announce p (u.setPoint p r)).point p = { r with owed := false, missed := 0 } := by
  have record : (u.setPoint p r).point p = r := by rw [State.point_setPoint, if_pos rfl]
  rw [announce_of_free (s := u.setPoint p r) h free, point_placed_state, if_pos rfl, record]
  refine ⟨?_, rfl⟩
  simp only [Claim.placed, record]
  rfl

theorem told_of_full (h : u.bus.queue.any (TxEntry.unsentStateFor p) = false) (full : 24 ≤ u.bus.queue.length) :
    (announce p (u.setPoint p r)).bus.queue = u.bus.queue ∧ (announce p (u.setPoint p r)).point p = { r with owed := true, missed := satIncr r.missed } := by
  have record : (u.setPoint p r).point p = r := by rw [State.point_setPoint, if_pos rfl]
  rw [announce_of_full (s := u.setPoint p r) h full, record, State.point_setPoint, if_pos rfl]
  exact ⟨rfl, rfl⟩

end

/-- An ACTIVATE and its SHELVE, announced one after the other (R36, R58). -/
theorem shelvedAtOnce {s : State} {p : Point} (h : Shelves s p) (raised : (s.point p).state ≠ .held) (running : s.psq.phase = .running)
    (once : unsentStates p s.bus.queue ≤ 1) : ShelvedAtOnce s (s.changed p) p := by
  have state : (s.point p).state = .normal ∨ (s.point p).state = .alert ∨ (s.point p).state = .returned := by
    have unshelved := h.2.2.2
    cases state : (s.point p).state <;> simp_all
  let activated : PointRecord :=
    { s.point p with field := .active, state := .alert, condition := .active, stamp := s.fiu.tickStamp, cause := some .activate }
  let u := announce p (s.setPoint p activated)
  have activates : takeEvent p .activate s.fiu.tickStamp s = u := by
    have grid := PointRecord.byGrid_activate state s.fiu.tickStamp
    rw [takeEvent_of_made running (by rw [grid]), grid]
  let shelved (o : Bool) (m : Count) : PointRecord := { activated with state := .shelved, stamp := s.tmb.groupTime, cause := some .shelve, owed := o, missed := m }
  have changed (o : Bool) (m : Count) (point : u.point p = { activated with owed := o, missed := m }) :
      s.changed p = announce p (u.setPoint p (shelved o m)) := by
    have grid := PointRecord.byGrid_shelve (r := u.point p) (by rw [point]; simp [activated]) s.tmb.groupTime
    have phase : u.psq.phase = .running := by rw [← activates, takeEvent_phase, running]
    rw [changed_of_shelves h, activates, takeEvent_of_made phase (by rw [grid]), grid, point]
  have units : u.mbu.mode = s.mbu.mode ∧ u.bus.counter = s.bus.counter := by
    rw [← activates, takeEvent_units]; exact ⟨rfl, rfl⟩
  refine ⟨fun unsent => ?_, fun unsent full => ?_, fun unsent free mode => ?_, fun unsent last mode => ?_, fun unsent free mode => ?_⟩
  · obtain ⟨queue, point⟩ := told_of_unsent activated unsent
    obtain ⟨-, counts⟩ := rewriteUnsent_counts p (announcement activated p 0) rfl s.bus.queue
    have counts : unsentStates p u.bus.queue = unsentStates p s.bus.queue := by rw [queue]; exact counts p
    have unsent' : u.bus.queue.any (TxEntry.unsentStateFor p) = true := by
      rw [← Bool.not_eq_false, ← unsentStates_eq_zero_iff] at unsent ⊢; rwa [counts]
    obtain ⟨queue', point'⟩ := told_of_unsent (shelved (s.point p).owed (s.point p).missed) unsent'
    rw [changed _ _ point, queue', point', rewriteUnsent_eq_map _ (by rw [counts]; exact once), queue, rewriteUnsent_eq_map _ once, List.map_map]
    refine ⟨⟨rfl, rfl⟩, List.map_congr_left fun e _ => ?_⟩
    rw [Function.comp_apply]
    by_cases here : e.unsentStateFor p = true
    · obtain ⟨unsent, old, body, same⟩ := (unsentStateFor_iff ..).1 here
      rw [TxEntry.rewritten_of_state unsent body, if_pos same]
      refine (TxEntry.rewritten_of_state (by exact unsent) (by rfl) p _).trans ((if_pos rfl).trans ?_)
      rw [unsent, body]
      exact (if_pos same).symm
    · have other := Bool.not_eq_true _ ▸ here
      rw [TxEntry.rewritten_of_other other, TxEntry.rewritten_of_other other]
      split
      · rename_i old unsent body
        exact (if_neg fun same => here ((unsentStateFor_iff ..).2 ⟨unsent, old, body, same⟩)).symm
      · rfl
  · obtain ⟨queue, point⟩ := told_of_full activated unsent full
    obtain ⟨queue', point'⟩ := told_of_full (u := u) (shelved true (satIncr (s.point p).missed)) (by rw [queue]; exact unsent) (by rw [queue]; exact full)
    rw [changed _ _ point, queue', point']
    exact ⟨queue, rfl, rfl⟩
  · obtain ⟨queue, point⟩ := told_of_free activated unsent free
    have others (e : TxEntry) (he : e ∈ s.bus.queue) : e.unsentStateFor p = false := by simpa using List.any_eq_false.1 unsent e he
    have entry : s.entryOf (.state (announcement activated p activated.missed)) (s.bus.counter + 1)
        = { body := .state (announcement activated p activated.missed), disposition := .unsent, attempts := 0, seq := none } := if_neg mode
    have here : (s.entryOf (.state (announcement activated p activated.missed)) (s.bus.counter + 1)).unsentStateFor p = true := by
      rw [entry, unsentStateFor_iff]; exact ⟨rfl, _, rfl, rfl⟩
    obtain ⟨queue', point'⟩ := told_of_unsent (u := u) (p := p) (shelved false 0) (by rw [queue, List.any_append, List.any_cons, here]; simp)
    rw [changed _ _ point, queue', point', queue, rewriteUnsent_of_split _ [] others here (entryOf_body ..), entry]
    refine ⟨?_, rfl, rfl⟩
    unfold State.entryOf
    rw [if_neg mode]
    rfl
  · obtain ⟨queue, point⟩ := told_of_free activated unsent (by omega)
    have none : u.bus.queue.any (TxEntry.unsentStateFor p) = false := by
      rw [queue, List.any_append, unsent]; simp [State.entryOf, mode, TxEntry.unsentStateFor]
    obtain ⟨queue', point'⟩ := told_of_full (u := u) (shelved false 0) none (by rw [queue, List.length_append]; simp; omega)
    rw [changed _ _ point, queue', point']
    exact ⟨queue, rfl, rfl⟩
  · obtain ⟨queue, point⟩ := told_of_free activated unsent (by omega)
    have none : u.bus.queue.any (TxEntry.unsentStateFor p) = false := by
      rw [queue, List.any_append, unsent]; simp [State.entryOf, mode, TxEntry.unsentStateFor]
    obtain ⟨queue', point'⟩ := told_of_free (u := u) (shelved false 0) none (by rw [queue, List.length_append]; simp; omega)
    rw [changed _ _ point, queue', point', queue, List.append_assoc]
    obtain ⟨mode', counter⟩ := units
    unfold State.entryOf
    rw [mode', counter]
    exact ⟨rfl, rfl, rfl⟩

/-- The announcements of a qualified change in RUNNING, but for an ACTIVATE and its SHELVE together (R36, R37, R38). -/
theorem announced_takeEvent {s : State} {p : Point} (ev : PointEvent) {stamp : Millis} (running : s.psq.phase = .running)
    (once : unsentStates p s.bus.queue ≤ 1) (made : ((s.point p).byGrid ev stamp).2 = true) :
    Announced s.bus.queue s (takeEvent p ev stamp s) [p] ev.cause :=
  (announced_nil (s := s) ev.cause rfl fun _ => ⟨rfl, rfl⟩).takeEvent once List.not_mem_nil rfl rfl running made

theorem announced_shelve_of_held {s : State} {p : Point} (h : Shelves s p) (held : (s.point p).state = .held) (running : s.psq.phase = .running)
    (once : unsentStates p s.bus.queue ≤ 1) : Announced s.bus.queue s (s.changed p) [p] .shelve := by
  have grid := PointRecord.byGrid_activate_held held s.fiu.tickStamp
  have quiet : takeEvent p .activate s.fiu.tickStamp s = s.setPoint p { s.point p with field := .active } := by
    rw [takeEvent_of_quiet (by rw [grid]; simp), PointRecord.after, if_neg (by rw [running]; decide), grid]
  have record : (s.setPoint p { s.point p with field := .active }).point p = { s.point p with field := .active } := by rw [State.point_setPoint, if_pos rfl]
  rw [changed_of_shelves h, quiet]
  refine (announced_nil (s := s) (t := s.setPoint p { s.point p with field := .active }) .shelve rfl fun q => ?_).takeEvent (ev := .shelve) once List.not_mem_nil rfl rfl running ?_
  · rw [State.point_setPoint]
    split
    · rename_i same; rw [same]; exact ⟨rfl, rfl⟩
    · exact ⟨rfl, rfl⟩
  · rw [record, PointRecord.byGrid_shelve (by rw [held]; decide)]

theorem PointRecord.after_of_not_holding {phase : Phase} (h : phase ≠ .holding) (r : PointRecord) (ev : PointEvent) (stamp : Millis) :
    r.after phase ev stamp = (r.byGrid ev stamp).1 := if_neg h

/-- In HOLDING a change moves the field condition, and the condition of a SHELVED point (R44). -/
theorem PointRecord.after_change_of_holding (r : PointRecord) (raw : Condition) (stamp : Millis) :
    r.after .holding raw.event stamp = { r with field := raw, condition := if r.state = .shelved then raw else r.condition } := by
  unfold PointRecord.after PointRecord.inHolding
  rw [if_pos rfl]
  cases raw <;> dsimp only [Condition.event] <;> split <;> rfl

theorem byGrid_change_of_shelved {r : PointRecord} (h : r.state = .shelved) (raw : Condition) (stamp : Millis) :
    r.byGrid raw.event stamp = ({ r with field := raw, condition := raw }, false) := by
  cases raw
  exacts [PointRecord.byGrid_clear_shelved h stamp, PointRecord.byGrid_activate_shelved h stamp]

/-- Settles O10: `qualify_eq`, the records of `State.changed` and its announcements. -/
theorem qualifiedChangeMovesThePoint : Obligations.QualifiedChangeMovesThePoint := by
  intro s p agree runs due below f r threshold shelves
  have outcome := exec_countdownExpiry_lowest runs due below
  let g := (s.fieldPoint p).counted threshold
  have bus := settleIdleWait_bus (qualify p s)
  rw [qualify_eq] at outcome bus
  let t := settleIdleWait ((s.changed p).setFieldPoint p g)
  have units := changed_units s p
  have shape : t = { s with fiu := { s.fiu with points := s.fiu.points.set p g }, psq := { s.psq with points := (s.changed p).psq.points }
                            bus := { s.bus with queue := (s.changed p).bus.queue, idleWait := t.bus.idleWait } } :=
    bus.trans (congrArg (fun u : State => { u.setFieldPoint p g with bus := { u.bus with idleWait := t.bus.idleWait } }) units)
  have points : t.psq.points = (s.changed p).psq.points := by rw [shape]
  have point (q : Point) : t.point q = (s.changed p).point q := congrArg (·.get q) points
  have queue : t.bus.queue = (s.changed p).bus.queue := by rw [shape]
  have fields : t.fiu.points = s.fiu.points.set p g := by rw [shape]
  have field (q : Point) : t.fieldPoint q = if q = p then g else s.fieldPoint q := (congrArg (·.get q) fields).trans (Tab.get_set ..)
  have timer : ((s.changed p).setFieldPoint p g).bus.idleWait = s.bus.idleWait := by
    show (s.changed p).bus.idleWait = _; rw [units]
  refine ⟨t, outcome, (settleIdleWait_spec _).of_timer timer, by rw [fields, points, queue]; exact shape, ?_, ?_, ?_, fun q h => ⟨?_, ?_⟩, fun h => ?_, fun h phase => ?_,
    fun h phase => ?_, fun phase => ?_, fun holds running => ?_⟩
  · rw [field, if_pos rfl]; rfl
  · rw [field, if_pos rfl]
    show (if f.raw = .active ∧ threshold ≠ 0 then satIncr f.chatter else f.chatter).val = _
    split
    · exact satIncr_val _
    · rfl
  · rw [point]
    by_cases h : Shelves s p
    · exact (point_changed_of_shelves h (agree p).1).2.2.1.trans h.1.symm
    · rw [point_changed_of_not_shelves h]; exact (PointRecord.field_after ..).trans (Condition.event_field ..)
  · rw [field, if_neg h]
  · rw [point, point_changed_of_ne h]
  · obtain ⟨state, condition, -, stamp, cause⟩ := point_changed_of_shelves h (agree p).1
    rw [point]
    exact ⟨state, condition, stamp, cause⟩
  · have record := point_changed_of_not_shelves h
    rw [PointRecord.after_of_not_holding phase] at record
    rw [point]
    refine ⟨fun raw state => ?_, fun raw state => ?_, fun raw state => ?_, fun state => ?_⟩
    · rw [record, raw, Condition.event, PointRecord.byGrid_activate state]; exact ⟨rfl, rfl, rfl, rfl⟩
    · rw [record, raw, Condition.event, PointRecord.byGrid_clear (Or.inl state), if_pos state]; exact ⟨rfl, rfl, rfl, rfl⟩
    · rw [record, raw, Condition.event, PointRecord.byGrid_clear (Or.inr state), if_neg (by rw [state]; decide)]; exact ⟨rfl, rfl, rfl, rfl⟩
    · have grid := byGrid_change_of_shelved state (s.fieldPoint p).raw s.fiu.tickStamp
      have quiet := takeEvent_of_quiet (s := s) (p := p) (ev := (s.fieldPoint p).raw.event) (stamp := s.fiu.tickStamp) (by rw [grid]; simp)
      rw [changed_of_not_shelves h, quiet, State.point_setPoint, if_pos rfl, PointRecord.after_of_not_holding phase, grid]
  · have quiet := takeEvent_of_quiet (s := s) (p := p) (ev := (s.fieldPoint p).raw.event) (stamp := s.fiu.tickStamp) (by rw [phase]; simp)
    rw [point, changed_of_not_shelves h, quiet, State.point_setPoint, if_pos rfl, phase, PointRecord.after_change_of_holding]
  · rw [point, queue]; exact changed_claims_of_not_running p phase
  · have once := (((queueHolds_iff s).1 holds).2 p).1
    have lift {cause : Cause} (h : Announced s.bus.queue s (s.changed p) [p] cause) : Announced s.bus.queue s t [p] cause := h.of_same rfl rfl rfl points queue
    refine ⟨fun h held => lift (announced_shelve_of_held h held running once), fun h raised => ?_, fun h raw state => ?_, fun h raw state => ?_, fun h still => ?_⟩
    · have told := shelvedAtOnce h raised running once
      unfold ShelvedAtOnce at told ⊢
      rw [point, queue]
      exact told
    · refine lift ?_
      rw [changed_of_not_shelves h, raw]
      exact announced_takeEvent .activate running once (by rw [PointRecord.byGrid_activate state])
    · refine lift ?_
      rw [changed_of_not_shelves h, raw]
      exact announced_takeEvent .clear running once (by rw [PointRecord.byGrid_clear state])
    · rw [point, queue, changed_of_not_shelves h]
      refine takeEvent_claims fun made => ?_
      obtain ⟨-, made⟩ := made
      rcases still with ⟨raw, held | shelved⟩ | ⟨raw, normal | returned | shelved⟩ <;> rw [raw, Condition.event] at made
      · rw [PointRecord.byGrid_activate_held held] at made; cases made
      · rw [PointRecord.byGrid_activate_shelved shelved] at made; cases made
      · rw [PointRecord.byGrid_clear_settled (Or.inl normal)] at made; cases made
      · rw [PointRecord.byGrid_clear_settled (Or.inr returned)] at made; cases made
      · rw [PointRecord.byGrid_clear_shelved shelved] at made; cases made

end Sys2Proof.Machine
end

section
/-! The Membership Unit at a frame of a stream: ACK, RESET, REPLAY and RESYNC REQUEST (R98, R100, R102, R105). -/
namespace Sys2Proof.Machine

/-- A peer's frame begins a resync wait: it returns, or it is in step and shows a gap (R100, R102). -/
abbrev BeginsWait (s : State) (e : RxEntry) : Prop :=
  e.origin = .peer ∧ (s.member e.frame.src).presence ≠ .self
    ∧ ((s.member e.frame.src).presence = .absent ∨ ((s.member e.frame.src).sync = .inStep ∧ e.frame.seq ≠ (s.member e.frame.src).expected - 1))

/-- The RESYNC REQUEST of a wait takes a free entry at once (R105). -/
abbrev RequestsAtOnce (s : State) (e : RxEntry) : Prop := BeginsWait s e ∧ s.mbu.mode ≠ .isolated ∧ s.bus.queue.length < 24

/-- What a frame of a stream leaves after the Membership Unit has heard it. -/
structure StreamHeard (s u : State) (e : RxEntry) : Prop where
  units : u = { s with gat := u.gat, hrn := u.hrn, jnl := u.jnl, mbu := { s.mbu with members := u.mbu.members }, bus := { s.bus with queue := u.bus.queue } }
  queue : u.bus.queue =
    if RequestsAtOnce s e then s.bus.queue ++ [{ body := .resyncRequest e.frame.src, disposition := .unsent, attempts := 0, seq := none }] else s.bus.queue
  owed : ∀ a, (u.member a).resyncOwed = if BeginsWait s e ∧ a = e.frame.src then !decide (RequestsAtOnce s e) else (s.member a).resyncOwed
  replay : ∀ a, (u.member a).replay = (s.member a).replay ∧ (u.member a).replayTimer = (s.member a).replayTimer
  copy : ∀ a p, (recordAt u.gat a p).state = (recordAt s.gat a p).state
  still : e.origin ≠ .peer ∨ (s.member e.frame.src).presence = .self → u = s

theorem StreamHeard.refl {s : State} {e : RxEntry} (h : ¬ BeginsWait s e) : StreamHeard s s e where
  units := rfl
  queue := (if_neg fun h' => h h'.1).symm
  owed _ := (if_neg fun h' => h h'.1).symm
  replay _ := ⟨rfl, rfl⟩
  copy _ _ := rfl
  still _ := rfl

/-- A resync claim: the request is placed at the tail, or owed (R105). -/
theorem claimResync_spec (a : Addr) (s : State) :
    (claimResync a s).bus.queue =
        (if s.mbu.mode ≠ .isolated ∧ s.bus.queue.length < 24 then s.bus.queue ++ [{ body := .resyncRequest a, disposition := .unsent, attempts := 0, seq := none }] else s.bus.queue)
      ∧ ∀ b, (claimResync a s).member b = if b = a then { s.member a with resyncOwed := !decide (s.mbu.mode ≠ .isolated ∧ s.bus.queue.length < 24) } else s.member b := by
  have room : (s.bus.hasFree && !s.isolated) = true ↔ s.mbu.mode ≠ .isolated ∧ s.bus.queue.length < 24 := by
    simp [hasFree_iff, State.isolated, and_comm]
  unfold claimResync
  by_cases h : s.mbu.mode ≠ .isolated ∧ s.bus.queue.length < 24
  · have isolated : s.isolated = false := by simp [State.isolated, h.1]
    rw [if_pos (room.2 h), if_pos h, decide_eq_true h]
    refine ⟨by simp [placeTail, entryFor, State.isolated, h.1], fun b => ?_⟩
    simp [placeTail, State.member, State.setMember, Tab.get_set]
  · rw [if_neg fun h' => h (room.1 h'), if_neg h, decide_eq_false h]
    refine ⟨rfl, fun b => ?_⟩
    simp [State.member, State.setMember, Tab.get_set]

/-- A member entry moved, but for its owed request and its replay. -/
theorem streamHeard_setMember {s : State} {e : RxEntry} (stays : ¬ BeginsWait s e) (hears : e.origin = .peer ∧ (s.member e.frame.src).presence ≠ .self) {m : Member}
    (owed : m.resyncOwed = (s.member e.frame.src).resyncOwed)
    (replay : m.replay = (s.member e.frame.src).replay ∧ m.replayTimer = (s.member e.frame.src).replayTimer) :
    StreamHeard s (s.setMember e.frame.src m) e where
  units := rfl
  queue := (if_neg fun h => stays h.1).symm
  owed a := by
    rw [if_neg (c := _ ∧ _) fun h => stays h.1, State.member_setMember]
    split
    · rename_i same; rw [same, owed]
    · rfl
  replay a := by
    rw [State.member_setMember]
    split
    · rename_i same; rw [same]; exact replay
    · exact ⟨rfl, rfl⟩
  copy _ _ := rfl
  still h := h.elim (fun h => absurd hears.1 h) fun h => absurd h hears.2

/-- A wait begun with another member entry: STALE claimed, the request queued or owed (R102, R105). -/
theorem streamHeard_beginWait {s : State} {e : RxEntry} (begins : BeginsWait s e) {m : Member}
    (replay : m.replay = (s.member e.frame.src).replay ∧ m.replayTimer = (s.member e.frame.src).replayTimer) :
    StreamHeard s (claimStale e.frame.src (claimResync e.frame.src (s.setMember e.frame.src m))) e := by
  obtain ⟨queue, member⟩ := claimResync_spec e.frame.src (s.setMember e.frame.src m)
  have requests : RequestsAtOnce s e ↔ s.mbu.mode ≠ .isolated ∧ s.bus.queue.length < 24 := and_iff_right begins
  have stale (a : Addr) : (claimStale e.frame.src (claimResync e.frame.src (s.setMember e.frame.src m))).member a
      = (claimResync e.frame.src (s.setMember e.frame.src m)).member a := by
    unfold State.member; rw [claimStale, claimStatus_eq]
  let u := claimStale e.frame.src (claimResync e.frame.src (s.setMember e.frame.src m))
  have mbu : u.mbu = (claimResync e.frame.src (s.setMember e.frame.src m)).mbu := (claimStale_frame ..).2.2.2.2.2.2.2.2.1
  have bus : u.bus = (claimResync e.frame.src (s.setMember e.frame.src m)).bus := (claimStale_frame ..).2.2.2.2.2.2.2.1
  refine ⟨?_, ?_, fun a => ?_, fun a => ?_, fun a p => ?_, fun h => h.elim (fun h => absurd begins.1 h) fun h => absurd h begins.2.1⟩
  · rw [show (claimStale _ _).mbu = _ from mbu, show (claimStale _ _).bus = _ from bus]
    exact (claimStatus_eq ..).trans (congrArg (fun v : State => { v with gat := u.gat, hrn := u.hrn, jnl := u.jnl }) (claimResync_eq ..))
  · rw [show (claimStale _ _).bus = _ from bus, queue]
    exact if_congr requests.symm rfl rfl
  · rw [stale, member]
    by_cases same : a = e.frame.src
    · rw [if_pos same, if_pos (c := _ ∧ _) ⟨begins, same⟩]
      exact congrArg (!·) (decide_eq_decide.2 requests.symm)
    · rw [if_neg same, if_neg (c := _ ∧ _) fun h => same h.2, State.member_setMember, if_neg same]
  · rw [stale, member]
    split
    · rename_i same; rw [State.member_setMember, if_pos rfl, same]; exact replay
    · rename_i same; rw [State.member_setMember, if_neg same]; exact ⟨rfl, rfl⟩
  · rw [recordAt_claimStale, claimResync_eq]
    split <;> rfl

theorem streamHeard_spec {s : State} {e : RxEntry} (peer : e.origin = .peer) (other : (s.member e.frame.src).presence ≠ .self)
    (gap : ∀ x, gapShown x e.frame.seq e.frame.body = (e.frame.seq != x - 1)) :
    StreamHeard s (streamHeard e.frame.src e.frame.seq e.frame.body (restartSilence e.frame.src s)) e := by
  have begins : BeginsWait s e ↔ (s.member e.frame.src).presence = .absent
      ∨ ((s.member e.frame.src).sync = .inStep ∧ gapShown (s.member e.frame.src).expected e.frame.seq e.frame.body = true) := by
    rw [gap, bne_iff_ne]
    exact ⟨fun h => h.2.2, fun h => ⟨peer, other, h⟩⟩
  unfold streamHeard
  dsimp only
  rw [member_restartSilence, restartSilence, setMember_setMember]
  by_cases h : BeginsWait s e
  · rw [if_pos (begins.1 h), beginWait, setMember_setMember, State.member_setMember, if_pos rfl]
    exact streamHeard_beginWait h ⟨rfl, rfl⟩
  · rw [if_neg fun h' => h (begins.2 h')]
    exact streamHeard_setMember h ⟨peer, other⟩ rfl ⟨rfl, rfl⟩

/-- The Membership Unit's steps 2 and 3 of R98 at a frame of the receive queue: a peer's frame is heard. -/
def State.heardFrom (s : State) (e : RxEntry) : State := if e.origin = .peer then peerHeard e.frame s else s

/-- ACK, RESET, REPLAY and RESYNC REQUEST are heard in the stream of their source. -/
theorem heardFrom_spec {e : RxEntry}
    (stream : (∃ mask, e.frame.body = .ack mask) ∨ (∃ mask, e.frame.body = .reset mask) ∨ (∃ a es, e.frame.body = .replay a es) ∨ ∃ a, e.frame.body = .resyncRequest a)
    (s : State) : StreamHeard s (s.heardFrom e) e := by
  unfold State.heardFrom
  by_cases peer : e.origin = .peer
  · rw [if_pos peer]
    unfold peerHeard
    by_cases other : (s.member e.frame.src).presence = .self
    · rw [if_pos other]
      exact .refl fun h => h.2.1 other
    · rw [if_neg other]
      rcases stream with ⟨mask, body⟩ | ⟨mask, body⟩ | ⟨a, es, body⟩ | ⟨a, body⟩ <;> rw [body] <;> dsimp only <;> rw [← body] <;>
        exact streamHeard_spec peer other fun x => by rw [body]; rfl
  · rw [if_neg peer]
    exact .refl fun h => peer h.1

end Sys2Proof.Machine
end

section
/-! A request over the points: DELIVER_ACK and DELIVER_RESET (R32 to R34, R36). -/
namespace Sys2Proof.Machine

/-- The points of a list that a request takes have made their transition, each announced, and nothing else has moved. -/
structure RequestTaken (s u : State) (ev : PointEvent) (takes : Point → Bool) (done : List Point) : Prop where
  units : u = { s with psq := { s.psq with points := u.psq.points }, bus := { s.bus with queue := u.bus.queue } }
  others : ∀ p, ¬ (p ∈ done ∧ takes p = true) → u.point p = s.point p
  moved : ∀ p ∈ done, takes p = true →
    u.point p = { ((s.point p).byGrid ev s.tmb.groupTime).1 with owed := (u.point p).owed, missed := (u.point p).missed }
  told : (∀ p, unsentStates p s.bus.queue ≤ 1) → Announced s.bus.queue s u (done.filter takes) ev.cause

theorem RequestTaken.nil (s : State) (ev : PointEvent) (takes : Point → Bool) : RequestTaken s s ev takes [] where
  units := rfl
  others _ _ := rfl
  moved _ h := absurd h List.not_mem_nil
  told _ := announced_nil ev.cause rfl fun _ => ⟨rfl, rfl⟩

/-- One step of a request: the point takes the event where the request applies to it. -/
def requestStep (mask : ZoneMask) (acts : SeqState) (ev : PointEvent) (s : State) (p : Point) : State :=
  if requestApplies mask acts s p then takeEvent p ev s.tmb.groupTime s else s

section
variable {s u : State} {mask : ZoneMask} {acts : SeqState} {ev : PointEvent} {done : List Point}

/-- Whether a point is taken is settled at its turn, and stands as before the request. -/
theorem RequestTaken.applies {takes : Point → Bool} (h : RequestTaken s u ev takes done) {p : Point} (new : p ∉ done) :
    requestApplies mask acts u p = requestApplies mask acts s p := by
  unfold requestApplies
  rw [h.others p fun h' => new h'.1]
  have gat : u.gat = s.gat ∧ u.own = s.own := by rw [h.units]; exact ⟨rfl, rfl⟩
  rw [gat.1, gat.2]

theorem RequestTaken.step (h : RequestTaken s u ev (requestApplies mask acts s) done) (running : s.psq.phase = .running) {p : Point} (new : p ∉ done)
    (made : requestApplies mask acts s p = true → ((s.point p).byGrid ev s.tmb.groupTime).2 = true) :
    RequestTaken s (requestStep mask acts ev u p) ev (requestApplies mask acts s) (done ++ [p]) := by
  obtain ⟨mode, counter, phase, stamp⟩ : u.mbu.mode = s.mbu.mode ∧ u.bus.counter = s.bus.counter ∧ u.psq.phase = s.psq.phase ∧ u.tmb.groupTime = s.tmb.groupTime := by
    rw [h.units]; exact ⟨rfl, rfl, rfl, rfl⟩
  have point := h.others p fun h' => new h'.1
  unfold requestStep
  rw [h.applies new, stamp]
  by_cases takes : requestApplies mask acts s p = true
  · have made : ((u.point p).byGrid ev s.tmb.groupTime).2 = true := by rw [point]; exact made takes
    rw [if_pos takes]
    refine ⟨?_, fun q hq => ?_, fun q hq takes' => ?_, fun once => ?_⟩
    · refine (takeEvent_units ..).trans ?_
      have units := h.units
      exact congrArg (fun v : State => { v with psq := { v.psq with points := (takeEvent p ev s.tmb.groupTime u).psq.points }, bus := { v.bus with queue := (takeEvent p ev s.tmb.groupTime u).bus.queue } }) units
    · have ne : q ≠ p := by rintro rfl; exact hq ⟨by simp, takes⟩
      rw [point_takeEvent_of_ne ne, h.others q fun h' => hq ⟨by simp [h'.1], h'.2⟩]
    · by_cases same : q = p
      · subst same
        have record := point_takeEvent q ev s.tmb.groupTime u
        rwa [phase, PointRecord.after_of_not_holding (by rw [running]; decide), point] at record
      · rw [point_takeEvent_of_ne same]
        exact h.moved q (by simpa [same] using hq) takes'
    · have told := (h.told once).takeEvent (once p) (fun mem => new (List.mem_filter.1 mem).1) mode counter (phase.trans running) made
      rw [List.filter_append, List.filter_cons_of_pos takes]
      exact told
  · rw [if_neg takes]
    refine ⟨h.units, fun q hq => h.others q fun h' => hq ⟨by simp [h'.1], h'.2⟩, fun q hq takes' => ?_, fun once => ?_⟩
    · have ne : q ≠ p := by rintro rfl; exact takes takes'
      exact h.moved q (by simpa [ne] using hq) takes'
    · rw [List.filter_append, List.filter_cons_of_neg takes, List.filter_nil, List.append_nil]
      exact h.told once

theorem RequestTaken.foldl (running : s.psq.phase = .running)
    (made : ∀ p, requestApplies mask acts s p = true → ((s.point p).byGrid ev s.tmb.groupTime).2 = true) (todo : List Point) :
    ∀ {done : List Point} {u : State}, (done ++ todo).Nodup → RequestTaken s u ev (requestApplies mask acts s) done →
      RequestTaken s (todo.foldl (requestStep mask acts ev) u) ev (requestApplies mask acts s) (done ++ todo) := by
  induction todo with
  | nil => intro done u _ h; rw [List.append_nil]; exact h
  | cons p todo ih =>
    intro done u nodup h
    have new : p ∉ done := fun mem => (List.nodup_append.1 nodup).2.2 p mem p (by simp) rfl
    have more := ih (done := done ++ [p]) (by simpa using nodup) (h.step running new (made p))
    simpa using more

end

/-- The states a request acts on, and its event (R32, R33). -/
abbrev RequestEvent (acts : SeqState) (ev : PointEvent) : Prop := (acts = .alert ∧ ev = .ack) ∨ (acts = .returned ∧ ev = .reset)

/-- A request that acts on a point is a transition of the grid (R29). -/
theorem byGrid_request {acts : SeqState} {ev : PointEvent} (h : RequestEvent acts ev) {r : PointRecord} (state : r.state = acts) (stamp : Millis) :
    r.byGrid ev stamp =
      ({ r with state := if acts = .returned then .normal else if r.condition = .active then .held else .returned
                condition := if acts = .returned then .normal else r.condition, stamp := stamp, cause := some ev.cause }, true) := by
  unfold PointRecord.byGrid
  rcases h with ⟨rfl, rfl⟩ | ⟨rfl, rfl⟩
  · cases condition : r.condition <;> rw [state] <;> rfl
  · rw [state]; rfl

theorem requestApplies_iff (mask : ZoneMask) (acts : SeqState) (s : State) (p : Point) :
    requestApplies mask acts s p = true ↔
      (s.point p).inUse = true ∧ mask.getLsbD (s.point p).zone.val = true ∧ (s.point p).state = acts ∧ (recordAt s.gat s.own p).state = acts := by
  simp [requestApplies, inMask, and_assoc]

theorem takeRequest_of_open {s : State} {acts : SeqState} {ev : PointEvent} (h : RequestEvent acts ev) (mask : ZoneMask)
    (takes : (s.mbu.mode = .active ∨ s.mbu.mode = .isolated) ∧ s.psq.phase = .running) :
    RequestTaken s (takeRequest mask acts ev s) ev (requestApplies mask acts s) indices := by
  obtain ⟨mode, running⟩ := takes
  have allowed : (s.mbu.mode.takesRequests && s.psq.phase == .running) = true := by
    rcases mode with mode | mode <;> rw [mode, running] <;> rfl
  have same : takeRequest mask acts ev s = indices.foldl (requestStep mask acts ev) s := if_pos allowed
  rw [same]
  refine RequestTaken.foldl running (fun p applies => ?_) indices (done := []) (by decide) (.nil ..)
  obtain ⟨-, -, state, -⟩ := (requestApplies_iff ..).1 applies
  rw [byGrid_request h state]

theorem takeRequest_of_closed {s : State} (h : ¬ ((s.mbu.mode = .active ∨ s.mbu.mode = .isolated) ∧ s.psq.phase = .running)) (mask : ZoneMask) (acts : SeqState)
    (ev : PointEvent) : takeRequest mask acts ev s = s := by
  refine if_neg fun allowed => h ?_
  rw [Bool.and_eq_true, beq_iff_eq] at allowed
  refine ⟨?_, allowed.2⟩
  have takes := allowed.1
  cases mode : s.mbu.mode <;> simp_all [Mode.takesRequests]

/-! ## The delivery -/

section
variable {s : State} {e : RxEntry}

theorem StreamHeard.unsentStates {h : State} (heard : StreamHeard s h e) (p : Point) : unsentStates p h.bus.queue = unsentStates p s.bus.queue := by
  rw [heard.queue]
  split
  · rw [unsentStates_append]; rfl
  · rfl

theorem StreamHeard.point {h : State} (heard : StreamHeard s h e) (p : Point) : h.point p = s.point p := by rw [heard.units]; rfl

/-- A request applies after the hearing of its frame where it applied before. -/
theorem StreamHeard.applies {h : State} (heard : StreamHeard s h e) (mask : ZoneMask) (acts : SeqState) (p : Point) :
    requestApplies mask acts h p = requestApplies mask acts s p := by
  have own : h.own = s.own := by rw [heard.units]; rfl
  rw [Bool.eq_iff_iff, requestApplies_iff, requestApplies_iff, heard.point, heard.copy, own]

theorem deliverStages_request {mask : ZoneMask} {acts : SeqState} {ev : PointEvent}
    (body : (e.frame.body = .ack mask ∧ acts = .alert ∧ ev = .ack) ∨ (e.frame.body = .reset mask ∧ acts = .returned ∧ ev = .reset)) (s : State) :
    deliverStages e s = takeRequest mask acts ev (s.heardFrom e) := by
  rcases body with ⟨body, rfl, rfl⟩ | ⟨body, rfl, rfl⟩ <;>
    simp [deliverStages, gtuStage, psqStage, tmbStage, mbuStage, peerClassHandling, ownHeard, body, State.heardFrom]

end

/-- Settles O32: the frame is heard (`heardFrom_spec`), and the points take the request one after another (`RequestTaken`). -/
theorem requestsActOnShownPoints : Obligations.RequestsActOnShownPoints := by
  intro s e rest mask command acts cause runs rx kind isOpen applies
  obtain ⟨ev, request, caused, stages, delivers, heard⟩ : ∃ ev, RequestEvent acts ev ∧ ev.cause = cause ∧ deliverStages e s = takeRequest mask acts ev (s.heardFrom e)
      ∧ e.frame.body.cls.delivery = command ∧ StreamHeard s (s.heardFrom e) e := by
    rcases kind with ⟨body, rfl, rfl, rfl⟩ | ⟨body, rfl, rfl, rfl⟩
    · exact ⟨.ack, Or.inl ⟨rfl, rfl⟩, rfl, deliverStages_request (Or.inl ⟨body, rfl, rfl⟩) s, by rw [body]; rfl, heardFrom_spec (Or.inl ⟨_, body⟩) s⟩
    · exact ⟨.reset, Or.inr ⟨rfl, rfl⟩, rfl, deliverStages_request (Or.inr ⟨body, rfl, rfl⟩) s, by rw [body]; rfl, heardFrom_spec (Or.inr (Or.inl ⟨_, body⟩)) s⟩
  generalize s.heardFrom e = h at stages heard
  let u := takeRequest mask acts ev h
  have outcome : exec command s = .next (endDelivery u) := by rw [← delivers, exec_delivery_head runs rx, stages]
  have openHere : ((h.mbu.mode = .active ∨ h.mbu.mode = .isolated) ∧ h.psq.phase = .running) ↔ isOpen := by rw [heard.units]
  have units : u = { h with psq := { h.psq with points := u.psq.points }, bus := { h.bus with queue := u.bus.queue } } := by
    by_cases takes : isOpen
    · exact (takeRequest_of_open request mask (openHere.2 takes)).units
    · rw [show u = h from takeRequest_of_closed (fun h' => takes (openHere.1 h')) mask acts ev]
  have unitsHere := heard.units
  have shape : u = { s with psq := { s.psq with points := u.psq.points }, bus := { s.bus with queue := u.bus.queue }
                            mbu := { s.mbu with members := h.mbu.members }, gat := h.gat, hrn := h.hrn, jnl := h.jnl } :=
    units.trans (congrArg (fun v : State => { v with psq := { v.psq with points := u.psq.points }, bus := { v.bus with queue := u.bus.queue } }) unitsHere)
  have timer : u.bus.idleWait = s.bus.idleWait := by rw [shape]
  have ended : endDelivery u = { u with bus := { u.bus with rx := rest, idleWait := (endDelivery u).bus.idleWait } } := by
    have tail : u.bus.rx.tail = rest := by rw [shape]; show s.bus.rx.tail = rest; rw [rx]; rfl
    conv => lhs; rw [endDelivery_eq, tail]
  have point (p : Point) : (endDelivery u).point p = u.point p := by rw [ended]; rfl
  have taken (takes : isOpen) := takeRequest_of_open request mask (openHere.2 takes)
  have applied (p : Point) : requestApplies mask acts h p = true ↔ applies p := by rw [heard.applies, requestApplies_iff]
  refine ⟨endDelivery u, outcome, endDelivery_settled timer, ?_, ⟨h.bus.queue, ?_, ?_, ?_, ?_⟩, fun own => ?_, fun p => ⟨?_, ?_⟩⟩
  · have fields : (endDelivery u).psq.points = u.psq.points ∧ (endDelivery u).bus.queue = u.bus.queue ∧ (endDelivery u).mbu.members = h.mbu.members
        ∧ (endDelivery u).gat = h.gat ∧ (endDelivery u).hrn = h.hrn ∧ (endDelivery u).jnl = h.jnl := by
      rw [ended, shape]; exact ⟨rfl, rfl, rfl, rfl, rfl, rfl⟩
    obtain ⟨points, queue, members, gat, hrn, jnl⟩ := fields
    rw [points, queue, members, gat, hrn, jnl]
    exact ended.trans (congrArg (fun v : State => { v with bus := { v.bus with rx := rest, idleWait := (endDelivery u).bus.idleWait } }) shape)
  · rintro ⟨peer, other, wait, mode, free⟩
    exact heard.queue.trans (if_pos ⟨⟨peer, other, wait⟩, mode, free⟩)
  · intro quiet
    exact heard.queue.trans (if_neg fun ⟨⟨peer, other, wait⟩, mode, free⟩ => quiet ⟨peer, other, wait, mode, free⟩)
  · intro closed
    have same : u = h := takeRequest_of_closed (fun h' => closed (openHere.1 h')) mask acts ev
    rw [ended, same]
  · intro holds takes
    have told := (taken takes).told fun p => by rw [heard.unsentStates]; exact (((queueHolds_iff s).1 holds).2 p).1
    have listed : (requestApplies mask acts h) = fun p =>
        (s.point p).inUse && mask.getLsbD (s.point p).zone.val && (s.point p).state == acts && (recordAt s.gat s.own p).state == acts :=
      funext fun p => heard.applies mask acts p
    rw [caused, listed] at told
    refine told.of_same ?_ ?_ ?_ ?_ ?_
    · rw [heard.units]
    · rw [heard.units]
    · rw [heard.units]
    · rw [ended]
    · rw [ended]
  · have same := heard.still (Or.inl own)
    have fields : (endDelivery u).mbu = h.mbu ∧ (endDelivery u).gat = h.gat ∧ (endDelivery u).hrn = h.hrn ∧ (endDelivery u).jnl = h.jnl := by
      rw [ended, units]; exact ⟨rfl, rfl, rfl, rfl⟩
    rwa [same] at fields
  · rintro ⟨takes, applies⟩
    have record := (taken takes).moved p (mem_indices p) ((applied p).2 applies)
    have stamp : h.tmb.groupTime = s.tmb.groupTime := by rw [heard.units]
    rw [heard.point, byGrid_request request applies.2.2.1, stamp, caused] at record
    rw [point, record]
    exact ⟨rfl, rfl, rfl, rfl, rfl⟩
  · intro unmoved
    rw [point]
    by_cases takes : isOpen
    · rw [(taken takes).others p fun h' => unmoved ⟨takes, (applied p).1 h'.2⟩, heard.point]
    · rw [show u = h from takeRequest_of_closed (fun h' => takes (openHere.1 h')) mask acts ev, heard.point]

end Sys2Proof.Machine
end

section
/-! The discard of a frame at its eighth failed attempt (R77, R79, R80). -/
namespace Sys2Proof.Machine

/-! ## What a discard owes -/

/-- The queue entry that the discard of a candidate's frame removes. -/
def Bif.discardedEntry (b : Bif) (c : Candidate) : Option TxEntry := if c = .queueHead then b.queue.head? else none

/-- A discarded STATE leaves its point owed unless an unsent STATE of the point stands in the queue (R40). -/
def owesPoint (rest : List TxEntry) (body : Option TxBody) (p : Point) : Bool :=
  match body with
  | some (.state b) => b.point == p && !rest.any (TxEntry.unsentStateFor p)
  | _ => false

/-- A discarded SNAPSHOT is owed again unless an unsent one stands in the queue (R79). -/
def owesSnapshot (rest : List TxEntry) (body : Option TxBody) : Bool :=
  match body with
  | some (.snapshot _) => !rest.any TxEntry.unsentSnapshot
  | _ => false

/-- A discarded JOIN is owed again unless an unsent one stands in the queue (R79). -/
def owesJoin (rest : List TxEntry) (body : Option TxBody) : Bool :=
  match body with
  | some (.join _) => !rest.any TxEntry.unsentJoin
  | _ => false

/-- A discarded STATE that took a number has ended under it (R82). -/
def endedBy (entry : Option TxEntry) (before : SeqNo) : SeqNo :=
  match entry with
  | some ⟨.state _, _, _, some n⟩ => n
  | _ => before

theorem owesPoint_eq_false {body : Option TxBody} (h : ∀ b, body ≠ some (.state b)) (rest : List TxEntry) (p : Point) : owesPoint rest body p = false := by
  unfold owesPoint; split
  · exact absurd rfl (h _)
  · rfl

theorem owesPoint_of_told {rest : List TxEntry} {b : StateBody} (told : rest.any (TxEntry.unsentStateFor b.point) = true) (p : Point) :
    owesPoint rest (some (.state b)) p = false := by
  show (b.point == p && !rest.any (TxEntry.unsentStateFor p)) = false
  by_cases same : b.point = p
  · rw [← same, told]; simp
  · simp [same]

theorem owesPoint_of_untold {rest : List TxEntry} {b : StateBody} (untold : rest.any (TxEntry.unsentStateFor b.point) = false) (p : Point) :
    owesPoint rest (some (.state b)) p = decide (b.point = p) := by
  show (b.point == p && !rest.any (TxEntry.unsentStateFor p)) = _
  by_cases same : b.point = p
  · rw [← same, untold]; simp
  · simp [same]

theorem owesSnapshot_eq_false {body : Option TxBody} (h : ∀ c, body ≠ some (.snapshot c)) (rest : List TxEntry) : owesSnapshot rest body = false := by
  unfold owesSnapshot; split
  · exact absurd rfl (h _)
  · rfl

theorem owesJoin_eq_false {body : Option TxBody} (h : ∀ m, body ≠ some (.join m)) (rest : List TxEntry) : owesJoin rest body = false := by
  unfold owesJoin; split
  · exact absurd rfl (h _)
  · rfl

theorem endedBy_of_state {e : TxEntry} {b : StateBody} (body : e.body = .state b) (before : SeqNo) : endedBy (some e) before = e.seq.getD before := by
  obtain ⟨_, disposition, attempts, seq⟩ := e
  cases body
  cases seq <;> rfl

theorem endedBy_of_not_state {entry : Option TxEntry} (h : ∀ b, entry.map TxEntry.body ≠ some (.state b)) (before : SeqNo) : endedBy entry before = before := by
  unfold endedBy; split
  · exact absurd rfl (h _)
  · rfl

/-- The station with a candidate's frame discarded and settled by its class, before the streak counts and the entry is offered. -/
def State.discarded (s : State) (c : Candidate) (line : Line) : State :=
  let rest := (s.bus.without c).queue
  let body := (s.bus.discardedEntry c).map TxEntry.body
  { s with psq := { s.psq with points := .ofFn fun p => { s.point p with owed := (s.point p).owed || owesPoint rest body p } }
           tmb := { s.tmb with markTimer := if c = .markSlot ∧ s.tmb.markTimer = .waiting then .running s.tmb.localCount else s.tmb.markTimer }
           bus := { s.bus.without c with line := line, owedSnapshot := s.bus.owedSnapshot || owesSnapshot rest body, owedJoin := s.bus.owedJoin || owesJoin rest body
                                         lastEnded := endedBy (s.bus.discardedEntry c) s.bus.lastEnded } }

theorem point_discarded (s : State) (c : Candidate) (line : Line) (p : Point) :
    (s.discarded c line).point p =
      { s.point p with owed := (s.point p).owed || owesPoint (s.bus.without c).queue ((s.bus.discardedEntry c).map TxEntry.body) p } := Tab.get_ofFn ..

theorem release_eq (m : MarkTimer) (now : Millis) : m.release now = if m = .waiting then .running now else m := by cases m <;> rfl

/-- The points as they stand, where the discard owes none. -/
theorem points_of_owesNone {s : State} {owes : Point → Bool} (h : ∀ p, owes p = false) :
    (Tab.ofFn fun p => { s.point p with owed := (s.point p).owed || owes p }) = s.psq.points := Tab.ext_get fun p => by
  rw [Tab.get_ofFn, h, Bool.or_false]; rfl

/-- The points as they stand, but for the one that the discard owes. -/
theorem points_of_owes {s : State} {p : Point} {owes : Point → Bool} (h : ∀ q, owes q = decide (p = q)) :
    (Tab.ofFn fun q => { s.point q with owed := (s.point q).owed || owes q }) = s.psq.points.set p { s.point p with owed := true } := Tab.ext_get fun q => by
  rw [Tab.get_ofFn, Tab.get_set, h]
  by_cases same : q = p
  · rw [if_pos same, same, decide_eq_true rfl, Bool.or_true]
  · rw [if_neg same, decide_eq_false (Ne.symm same), Bool.or_false]; rfl

theorem settleDiscard_eq {s : State} {e : TxEntry} {rest : List TxEntry} (queue : s.bus.queue = e :: rest) (line : Line) :
    settleDiscard e ((s.setLine line).setQueue rest) = s.discarded .queueHead line := by
  have entry : s.bus.discardedEntry .queueHead = some e := by simp [Bif.discardedEntry, queue]
  have without : s.bus.without .queueHead = { s.bus with queue := rest } := by simp [Bif.without, queue]
  have timer : (if Candidate.queueHead = .markSlot ∧ s.tmb.markTimer = .waiting then MarkTimer.running s.tmb.localCount else s.tmb.markTimer) = s.tmb.markTimer :=
    if_neg (by simp)
  unfold State.discarded settleDiscard
  dsimp only
  rw [entry, without, Option.map_some, timer]
  cases body : e.body with
  | state b =>
    have ended := endedBy_of_state body s.bus.lastEnded
    unfold oweDiscarded
    dsimp only
    rw [ended, owesSnapshot_eq_false (by simp), owesJoin_eq_false (by simp), Bool.or_false, Bool.or_false]
    by_cases told : rest.any (TxEntry.unsentStateFor b.point) = true
    · rw [points_of_owesNone (owesPoint_of_told told)]
      exact if_pos told
    · rw [points_of_owes (owesPoint_of_untold (eq_false_of_ne_true told))]
      exact if_neg told
  | _ =>
    have ended : endedBy (some e) s.bus.lastEnded = s.bus.lastEnded := endedBy_of_not_state (by simp [body]) _
    rw [ended, points_of_owesNone (owesPoint_eq_false (by simp) rest)]
    simp [owesSnapshot, owesJoin, State.setBif, State.setQueue, State.setLine]

/-- The eighth failed attempt discards the frame. -/
theorem chargeAttempt_discards {s : State} {c : Candidate} (last : s.bus.attemptsOf c = some 7) (line : Line) :
    chargeAttempt c (s.setLine line) = afterDiscard (s.discarded c line) := by
  have slot {entry : Candidate} (other : entry ≠ .queueHead) : s.bus.discardedEntry entry = none := if_neg other
  cases c with
  | queueHead =>
    cases queue : s.bus.queue with
    | nil => simp [Bif.attemptsOf, queue] at last
    | cons e rest =>
      have attempts : e.attempts = 7 := by simpa [Bif.attemptsOf, queue] using last
      rw [← settleDiscard_eq queue]
      unfold chargeAttempt
      dsimp only
      rw [State.setLine_bus]
      dsimp only
      rw [queue]
      exact if_neg (by rw [attempts]; decide)
  | markSlot =>
    cases mark : s.bus.markSlot with
    | none => simp [Bif.attemptsOf, mark] at last
    | some m =>
      have attempts : m.attempts = 7 := by simpa [Bif.attemptsOf, mark] using last
      have same : releaseMarkTimer ((s.setLine line).setBif { (s.setLine line).bus with markSlot := none }) = s.discarded .markSlot line := by
        unfold State.discarded
        dsimp only
        rw [slot (by decide), points_of_owesNone (owesPoint_eq_false (by simp) _), releaseMarkTimer, release_eq]
        simp [owesSnapshot, owesJoin, endedBy, Bif.without, State.setTmb, State.setBif, State.setLine]
        exact if_congr Iff.rfl rfl rfl
      rw [← same]
      unfold chargeAttempt
      dsimp only
      rw [State.setLine_bus]
      dsimp only
      rw [mark]
      exact if_neg (by rw [attempts]; decide)
  | heartbeatSlot =>
    cases beat : s.bus.heartbeatSlot with
    | none => simp [Bif.attemptsOf, beat] at last
    | some h =>
      have ⟨probe, attempts⟩ : h.probe = false ∧ h.attempts = 7 := by simpa [Bif.attemptsOf, beat] using last
      have same : (s.setLine line).setBif { (s.setLine line).bus with heartbeatSlot := none } = s.discarded .heartbeatSlot line := by
        unfold State.discarded
        dsimp only
        rw [slot (by decide), points_of_owesNone (owesPoint_eq_false (by simp) _)]
        simp [owesSnapshot, owesJoin, endedBy, Bif.without, State.setBif, State.setLine]
      rw [← same]
      unfold chargeAttempt
      dsimp only
      rw [State.setLine_bus]
      dsimp only
      rw [beat]
      dsimp only
      rw [probe, if_neg Bool.false_ne_true]
      exact if_neg (by rw [attempts]; decide)

end Sys2Proof.Machine
end

section
/-! A discard that leaves the station on the bus: O21 (R40, R74, R77 to R80). -/
namespace Sys2Proof.Machine

/-- TRANSMIT_ERROR and IDLE_WAIT_EXPIRY charge the candidate's frame and restart the idle-wait timer (R68, R77, R78). -/
theorem exec_charges {s : State} {c : Candidate} {command : Instr} {line : Line} (h : ChargesAttempt s c command line) :
    exec command s = .next (restartIdleWait (chargeAttempt c (s.setLine line))) := by
  rcases h with ⟨rfl, own, rfl⟩ | ⟨rfl, due, candidate, rfl, start, timer, reached⟩
  · rw [exec_transmitError, execTransmitError, own]
    rfl
  · have charges : s.idleWaitCharges = some c := by
      have expired : s.expired s.bus.idleWait = true := by
        rw [timer]
        exact decide_eq_true reached
      rw [State.idleWaitCharges, (idleWaitRuns_iff s).2 due, expired]
      exact candidate
    rw [exec_idleWaitExpiry, execIdleWaitExpiry, charges]
    rfl

theorem afterDiscard_of_low {s : State} (low : s.bus.streak < 2) : afterDiscard s = State.served { s with bus := { s.bus with streak := s.bus.streak + 1 } } := by
  have counted : countDiscard s = { s with bus := { s.bus with streak := s.bus.streak + 1 } } := by
    have least : min (s.bus.streak + 1) Config.streakLimit = s.bus.streak + 1 := Nat.min_eq_left (by unfold Config.streakLimit; omega)
    unfold countDiscard
    rw [least]
    rfl
  unfold afterDiscard
  dsimp only
  have below : (s.bus.streak + 1 == Config.streakLimit) = false := by
    rw [beq_eq_false_iff_ne]; unfold Config.streakLimit; omega
  rw [counted, offers_eq_served]
  dsimp only
  rw [below]
  rfl

/-! ## One claim alone -/

theorem firstClaim_of_only {s : State} {c : Claim} (holds : s.holds c = true) (free : c.passedOver = false ∨ s.mbu.mode ≠ .isolated)
    (only : ∀ c', s.holds c' = true → c' = c) : s.firstClaim = some c := by
  cases first : s.firstClaim with
  | some c' => rw [only c' (holds_of_firstClaim first)]
  | none =>
    have never := List.find?_eq_none.1 first c (mem_order c)
    rcases free with free | free <;> simp [holds, free] at never

theorem firstClaim_of_none {s : State} (h : ∀ c, s.holds c = false) : s.firstClaim = none :=
  List.find?_eq_none.2 fun c _ => by simp [h c]

/-- A claim that waits alone is served alone. -/
theorem served_of_only {s : State} {c : Claim} (room : s.bus.queue.length < 24) (holds : s.holds c = true)
    (free : c.passedOver = false ∨ s.mbu.mode ≠ .isolated) (only : ∀ c', s.holds c' = true → c' = c) : s.served = Claim.placed s c := by
  have none : (Claim.placed s c).firstClaim = none := by
    refine List.find?_eq_none.2 fun c' _ offers => ?_
    obtain ⟨held, other⟩ := placed_offers s c c' offers
    simp only [State.offers, Bool.and_eq_true] at held
    exact other (only c' held.1)
  show s.offeredTimes (51 + 1) = _
  unfold State.offeredTimes
  rw [if_pos room, firstClaim_of_only holds free only]
  dsimp only
  unfold State.offeredTimes
  rw [none]
  split <;> rfl

/-! ## What waits after a discard -/

section
variable {s : State} {c : Candidate} {line : Line}

/-- After a discard beside no waiting claim the one it owes waits, and no other. -/
theorem holds_discarded (nothing : NothingWaits s) (claim : Claim) :
    (s.discarded c line).holds claim = match claim with
      | .state p => owesPoint (s.bus.without c).queue ((s.bus.discardedEntry c).map TxEntry.body) p
      | .snapshot => owesSnapshot (s.bus.without c).queue ((s.bus.discardedEntry c).map TxEntry.body)
      | .join => owesJoin (s.bus.without c).queue ((s.bus.discardedEntry c).map TxEntry.body)
      | _ => false := by
  have none := (nothingWaits_iff s).1 nothing claim
  cases claim with
  | state p =>
    have owed : (s.point p).owed = false := none
    show ((s.discarded c line).point p).owed = _
    rw [point_discarded, owed, Bool.false_or]
  | snapshot =>
    have owed : s.bus.owedSnapshot = false := none
    show (s.bus.owedSnapshot || _) = _
    rw [owed, Bool.false_or]
  | join =>
    have owed : s.bus.owedJoin = false := none
    show (s.bus.owedJoin || _) = _
    rw [owed, Bool.false_or]
  | _ => exact none

/-- The station after a discard that counts below the streak limit, before the freed entry is offered. -/
def State.freedBy (s : State) (c : Candidate) (line : Line) : State :=
  { s.discarded c line with bus := { (s.discarded c line).bus with streak := s.bus.streak + 1 } }

/-- The same, without what the discard owes. -/
def State.plainlyFreedBy (s : State) (c : Candidate) (line : Line) : State :=
  { s with tmb := { s.tmb with markTimer := if c = .markSlot ∧ s.tmb.markTimer = .waiting then .running s.tmb.localCount else s.tmb.markTimer }
           bus := { s.bus.without c with line := line, streak := s.bus.streak + 1, lastEnded := endedBy (s.bus.discardedEntry c) s.bus.lastEnded } }

theorem freedBy_eq (s : State) (c : Candidate) (line : Line) :
    s.freedBy c line =
      { s.plainlyFreedBy c line with
          psq := { s.psq with points := .ofFn fun p => { s.point p with owed := (s.point p).owed || owesPoint (s.bus.without c).queue ((s.bus.discardedEntry c).map TxEntry.body) p } }
          bus := { (s.plainlyFreedBy c line).bus with
            owedSnapshot := s.bus.owedSnapshot || owesSnapshot (s.bus.without c).queue ((s.bus.discardedEntry c).map TxEntry.body)
            owedJoin := s.bus.owedJoin || owesJoin (s.bus.without c).queue ((s.bus.discardedEntry c).map TxEntry.body) } } := rfl

theorem without_owed (b : Bif) (c : Candidate) : (b.without c).owedSnapshot = b.owedSnapshot ∧ (b.without c).owedJoin = b.owedJoin := by
  cases c <;> exact ⟨rfl, rfl⟩

/-- A discard that owes nothing, beside no waiting claim: nothing is served. -/
theorem served_freedBy_of_owesNone (nothing : NothingWaits s)
    (point : ∀ p, owesPoint (s.bus.without c).queue ((s.bus.discardedEntry c).map TxEntry.body) p = false)
    (snapshot : owesSnapshot (s.bus.without c).queue ((s.bus.discardedEntry c).map TxEntry.body) = false)
    (join : owesJoin (s.bus.without c).queue ((s.bus.discardedEntry c).map TxEntry.body) = false) :
    (s.freedBy c line).served = s.plainlyFreedBy c line := by
  have none : ∀ claim, (s.freedBy c line).holds claim = false := fun claim => by
    refine (holds_discarded (c := c) (line := line) nothing claim).trans ?_
    cases claim <;> simp only [point, snapshot, join]
  obtain ⟨owedSnapshot, owedJoin⟩ := without_owed s.bus c
  rw [served_of_nothingWaits _ ((nothingWaits_iff _).2 none), freedBy_eq, points_of_owesNone point, snapshot, join, Bool.or_false, Bool.or_false,
    ← owedSnapshot, ← owedJoin]
  rfl

end

section
variable {s : State} {e : TxEntry} {rest : List TxEntry} {line : Line}

/-- The head discarded, with what it owes. -/
theorem holds_freedBy_head (nothing : NothingWaits s) (queue : s.bus.queue = e :: rest) (claim : Claim) :
    (s.freedBy .queueHead line).holds claim = match claim with
      | .state p => owesPoint rest (some e.body) p
      | .snapshot => owesSnapshot rest (some e.body)
      | .join => owesJoin rest (some e.body)
      | _ => false := by
  refine (holds_discarded (c := .queueHead) (line := line) nothing claim).trans ?_
  simp [Bif.discardedEntry, Bif.without, queue]

/-- The claim that a discard owes, alone, takes the entry it frees. -/
theorem served_freedBy_head (queue : s.bus.queue = e :: rest) (connected : s.mbu.mode ≠ .isolated) (limit : s.bus.queue.length ≤ 24) {claim : Claim}
    (holds : (s.freedBy .queueHead line).holds claim = true) (only : ∀ claim', (s.freedBy .queueHead line).holds claim' = true → claim' = claim) :
    (s.freedBy .queueHead line).served = Claim.placed (s.freedBy .queueHead line) claim := by
  refine served_of_only ?_ holds (Or.inr connected) only
  show s.bus.queue.tail.length < 24
  rw [queue] at limit ⊢
  simpa using limit

theorem freedBy_head_eq (nothing : NothingWaits s) (queue : s.bus.queue = e :: rest) :
    s.freedBy .queueHead line =
      { s with psq := { s.psq with points := .ofFn fun p => { s.point p with owed := (s.point p).owed || owesPoint rest (some e.body) p } }
               bus := { s.bus with line := line, queue := rest, streak := s.bus.streak + 1, lastEnded := endedBy (some e) s.bus.lastEnded
                                   owedSnapshot := owesSnapshot rest (some e.body), owedJoin := owesJoin rest (some e.body) } } := by
  have entry : s.bus.discardedEntry .queueHead = some e := by simp [Bif.discardedEntry, queue]
  have without : s.bus.without .queueHead = { s.bus with queue := rest } := by simp [Bif.without, queue]
  have timer : (if Candidate.queueHead = .markSlot ∧ s.tmb.markTimer = .waiting then MarkTimer.running s.tmb.localCount else s.tmb.markTimer) = s.tmb.markTimer :=
    if_neg (by simp)
  have snapshot : s.bus.owedSnapshot = false := (nothingWaits_iff s).1 nothing .snapshot
  have join : s.bus.owedJoin = false := (nothingWaits_iff s).1 nothing .join
  rw [freedBy_eq, State.plainlyFreedBy, entry, without, timer, snapshot, join, Bool.false_or, Bool.false_or]
  rfl

/-- A discarded STATE whose point stands in no unsent entry is told anew (R40). -/
theorem served_freedBy_state (nothing : NothingWaits s) (queue : s.bus.queue = e :: rest) (connected : s.mbu.mode ≠ .isolated) (limit : s.bus.queue.length ≤ 24)
    {b : StateBody} (body : e.body = .state b) (untold : rest.any (TxEntry.unsentStateFor b.point) = false) :
    (s.freedBy .queueHead line).served =
      { s with psq := { s.psq with points := s.psq.points.set b.point { s.point b.point with owed := false, missed := 0 } }
               bus := { s.bus with line := line, streak := s.bus.streak + 1, lastEnded := e.seq.getD s.bus.lastEnded
                                   queue := rest ++ [{ body := .state (announcement (s.point b.point) b.point (s.point b.point).missed), disposition := .unsent, attempts := 0, seq := none }] } } := by
  have holds := holds_freedBy_head (line := line) nothing queue
  rw [body] at holds
  have snapshot : s.bus.owedSnapshot = false := (nothingWaits_iff s).1 nothing .snapshot
  have join : s.bus.owedJoin = false := (nothingWaits_iff s).1 nothing .join
  have freed := freedBy_head_eq (line := line) nothing queue
  rw [body, points_of_owes (owesPoint_of_untold untold), endedBy_of_state body, (owesSnapshot_eq_false (by simp) rest).trans snapshot.symm,
    (owesJoin_eq_false (by simp) rest).trans join.symm] at freed
  rw [served_freedBy_head queue connected limit (claim := .state b.point) ?_ fun claim held => ?_, freed]
  · simp only [Claim.placed, State.point, Tab.get_set_self, set_set, State.entryOf]
    rw [if_neg connected]
    rfl
  · rw [holds]
    exact (owesPoint_of_untold untold _).trans (decide_eq_true rfl)
  · rw [holds] at held
    cases claim with
    | state p => dsimp only at held; rw [owesPoint_of_untold untold, decide_eq_true_eq] at held; rw [held]
    | _ => cases held

/-- A discarded SNAPSHOT beside no unsent one is claimed anew (R79). -/
theorem served_freedBy_snapshot (nothing : NothingWaits s) (queue : s.bus.queue = e :: rest) (connected : s.mbu.mode ≠ .isolated) (limit : s.bus.queue.length ≤ 24)
    {contents : Option (Tab Entry)} (body : e.body = .snapshot contents) (untold : rest.any TxEntry.unsentSnapshot = false) :
    (s.freedBy .queueHead line).served =
      { s with bus := { s.bus with line := line, streak := s.bus.streak + 1
                                   queue := rest ++ [{ body := .snapshot none, disposition := .unsent, attempts := 0, seq := none }] } } := by
  have holds := holds_freedBy_head (line := line) nothing queue
  rw [body] at holds
  have snapshot : s.bus.owedSnapshot = false := (nothingWaits_iff s).1 nothing .snapshot
  have join : s.bus.owedJoin = false := (nothingWaits_iff s).1 nothing .join
  have freed := freedBy_head_eq (line := line) nothing queue
  rw [body, points_of_owesNone (owesPoint_eq_false (by simp) rest), endedBy_of_not_state (by simp [body]), owesJoin_eq_false (by simp), ← join] at freed
  rw [served_freedBy_head queue connected limit (claim := .snapshot) ?_ fun claim held => ?_, freed]
  · simp only [Claim.placed, State.entryOf]
    rw [if_neg connected, if_neg connected, ← snapshot]
  · rw [holds]
    exact (congrArg (!·) untold : _ = !false)
  · rw [holds] at held
    cases claim <;> first | rfl | cases held

/-- A discarded JOIN beside no unsent one is claimed anew (R79). -/
theorem served_freedBy_join (nothing : NothingWaits s) (queue : s.bus.queue = e :: rest) (connected : s.mbu.mode ≠ .isolated) (limit : s.bus.queue.length ≤ 24)
    {mask : BitVec 16} (body : e.body = .join mask) (untold : rest.any TxEntry.unsentJoin = false) :
    (s.freedBy .queueHead line).served =
      { s with bus := { s.bus with line := line, streak := s.bus.streak + 1
                                   queue := rest ++ [{ body := .join s.inUseMask, disposition := .unsent, attempts := 0, seq := none }] } } := by
  have holds := holds_freedBy_head (line := line) nothing queue
  rw [body] at holds
  have snapshot : s.bus.owedSnapshot = false := (nothingWaits_iff s).1 nothing .snapshot
  have join : s.bus.owedJoin = false := (nothingWaits_iff s).1 nothing .join
  have freed := freedBy_head_eq (line := line) nothing queue
  rw [body, points_of_owesNone (owesPoint_eq_false (by simp) rest), endedBy_of_not_state (by simp [body]), owesSnapshot_eq_false (by simp), ← snapshot] at freed
  rw [served_freedBy_head queue connected limit (claim := .join) ?_ fun claim held => ?_, freed]
  · simp only [Claim.placed, State.entryOf]
    rw [if_neg connected, ← join]
    rfl
  · rw [holds]
    exact (congrArg (!·) untold : _ = !false)
  · rw [holds] at held
    cases claim <;> first | rfl | cases held

end

/-- Settles O21: the discard is `State.freedBy`; beside no waiting claim what it owes is served alone. -/
theorem discardedStateIsOwed : Obligations.DiscardedStateIsOwed := by
  intro s c command line charges connected last low limit
  have outcome : exec command s = .next (restartIdleWait (s.freedBy c line).served) := by
    rw [exec_charges charges, chargeAttempt_discards last, afterDiscard_of_low (by cases c <;> exact low)]
    cases c <;> rfl
  have restarted := restartIdleWait_bus (s.freedBy c line).served
  refine ⟨_, outcome, restartIdleWait_spec _, restarted, fun nothing => ?_⟩
  by_cases head : c = .queueHead
  · subst head
    obtain ⟨e, rest, queue⟩ : ∃ e rest, s.bus.queue = e :: rest := by
      cases queue : s.bus.queue with
      | nil => simp [Bif.attemptsOf, queue] at last
      | cons e rest => exact ⟨e, rest, rfl⟩
    have entry : s.bus.discardedEntry .queueHead = some e := by simp [Bif.discardedEntry, queue]
    have without : (s.bus.without .queueHead).queue = rest := by simp [Bif.without, queue]
    have plain (point : ∀ p, owesPoint rest (some e.body) p = false) (snapshot : owesSnapshot rest (some e.body) = false) (join : owesJoin rest (some e.body) = false) :
        (s.freedBy .queueHead line).served = s.plainlyFreedBy .queueHead line :=
      served_freedBy_of_owesNone nothing (by rw [entry, without]; exact point) (by rw [entry, without]; exact snapshot) (by rw [entry, without]; exact join)
    have ended : (s.plainlyFreedBy .queueHead line).bus.lastEnded = endedBy (some e) s.bus.lastEnded := by rw [← entry]; rfl
    generalize restartIdleWait (s.freedBy .queueHead line).served = t at restarted
    have heads {e' rest'} (queue' : s.bus.queue = e' :: rest') : e = e' ∧ rest = rest' := by simpa using queue.symm.trans queue'
    cases body : e.body with
    | state b =>
      rw [endedBy_of_state body] at ended
      rw [body] at plain
      by_cases told : rest.any (TxEntry.unsentStateFor b.point) = true
      · rw [plain (owesPoint_of_told told) (owesSnapshot_eq_false (by simp) _) (owesJoin_eq_false (by simp) _)] at restarted
        rw [restarted]
        refine ⟨rfl, fun h => absurd rfl h, fun e' rest' _ queue' => ?_⟩
        obtain ⟨rfl, rfl⟩ := heads queue'
        rw [body]
        refine ⟨fun b' h => ?_, fun h => absurd rfl (h b), nofun, nofun, by simp⟩
        cases h
        exact ⟨ended, fun _ _ => rfl, fun _ => ⟨without, rfl⟩, fun h => absurd told (by rw [h]; decide)⟩
      · rw [served_freedBy_state nothing queue connected limit body (eq_false_of_ne_true told)] at restarted
        rw [restarted]
        refine ⟨by simp [Bif.without], fun h => absurd rfl h, fun e' rest' _ queue' => ?_⟩
        obtain ⟨rfl, rfl⟩ := heads queue'
        rw [body]
        refine ⟨fun b' h => ?_, fun h => absurd rfl (h b), nofun, nofun, by simp⟩
        cases h
        exact ⟨rfl, fun p h => Tab.get_set_of_ne _ _ _ _ h, fun h => absurd h told, fun _ => ⟨rfl, Tab.get_set_self ..⟩⟩
    | snapshot contents =>
      rw [endedBy_of_not_state (by simp [body])] at ended
      rw [body] at plain
      by_cases told : rest.any TxEntry.unsentSnapshot = true
      · rw [plain (owesPoint_eq_false (by simp) _) (congrArg (!·) told) (owesJoin_eq_false (by simp) _)] at restarted
        rw [restarted]
        refine ⟨rfl, fun h => absurd rfl h, fun e' rest' _ queue' => ?_⟩
        obtain ⟨rfl, rfl⟩ := heads queue'
        rw [body]
        exact ⟨nofun, fun _ => ⟨ended, fun _ => rfl⟩, fun _ _ => ⟨fun _ => without, fun h => absurd told (by rw [h]; decide)⟩, nofun, by simp⟩
      · rw [served_freedBy_snapshot nothing queue connected limit body (eq_false_of_ne_true told)] at restarted
        rw [restarted]
        refine ⟨by simp [Bif.without], fun h => absurd rfl h, fun e' rest' _ queue' => ?_⟩
        obtain ⟨rfl, rfl⟩ := heads queue'
        rw [body]
        exact ⟨nofun, fun _ => ⟨rfl, fun _ => rfl⟩, fun _ _ => ⟨fun h => absurd h told, fun _ => rfl⟩, nofun, by simp⟩
    | join mask =>
      rw [endedBy_of_not_state (by simp [body])] at ended
      rw [body] at plain
      by_cases told : rest.any TxEntry.unsentJoin = true
      · rw [plain (owesPoint_eq_false (by simp) _) (owesSnapshot_eq_false (by simp) _) (congrArg (!·) told)] at restarted
        rw [restarted]
        refine ⟨rfl, fun h => absurd rfl h, fun e' rest' _ queue' => ?_⟩
        obtain ⟨rfl, rfl⟩ := heads queue'
        rw [body]
        exact ⟨nofun, fun _ => ⟨ended, fun _ => rfl⟩, nofun, fun _ _ => ⟨fun _ => without, fun h => absurd told (by rw [h]; decide)⟩, by simp⟩
      · rw [served_freedBy_join nothing queue connected limit body (eq_false_of_ne_true told)] at restarted
        rw [restarted]
        refine ⟨by simp [Bif.without], fun h => absurd rfl h, fun e' rest' _ queue' => ?_⟩
        obtain ⟨rfl, rfl⟩ := heads queue'
        rw [body]
        exact ⟨nofun, fun _ => ⟨rfl, fun _ => rfl⟩, nofun, fun _ _ => ⟨fun h => absurd h told, fun _ => rfl⟩, by simp⟩
    | _ =>
      rw [endedBy_of_not_state (by simp [body])] at ended
      rw [body] at plain
      rw [plain (owesPoint_eq_false (by simp) _) (owesSnapshot_eq_false (by simp) _) (owesJoin_eq_false (by simp) _)] at restarted
      rw [restarted]
      refine ⟨rfl, fun h => absurd rfl h, fun e' rest' _ queue' => ?_⟩
      obtain ⟨rfl, rfl⟩ := heads queue'
      rw [body]
      exact ⟨nofun, fun _ => ⟨ended, fun _ => rfl⟩, nofun, nofun, fun _ => without⟩
  · have entry : s.bus.discardedEntry c = none := if_neg head
    have plain := served_freedBy_of_owesNone (c := c) (line := line) nothing (by rw [entry]; exact owesPoint_eq_false (by simp) _)
      (by rw [entry]; exact owesSnapshot_eq_false (by simp) _) (by rw [entry]; exact owesJoin_eq_false (by simp) _)
    have ended : endedBy (s.bus.discardedEntry c) s.bus.lastEnded = s.bus.lastEnded := by rw [entry]; rfl
    have queue : (s.bus.without c).queue = s.bus.queue := by cases c <;> first | rfl | exact absurd rfl head
    rw [plain] at restarted ⊢
    refine ⟨?_, fun _ => ?_, fun _ _ h => absurd h head⟩
    · rw [restarted]; rfl
    · rw [restarted]; exact ⟨queue, ended, fun _ => rfl⟩

end Sys2Proof.Machine
end

section
/-! The transmit queue at the entry to ISOLATED: `loopBackQueue` against `loopedQueue` (R81, R82, R88). -/
namespace Sys2Proof.Machine

/-- A looped-back queue, or its part behind an unsent SNAPSHOT, whose unsent STATE entries are superseded (R41, R88). -/
def loopedBehind (s : State) (ended : SeqNo) (superseded : Bool) (queue : List TxEntry) : List TxEntry :=
  if superseded then (queue.filter fun e => !e.unsentState).filterMap (TxEntry.loopedIn s ended) else loopedQueue s ended queue

section
variable {s : State} {ended : SeqNo} {superseded : Bool} {e : TxEntry} {rest : List TxEntry}

theorem unsentSnapshot_iff (e : TxEntry) : e.unsentSnapshot = true ↔ e.disposition = .unsent ∧ ∃ c, e.body = .snapshot c := by
  unfold TxEntry.unsentSnapshot
  cases e.body <;> simp

theorem loopedBehind_nil : loopedBehind s ended superseded [] = [] := by cases superseded <;> rfl

/-- An entry that is neither superseded nor supersedes is looped back, or dropped, in its place. -/
theorem loopedBehind_cons (plain : e.unsentSnapshot = false) (kept : superseded = true → e.unsentState = false) :
    loopedBehind s ended superseded (e :: rest) = (e.loopedIn s ended).toList ++ loopedBehind s ended superseded rest := by
  cases superseded with
  | true =>
    show ((e :: rest).filter fun e => !e.unsentState).filterMap _ = _
    rw [List.filter_cons_of_pos (by rw [kept rfl]; rfl), List.filterMap_cons]
    cases e.loopedIn s ended <;> rfl
  | false =>
    show loopedQueue s ended (e :: rest) = _ ++ loopedQueue s ended rest
    unfold loopedQueue
    rw [List.takeWhile_cons_of_pos (by rw [plain]; rfl), List.dropWhile_cons_of_pos (by rw [plain]; rfl)]
    dsimp only
    rw [List.cons_append, List.filterMap_cons]
    cases e.loopedIn s ended <;> rfl

theorem loopedBehind_cons_superseded (gone : e.unsentState = true) : loopedBehind s ended true (e :: rest) = loopedBehind s ended true rest := by
  show ((e :: rest).filter fun e => !e.unsentState).filterMap _ = _
  rw [List.filter_cons_of_neg (by rw [gone]; decide)]
  rfl

theorem loopedBehind_cons_snapshot (snapshot : e.unsentSnapshot = true) :
    loopedBehind s ended superseded (e :: rest) = (e.loopedIn s ended).toList ++ loopedBehind s ended true rest := by
  obtain ⟨-, contents, body⟩ := (unsentSnapshot_iff e).1 snapshot
  have kept : (!e.unsentState) = true := by
    rw [Bool.not_eq_true', ← Bool.not_eq_true, unsentState_iff]; rintro ⟨-, b, h⟩; rw [body] at h; cases h
  have filtered : ((e :: rest).filter fun e => !e.unsentState).filterMap (TxEntry.loopedIn s ended) = (e.loopedIn s ended).toList ++ loopedBehind s ended true rest := by
    rw [List.filter_cons_of_pos (p := fun e : TxEntry => !e.unsentState) kept, List.filterMap_cons]
    cases e.loopedIn s ended <;> rfl
  cases superseded with
  | true => exact filtered
  | false =>
    show loopedQueue s ended (e :: rest) = _
    unfold loopedQueue
    rw [List.takeWhile_cons_of_neg (by rw [snapshot]; decide), List.dropWhile_cons_of_neg (by rw [snapshot]; decide)]
    exact filtered

end

section
variable {e : TxEntry}

theorem seq_of_agrees_state (agrees : e.agrees = true) {b : StateBody} (body : e.body = .state b) : e.seq = none ↔ e.disposition = .unsent := by
  unfold TxEntry.agrees at agrees
  rw [body] at agrees
  cases disposition : e.disposition <;> cases seq : e.seq <;> simp_all

theorem contents_of_agrees_snapshot (agrees : e.agrees = true) {contents : Option (Tab Entry)} (body : e.body = .snapshot contents) :
    (contents = none ↔ e.disposition = .unsent) ∧ (contents = none → e.seq = none) := by
  unfold TxEntry.agrees at agrees
  rw [body] at agrees
  cases disposition : e.disposition <;> cases contents <;> cases seq : e.seq <;> simp_all

end

/-- The queue is looped back entry by entry while no STATE of it has begun: what has ended stays the counter's number (R82). -/
theorem loopBackQueue_of_no_begun (s : State) {queue : List TxEntry} (agrees : ∀ e ∈ queue, e.agrees = true) (idle : ∀ e ∈ queue, e.disposition = .begun → ∀ b, e.body ≠ .state b) :
    ∀ superseded, loopBackQueue (snapshotEntries s) s.bus.counter s.bus.counter superseded queue = (loopedBehind s s.bus.counter superseded queue, s.bus.counter) := by
  induction queue with
  | nil => intro superseded; rw [loopedBehind_nil]; rfl
  | cons e rest ih =>
    intro superseded
    have ih := ih (fun x hx => agrees x (List.mem_cons_of_mem _ hx)) fun x hx => idle x (List.mem_cons_of_mem _ hx)
    have agrees := agrees e (by simp)
    have idle := idle e (by simp)
    have state {p : Prop} (h : p → ¬ ∃ b, e.body = .state b) : p → e.unsentState = false := fun hp => by
      rw [← Bool.not_eq_true, unsentState_iff]; exact fun h' => h hp h'.2
    have snapshot (h : ¬ (e.disposition = .unsent ∧ ∃ c, e.body = .snapshot c)) : e.unsentSnapshot = false := by
      rwa [← Bool.not_eq_true, unsentSnapshot_iff]
    unfold loopBackQueue
    cases body : e.body with
    | state b =>
      have plain := snapshot (by simp [body])
      have unsent := seq_of_agrees_state agrees body
      cases seq : e.seq with
      | none =>
        have gone : e.unsentState = true := (unsentState_iff e).2 ⟨unsent.1 seq, b, body⟩
        dsimp only
        rw [ih]
        cases superseded with
        | true => rw [loopedBehind_cons_superseded gone]; rfl
        | false =>
          rw [loopedBehind_cons (superseded := false) plain (by simp)]
          simp [TxEntry.loopedIn, TxEntry.loopBack, body, seq]
      | some n =>
        have kept : e.unsentState = false := by
          rw [← Bool.not_eq_true, unsentState_iff]; exact fun h => absurd (unsent.2 h.1) (by rw [seq]; simp)
        dsimp only
        rw [if_neg fun h => idle h b body, ih, loopedBehind_cons plain fun _ => kept]
        simp [TxEntry.loopedIn, TxEntry.loopBack, body, seq]
    | snapshot contents =>
      obtain ⟨unsent, untaken⟩ := contents_of_agrees_snapshot agrees body
      cases contents with
      | none =>
        dsimp only
        rw [ih, loopedBehind_cons_snapshot ((unsentSnapshot_iff e).2 ⟨unsent.1 rfl, _, body⟩)]
        simp [TxEntry.loopedIn, TxEntry.loopBack, body, untaken rfl]
      | some es =>
        dsimp only
        rw [ih, loopedBehind_cons (snapshot fun h => nomatch unsent.2 h.1) (state fun _ => by simp [body])]
        simp [TxEntry.loopedIn, TxEntry.loopBack, body]
    | _ =>
      dsimp only
      rw [ih, loopedBehind_cons (snapshot (by simp [body])) (state fun _ => by simp [body])]
      simp [TxEntry.loopedIn, TxEntry.loopBack, body]

/-- The numbers of R82 at the head: a begun STATE carries the counter, and without one the counter's number has ended. -/
theorem numbersAgree_cons {b : Bif} {e : TxEntry} {rest : List TxEntry} (queue : b.queue = e :: rest) (numbers : b.numbersAgree = true) :
    (e.disposition = .begun → (∃ body, e.body = .state body) → e.seq = some b.counter)
      ∧ (¬ (e.disposition = .begun ∧ ∃ body, e.body = .state body) → b.lastEnded = b.counter) := by
  unfold Bif.numbersAgree at numbers
  rw [queue] at numbers
  cases disposition : e.disposition <;> cases body : e.body <;> simp_all

/-- The queue is looped back as it stands, a begun STATE at its head ending under the counter (R82). -/
theorem loopBackQueue_of_numbersAgree (s : State) (agrees : ∀ e ∈ s.bus.queue, e.agrees = true) (idle : ∀ e ∈ s.bus.queue.tail, e.disposition ≠ .begun)
    (numbers : s.bus.numbersAgree = true) :
    loopBackQueue (snapshotEntries s) s.bus.counter s.bus.lastEnded false s.bus.queue = (loopedQueue s s.bus.counter s.bus.queue, s.bus.counter) := by
  cases queue : s.bus.queue with
  | nil =>
    have ended : s.bus.lastEnded = s.bus.counter := by simpa [Bif.numbersAgree, queue] using numbers
    rw [ended]; rfl
  | cons e rest =>
    rw [queue] at agrees idle
    obtain ⟨carries, ended⟩ := numbersAgree_cons queue numbers
    by_cases begun : e.disposition = .begun ∧ ∃ b, e.body = .state b
    · obtain ⟨disposition, b, body⟩ := begun
      have seq := carries disposition ⟨b, body⟩
      have behind := loopBackQueue_of_no_begun s (fun x hx => agrees x (List.mem_cons_of_mem _ hx)) (fun x hx h => absurd h (idle x hx)) false
      have plain : e.unsentSnapshot = false := by rw [← Bool.not_eq_true, unsentSnapshot_iff]; simp [body]
      have whole : loopedQueue s s.bus.counter (e :: rest) = loopedBehind s s.bus.counter false (e :: rest) := rfl
      unfold loopBackQueue
      rw [body, seq]
      dsimp only
      rw [if_pos disposition, behind, whole, loopedBehind_cons plain (by simp)]
      simp [TxEntry.loopedIn, TxEntry.loopBack, body, seq]
    · rw [ended begun]
      refine loopBackQueue_of_no_begun s agrees (fun x hx h b hb => ?_) false
      rcases List.mem_cons.1 hx with same | hx
      · exact begun ⟨same ▸ h, b, same ▸ hb⟩
      · exact idle x hx h

/-- The head that an attempt charges is not looped back: it is offered, or is on the line (R76). -/
theorem head_not_looped {s : State} {command : Instr} {line : Line} (charges : ChargesAttempt s .queueHead command line) (lineAgrees : s.bus.lineAgrees = true)
    {e : TxEntry} {rest : List TxEntry} (queue : s.bus.queue = e :: rest) : e.disposition ≠ .loopedBack := by
  have offered (h : s.bus.headOffered = true) : e.disposition ≠ .loopedBack := by
    unfold Bif.headOffered at h
    rw [queue] at h
    simpa using h
  rcases charges with ⟨-, own, -⟩ | ⟨-, -, candidate, -⟩
  · unfold Bif.lineAgrees at lineAgrees
    cases onLine : s.bus.line with
    | contending c =>
      rw [onLine] at own lineAgrees
      obtain rfl : c = .queueHead := by simpa [Line.own] using own
      exact offered lineAgrees
    | sending c f =>
      rw [onLine] at own lineAgrees
      obtain rfl : c = .queueHead := by simpa [Line.own] using own
      intro looped
      simp [Bif.fixedContents, queue, looped] at lineAgrees
    | _ => rw [onLine] at own; cases own
  · refine offered ?_
    by_contra unoffered
    unfold Bif.candidate at candidate
    rw [if_neg unoffered] at candidate
    split at candidate
    · cases candidate
    · split at candidate <;> cases candidate

/-- A discarded head leaves the counter's number as the latest to have ended (R82). -/
theorem endedBy_head {s : State} {e : TxEntry} {rest : List TxEntry} (queue : s.bus.queue = e :: rest) (agrees : e.agrees = true)
    (looped : e.disposition ≠ .loopedBack) (numbers : s.bus.numbersAgree = true) : endedBy (some e) s.bus.lastEnded = s.bus.counter := by
  obtain ⟨carries, ended⟩ := numbersAgree_cons queue numbers
  by_cases begun : e.disposition = .begun ∧ ∃ b, e.body = .state b
  · obtain ⟨disposition, b, body⟩ := begun
    rw [endedBy_of_state body, carries disposition ⟨b, body⟩]
    rfl
  · cases body : e.body with
    | state b =>
      have unsent : e.seq = none := (seq_of_agrees_state agrees body).2 (by
        cases disposition : e.disposition with
        | unsent => rfl
        | begun => exact absurd ⟨disposition, b, body⟩ begun
        | loopedBack => exact absurd disposition looped)
      rw [endedBy_of_state body, unsent]
      exact ended begun
    | _ => rw [endedBy_of_not_state (by simp [body]), ended begun]

/-- The queue that a discard leaves is looped back as it stands, and the counter's number is the latest to have ended. -/
theorem loopBackQueue_discarded {s : State} {c : Candidate} {command : Instr} {line : Line} (agrees : BusAgrees s) (charges : ChargesAttempt s c command line)
    (last : s.bus.attemptsOf c = some 7) :
    loopBackQueue (snapshotEntries s) s.bus.counter (endedBy (s.bus.discardedEntry c) s.bus.lastEnded) false (s.bus.without c).queue
      = (loopedQueue s s.bus.counter (s.bus.without c).queue, s.bus.counter) := by
  obtain ⟨entries, idle, -, numbers, lineAgrees, -, -⟩ := agrees
  by_cases head : c = .queueHead
  · subst head
    cases queue : s.bus.queue with
    | nil => simp [Bif.attemptsOf, queue] at last
    | cons e rest =>
      have entry : s.bus.discardedEntry .queueHead = some e := by simp [Bif.discardedEntry, queue]
      have without : (s.bus.without .queueHead).queue = rest := by simp [Bif.without, queue]
      rw [queue] at entries idle
      rw [entry, without, endedBy_head queue (entries e (by simp)) (head_not_looped charges lineAgrees queue) numbers]
      exact loopBackQueue_of_no_begun s (fun x hx => entries x (List.mem_cons_of_mem _ hx)) (fun x hx h => absurd h (idle x hx)) false
  · have entry : s.bus.discardedEntry c = none := if_neg head
    have without : (s.bus.without c).queue = s.bus.queue := by cases c <;> first | rfl | exact absurd rfl head
    rw [entry, without]
    exact loopBackQueue_of_numbersAgree s entries idle numbers

end Sys2Proof.Machine
end

section
/-! The third discard in a row isolates the station: O22 (R80, R88, R90). -/
namespace Sys2Proof.Machine

/-- The station just ISOLATED by a discard, before the freed entries are offered. -/
def State.isolatedBy (s : State) (c : Candidate) (line : Line) : State :=
  let queue := (s.bus.without c).queue
  let body := (s.bus.discardedEntry c).map TxEntry.body
  { s with psq := if queue.any TxEntry.unsentSnapshot then
                    { points := s.psq.points.map fun r => { r with owed := false, missed := 0 }, phase := if s.psq.phase = .settling then .running else s.psq.phase }
                  else { s.psq with points := .ofFn fun p => { s.point p with owed := (s.point p).owed || owesPoint queue body p } }
           mbu := { s.mbu with mode := .isolated, members := s.mbu.members.map fun m => { m with replay := .none, replayTimer := .stopped } }
           jnl := (changeMode .isolated .transmitFailure (countDiscard (s.discarded c line))).jnl
           tmb := { s.tmb with markTimer := s.tmb.markTimer.release s.tmb.localCount }
           bus := { s.bus with line := line, queue := loopedQueue s s.bus.counter queue, markSlot := none, heartbeatSlot := none
                               owedSnapshot := s.bus.owedSnapshot || owesSnapshot queue body, owedJoin := false, lastEnded := s.bus.counter, streak := 3
                               probe := .running s.tmb.localCount s.heartbeatMs } }

/-- The entry to ISOLATED, with its looped-back queue given. -/
theorem enterIsolated_eq {s : State} {queue : List TxEntry} {ended : SeqNo}
    (looped : loopBackQueue (snapshotEntries s) s.bus.counter s.bus.lastEnded false s.bus.queue = (queue, ended)) :
    enterIsolated s =
      { s with psq := if s.bus.queue.any TxEntry.unsentSnapshot then s.psq.superseded else s.psq
               mbu := { s.mbu with mode := .isolated, members := s.mbu.members.map Member.cancelReplay }
               jnl := (changeMode .isolated .transmitFailure s).jnl
               tmb := { s.tmb with markTimer := s.tmb.markTimer.release s.tmb.localCount }
               bus := { s.bus with queue := queue, lastEnded := ended, owedJoin := false, markSlot := none, heartbeatSlot := none, probe := s.timer s.heartbeatMs } } := by
  unfold enterIsolated
  rw [looped]
  dsimp only
  refine State.eq_of_units ?_ ?_ ?_ ?_ ?_ ?_ ?_ ?_ ?_ ?_ ?_ ?_ ?_ <;> split <;> simp [releaseMarkTimer, changeMode]

theorem enterIsolated_discarded {s : State} {c : Candidate} {command : Instr} {line : Line} (agrees : BusAgrees s) (charges : ChargesAttempt s c command line)
    (last : s.bus.attemptsOf c = some 7) (streak : s.bus.streak = 2) :
    enterIsolated (countDiscard (s.discarded c line)) = s.isolatedBy c line := by
  let u := countDiscard (s.discarded c line)
  have counter : u.bus.counter = s.bus.counter := by cases c <;> rfl
  have entries : snapshotEntries u = snapshotEntries s := congrArg Tab.ofFn (funext fun p => by
    rw [show u.point p = _ from point_discarded s c line p]; rfl)
  have looped : loopBackQueue (snapshotEntries u) u.bus.counter u.bus.lastEnded false u.bus.queue = (loopedQueue s s.bus.counter (s.bus.without c).queue, s.bus.counter) := by
    rw [entries, counter]; exact loopBackQueue_discarded agrees charges last
  rw [enterIsolated_eq looped]
  have settled : (s.discarded c line).psq.points.map PointRecord.settled = s.psq.points.map PointRecord.settled := Tab.ext_get fun p => by
    rw [Tab.get_map, Tab.get_map, show (s.discarded c line).psq.points.get p = _ from point_discarded s c line p]; rfl
  refine State.eq_of_units rfl rfl ?_ rfl rfl rfl ?_ rfl ?_ rfl rfl rfl rfl
  · show ({ s.tmb with markTimer := MarkTimer.release s.tmb.localCount (if c = .markSlot ∧ s.tmb.markTimer = .waiting then .running s.tmb.localCount else s.tmb.markTimer) } : Tmb) = _
    split
    · rename_i h; simp only [State.isolatedBy, h.2]; rfl
    · rfl
  · show (if (s.bus.without c).queue.any TxEntry.unsentSnapshot then (s.discarded c line).psq.superseded else (s.discarded c line).psq) = _
    simp only [State.isolatedBy]
    split
    · rw [Psq.superseded, settled, afterSnapshot_eq]; rfl
    · rfl
  · have three : min (s.bus.streak + 1) Config.streakLimit = 3 := by rw [streak]; rfl
    have bus : u.bus = { (s.discarded c line).bus with streak := 3 } := by rw [← three]; cases c <;> rfl
    rw [bus]
    cases c <;> rfl

theorem afterDiscard_isolates {s : State} {c : Candidate} {command : Instr} {line : Line} (agrees : BusAgrees s) (charges : ChargesAttempt s c command line)
    (mode : s.mbu.mode = .joining ∨ s.mbu.mode = .active) (last : s.bus.attemptsOf c = some 7) (streak : s.bus.streak = 2) :
    afterDiscard (s.discarded c line) = (s.isolatedBy c line).served := by
  have third : (countDiscard (s.discarded c line)).bus.streak = 3 := by
    have three : min (s.bus.streak + 1) Config.streakLimit = 3 := by rw [streak]; rfl
    rw [← three]; cases c <;> rfl
  have onBus : (countDiscard (s.discarded c line)).mbu.mode.onBus = true := by
    show s.mbu.mode.onBus = true
    rcases mode with mode | mode <;> rw [mode] <;> rfl
  unfold afterDiscard
  dsimp only
  rw [third, onBus, if_pos (by rfl), offers_eq_served, enterIsolated_discarded agrees charges last streak]

/-! ## The service of claims in ISOLATED -/

theorem not_passedOver_of_firstClaim {s : State} {c : Claim} (isolated : s.mbu.mode = .isolated) (h : s.firstClaim = some c) : c.passedOver = false := by
  have found := List.find?_some h
  rw [Bool.and_eq_true, isolated] at found
  simpa using found.2

theorem placed_mbu {c : Claim} (free : c.passedOver = false) (s : State) : (Claim.placed s c).mbu = s.mbu := by
  cases c with
  | snapshot => unfold Claim.placed; dsimp only; split <;> rfl
  | join | resyncRequest a | replay a => cases free
  | _ => rfl

theorem placed_looped {s : State} (isolated : s.mbu.mode = .isolated) (looped : ∀ e ∈ s.bus.queue, e.disposition = .loopedBack) (c : Claim) :
    ∀ e ∈ (Claim.placed s c).bus.queue, e.disposition = .loopedBack := by
  have behind {queue : List TxEntry} (h : ∀ e ∈ queue, e.disposition = .loopedBack) (body : TxBody) (byte : SeqNo) :
      ∀ e ∈ queue ++ [s.entryOf body byte], e.disposition = .loopedBack := fun e he => by
    rcases List.mem_append.1 he with he | he
    · exact h e he
    · rw [List.mem_singleton.1 he, State.entryOf, if_pos isolated]
  cases c with
  | snapshot =>
    unfold Claim.placed
    rw [if_pos isolated]
    exact behind (fun e he => looped e (List.mem_filter.1 he).1) _ _
  | _ => exact behind looped _ _

/-- In ISOLATED the claims served are told in entries behind those that stand, and no member entry moves (R90). -/
theorem served_isolated {s : State} (isolated : s.mbu.mode = .isolated) (looped : ∀ e ∈ s.bus.queue, e.disposition = .loopedBack) :
    (∃ more, s.served.bus.queue = s.bus.queue ++ more) ∧ s.served.mbu = s.mbu := by
  suffices kept : (∃ more, s.served.bus.queue = s.bus.queue ++ more) ∧ s.served.mbu = s.mbu ∧ ∀ e ∈ s.served.bus.queue, e.disposition = .loopedBack from ⟨kept.1, kept.2.1⟩
  refine served_keeps (P := fun t => (∃ more, t.bus.queue = s.bus.queue ++ more) ∧ t.mbu = s.mbu ∧ ∀ e ∈ t.bus.queue, e.disposition = .loopedBack) ?_
    ⟨⟨[], by simp⟩, rfl, looped⟩
  rintro t c - first ⟨⟨more, queue⟩, mbu, looped⟩
  have mode : t.mbu.mode = .isolated := by rw [mbu]; exact isolated
  have quiet : ∀ e ∈ t.bus.queue, e.unsentState = false := fun e he => by rw [← Bool.not_eq_true, unsentState_iff, looped e he]; simp
  obtain ⟨e, added, -⟩ := placed_appends_of_none quiet c
  exact ⟨⟨more ++ [e], by rw [added, queue, List.append_assoc]⟩, (placed_mbu (not_passedOver_of_firstClaim mode first) t).trans mbu, placed_looped mode looped c⟩

theorem loopedIn_looped {s : State} {ended : SeqNo} {e x : TxEntry} (h : e.loopedIn s ended = some x) : x.disposition = .loopedBack := by
  unfold TxEntry.loopedIn at h
  split at h <;> cases h <;> rfl

theorem loopedQueue_looped {s : State} {ended : SeqNo} {queue : List TxEntry} : ∀ e ∈ loopedQueue s ended queue, e.disposition = .loopedBack := fun e he => by
  obtain ⟨x, -, hx⟩ := List.mem_filterMap.1 he
  exact loopedIn_looped hx

theorem length_loopedQueue_le (s : State) (ended : SeqNo) (queue : List TxEntry) : (loopedQueue s ended queue).length ≤ queue.length := by
  refine (List.length_filterMap_le ..).trans ?_
  rw [List.length_append]
  have split := congrArg List.length (List.takeWhile_append_dropWhile (p := fun e : TxEntry => !e.unsentSnapshot) (l := queue))
  rw [List.length_append] at split
  have := List.length_filter_le (fun e : TxEntry => !e.unsentState) (queue.dropWhile fun e => !e.unsentSnapshot)
  omega

/-! ## The obligation -/

section
variable {s : State} {c : Candidate} {line : Line}

theorem supersededIn_isolatedBy (supersedes : (s.bus.without c).queue.any TxEntry.unsentSnapshot = true) : SupersededIn (s.isolatedBy c line) where
  told e he := by rw [← Bool.not_eq_true, unsentState_iff, loopedQueue_looped e he]; simp
  settled p := by
    simp [State.isolatedBy, supersedes, State.point]
  phase := by
    simp only [State.isolatedBy, supersedes, if_true]
    split <;> simp_all

/-- What waits in ISOLATED beside no claim from before: what the discard owes and no supersession has cleared. -/
theorem holds_isolatedBy (nothing : NothingWaits s) (claim : Claim) :
    (s.isolatedBy c line).holds claim = match claim with
      | .state p => !(s.bus.without c).queue.any TxEntry.unsentSnapshot && owesPoint (s.bus.without c).queue ((s.bus.discardedEntry c).map TxEntry.body) p
      | .snapshot => owesSnapshot (s.bus.without c).queue ((s.bus.discardedEntry c).map TxEntry.body)
      | _ => false := by
  have none := (nothingWaits_iff s).1 nothing claim
  cases claim with
  | state p =>
    have owed : (s.point p).owed = false := none
    show ((s.isolatedBy c line).point p).owed = _
    unfold State.point State.isolatedBy
    dsimp only
    split
    · rename_i h; rw [Tab.get_map, h]; rfl
    · rename_i h; rw [Tab.get_ofFn, eq_false_of_ne_true h, owed]; simp
  | snapshot =>
    have owed : s.bus.owedSnapshot = false := none
    show (s.bus.owedSnapshot || _) = _
    rw [owed, Bool.false_or]
  | join => rfl
  | replay a =>
    show (((s.isolatedBy c line).member a).replay == .due) = false
    simp [State.member, State.isolatedBy]
  | resyncRequest a =>
    refine Eq.trans ?_ none
    show ((s.isolatedBy c line).member a).resyncOwed = (s.member a).resyncOwed
    simp [State.member, State.isolatedBy]
  | _ => exact none

theorem psq_isolatedBy (plain : (s.bus.without c).queue.any TxEntry.unsentSnapshot = false) :
    (s.isolatedBy c line).psq =
      { s.psq with points := .ofFn fun p => { s.point p with owed := (s.point p).owed || owesPoint (s.bus.without c).queue ((s.bus.discardedEntry c).map TxEntry.body) p } } :=
  if_neg (by rw [plain]; decide)

theorem snapshotEntries_isolatedBy : snapshotEntries (s.isolatedBy c line) = snapshotEntries s := by
  refine congrArg Tab.ofFn (funext fun p => ?_)
  have point : (s.isolatedBy c line).point p = { s.point p with owed := ((s.isolatedBy c line).point p).owed, missed := ((s.isolatedBy c line).point p).missed } := by
    unfold State.point State.isolatedBy
    dsimp only
    split
    · rw [Tab.get_map]
    · rw [Tab.get_ofFn]; rfl
  rw [point]
  rfl

/-- A discarded entry has left room in the queue. -/
theorem room_isolatedBy (limit : s.bus.queue.length ≤ 24) {e : TxEntry} (entry : s.bus.discardedEntry c = some e) :
    (s.isolatedBy c line).bus.queue.length < 24 := by
  refine lt_of_le_of_lt (length_loopedQueue_le ..) ?_
  unfold Bif.discardedEntry at entry
  split at entry
  · rename_i head
    subst head
    show s.bus.queue.tail.length < 24
    cases queue : s.bus.queue with
    | nil => rw [queue] at entry; cases entry
    | cons x rest => rw [queue] at limit; exact limit
  · cases entry

/-- A discarded STATE that no entry tells and no SNAPSHOT supersedes is told anew, looped back (R40, R90). -/
theorem served_isolatedBy_state (nothing : NothingWaits s) (limit : s.bus.queue.length ≤ 24) {b : StateBody}
    (body : (s.bus.discardedEntry c).map TxEntry.body = some (.state b)) (plain : (s.bus.without c).queue.any TxEntry.unsentSnapshot = false)
    (untold : (s.bus.without c).queue.any (TxEntry.unsentStateFor b.point) = false) :
    (s.isolatedBy c line).served =
      { s.isolatedBy c line with
          psq := { s.psq with points := s.psq.points.set b.point { s.point b.point with owed := false, missed := 0 } }
          bus := { (s.isolatedBy c line).bus with
            queue := (s.isolatedBy c line).bus.queue
              ++ [{ body := .state (announcement (s.point b.point) b.point (s.point b.point).missed), disposition := .loopedBack, attempts := 0, seq := some (s.bus.counter + 1) }] } } := by
  obtain ⟨e, entry, -⟩ := Option.map_eq_some_iff.1 body
  have holds := holds_isolatedBy (line := line) (c := c) nothing
  rw [body, plain] at holds
  have psq := psq_isolatedBy (line := line) plain
  rw [body, points_of_owes (owesPoint_of_untold untold)] at psq
  rw [served_of_only (c := .state b.point) (room_isolatedBy limit entry) ?_ (Or.inl rfl) fun claim held => ?_]
  · have isolated : (s.isolatedBy c line).mbu.mode = .isolated := rfl
    simp only [Claim.placed, State.entryOf, isolated, if_true, State.point, psq, Tab.get_set_self, set_set]
    rfl
  · rw [holds]
    exact (owesPoint_of_untold untold _).trans (decide_eq_true rfl)
  · rw [holds] at held
    cases claim with
    | state p => dsimp only at held; rw [owesPoint_of_untold untold] at held; rw [show b.point = p by simpa using held]
    | _ => cases held

/-- A discarded SNAPSHOT that no unsent one replaces is looped back anew at once (R79, R90). -/
theorem served_isolatedBy_snapshot (nothing : NothingWaits s) (limit : s.bus.queue.length ≤ 24) {contents : Option (Tab Entry)}
    (body : (s.bus.discardedEntry c).map TxEntry.body = some (.snapshot contents)) (plain : (s.bus.without c).queue.any TxEntry.unsentSnapshot = false) :
    (s.isolatedBy c line).served =
      { s.isolatedBy c line with
          psq := { points := s.psq.points.map fun r => { r with owed := false, missed := 0 }, phase := if s.psq.phase = .settling then .running else s.psq.phase }
          bus := { (s.isolatedBy c line).bus with
            owedSnapshot := false
            queue := (s.isolatedBy c line).bus.queue
              ++ [{ body := .snapshot (some (snapshotEntries s)), disposition := .loopedBack, attempts := 0, seq := some s.bus.counter }] } } := by
  obtain ⟨e, entry, -⟩ := Option.map_eq_some_iff.1 body
  have holds := holds_isolatedBy (line := line) (c := c) nothing
  rw [body, plain] at holds
  have psq := psq_isolatedBy (line := line) plain
  rw [body, points_of_owesNone (owesPoint_eq_false (by simp) _)] at psq
  have quiet : ∀ e ∈ (s.isolatedBy c line).bus.queue, e.unsentState = false := fun e he => by
    rw [← Bool.not_eq_true, unsentState_iff, loopedQueue_looped e he]; simp
  rw [served_of_only (c := .snapshot) (room_isolatedBy limit entry) ?_ (Or.inl rfl) fun claim held => ?_]
  · have isolated : (s.isolatedBy c line).mbu.mode = .isolated := rfl
    simp only [Claim.placed, State.entryOf, isolated, if_true, psq, snapshotEntries_isolatedBy, filter_unsentState_of_none quiet]
    rfl
  · rw [holds]
    exact (congrArg (!·) plain : _ = !false)
  · rw [holds] at held
    cases claim with
    | snapshot => rfl
    | state p => dsimp only at held; rw [owesPoint_eq_false (by simp)] at held; cases held
    | _ => cases held

/-- Where the discard owes nothing, or a SNAPSHOT of the queue supersedes it, nothing is served. -/
theorem served_isolatedBy_of_owesNone (nothing : NothingWaits s)
    (point : ∀ b, (s.bus.discardedEntry c).map TxEntry.body = some (.state b) →
      (s.bus.without c).queue.any TxEntry.unsentSnapshot = true ∨ (s.bus.without c).queue.any (TxEntry.unsentStateFor b.point) = true)
    (snapshot : ∀ contents, (s.bus.discardedEntry c).map TxEntry.body = some (.snapshot contents) → (s.bus.without c).queue.any TxEntry.unsentSnapshot = true) :
    (s.isolatedBy c line).served = s.isolatedBy c line
      ∧ ((s.bus.without c).queue.any TxEntry.unsentSnapshot = false → (s.isolatedBy c line).psq = s.psq) := by
  have owes (p : Point) (plain : (s.bus.without c).queue.any TxEntry.unsentSnapshot = false) :
      owesPoint (s.bus.without c).queue ((s.bus.discardedEntry c).map TxEntry.body) p = false := by
    cases body : (s.bus.discardedEntry c).map TxEntry.body with
    | none => exact owesPoint_eq_false (by simp) _ p
    | some body' =>
      cases body' with
      | state b =>
        rcases point b body with h | h
        · rw [plain] at h; cases h
        · exact owesPoint_of_told h p
      | _ => exact owesPoint_eq_false (by simp) _ p
  refine ⟨served_of_nothingWaits _ ((nothingWaits_iff _).2 fun claim => ?_), fun plain => ?_⟩
  · rw [holds_isolatedBy nothing]
    cases claim with
    | state p =>
      dsimp only
      cases plain : (s.bus.without c).queue.any TxEntry.unsentSnapshot with
      | true => rfl
      | false => rw [owes p plain]; rfl
    | snapshot =>
      dsimp only
      unfold owesSnapshot
      split
      · rename_i contents body; rw [snapshot contents body]; rfl
      · rfl
    | _ => rfl
  · rw [psq_isolatedBy plain, points_of_owesNone fun p => owes p plain]

end

/-- Settles O22: the entry to ISOLATED is `State.isolatedBy`; beside no waiting claim what the discard owes is served alone. -/
theorem thirdDiscardIsolates : Obligations.ThirdDiscardIsolates := by
  intro s c command line agrees charges mode last streak limit queue looped supersedes
  have outcome : exec command s = .next (restartIdleWait (s.isolatedBy c line).served) := by
    rw [exec_charges charges, chargeAttempt_discards last, afterDiscard_isolates agrees charges mode last streak]
  have restarted := restartIdleWait_bus (s.isolatedBy c line).served
  have timer := restartIdleWait_spec (s.isolatedBy c line).served
  obtain ⟨⟨more, appended⟩, mbu⟩ := served_isolated (s := s.isolatedBy c line) rfl loopedQueue_looped
  generalize restartIdleWait (s.isolatedBy c line).served = t at outcome restarted timer
  have units : t.mbu = (s.isolatedBy c line).mbu ∧ t.jnl = (s.isolatedBy c line).jnl ∧ t.bus.queue = (s.isolatedBy c line).served.bus.queue
      ∧ t.psq = (s.isolatedBy c line).served.psq := by
    rw [restarted]; exact ⟨mbu, by rw [served_frame], rfl, rfl⟩
  obtain ⟨mbu, jnl, told, psq⟩ := units
  have discarded : (if c = .queueHead then s.bus.queue.head?.map (·.body) else none) = (s.bus.discardedEntry c).map TxEntry.body := by
    unfold Bif.discardedEntry; split <;> rfl
  refine ⟨t, more, outcome, timer, told.trans appended, ?_, fun a => ?_, fun h => ?_, ?_, fun nothing => ⟨?_, ?_, ?_⟩⟩
  · rw [jnl, discarded]; exact restarted
  · show t.mbu.members.get a = _
    rw [mbu]; exact Tab.get_map ..
  · obtain ⟨same, -⟩ := (supersededIn_isolatedBy (line := line) h).served
    unfold State.point
    rw [psq, same]
    refine ⟨?_, fun p => ?_⟩
    · exact congrArg Psq.phase (if_pos h)
    · exact (congrArg (fun q : Psq => q.points.get p) (if_pos h)).trans (Tab.get_map ..)
  · have offered := offerRecord_spec (.mode s.own .isolated .transmitFailure s.tmb.groupTime) ((countDiscard (s.discarded c line)).setMode .isolated) rfl
    unfold Offered at offered ⊢
    rw [jnl]
    exact offered
  · rw [discarded]
    intro b body plain untold
    have plain : queue.any TxEntry.unsentSnapshot = false := eq_false_of_ne_true plain
    have served := served_isolatedBy_state (line := line) nothing limit body plain untold
    rw [served] at appended psq
    refine ⟨(List.append_cancel_left appended).symm, ?_, ?_, fun p h => ?_⟩
    · rw [psq]
    · unfold State.point; rw [psq]; exact Tab.get_set_self ..
    · unfold State.point; rw [psq]; exact Tab.get_set_of_ne _ _ _ _ h
  · rw [discarded]
    intro contents body plain
    have plain : queue.any TxEntry.unsentSnapshot = false := eq_false_of_ne_true plain
    have served := served_isolatedBy_snapshot (line := line) nothing limit body plain
    rw [served] at appended psq
    refine ⟨(List.append_cancel_left appended).symm, ?_, fun p => ?_⟩
    · rw [psq]
    · unfold State.point; rw [psq]; exact Tab.get_map ..
  · rw [discarded]
    intro point snapshot
    obtain ⟨served, still⟩ := served_isolatedBy_of_owesNone (line := line) nothing point snapshot
    rw [served] at appended psq
    refine ⟨List.self_eq_append_right.1 appended, fun plain => ?_⟩
    rw [still (eq_false_of_ne_true plain)] at psq
    refine ⟨by rw [psq], fun p => ?_⟩
    unfold State.point
    rw [psq]

end Sys2Proof.Machine
end

section
/-! The withdrawal of a REPLAY, and what is served after it (R74, R75, R115). -/
namespace Sys2Proof.Machine

/-- The receive queue is replaced. -/
def State.setRx (s : State) (rx : List RxEntry) : State := s.setBif { s.bus with rx := rx }

theorem placed_setRx (s : State) (rx : List RxEntry) (c : Claim) : Claim.placed (s.setRx rx) c = (Claim.placed s c).setRx rx := by
  cases c with
  | snapshot =>
    unfold Claim.placed
    by_cases isolated : s.mbu.mode = .isolated
    · rw [if_pos isolated, if_pos (show (s.setRx rx).mbu.mode = .isolated from isolated)]; rfl
    · rw [if_neg isolated, if_neg (show (s.setRx rx).mbu.mode ≠ .isolated from isolated)]; rfl
  | _ => rfl

/-- The receive queue plays no part in the service of claims. -/
theorem served_setRx (s : State) (rx : List RxEntry) : (s.setRx rx).served = s.served.setRx rx :=
  served_commutes (f := fun s => s.setRx rx) (fun s c => placed_setRx s rx c) (fun _ => rfl) (fun _ => rfl) s

theorem snapshotClaimed_setRx (s : State) (rx : List RxEntry) : (s.setRx rx).snapshotClaimed = s.snapshotClaimed.setRx rx := by
  have bus : (s.setRx rx).bus.owedSnapshot = s.bus.owedSnapshot ∧ (s.setRx rx).bus.queue = s.bus.queue ∧ (s.setRx rx).mbu.mode = s.mbu.mode := ⟨rfl, rfl, rfl⟩
  obtain ⟨owed, queue, mode⟩ := bus
  unfold State.snapshotClaimed
  rw [owed, queue, mode]
  by_cases absorbed : s.bus.owedSnapshot = true ∨ (s.mbu.mode ≠ .isolated ∧ s.bus.queue.any TxEntry.unsentSnapshot = true)
  · rw [if_pos absorbed, if_pos absorbed]
  · rw [if_neg absorbed, if_neg absorbed]
    by_cases free : s.bus.queue.length < 24
    · rw [if_pos free, if_pos free]
      by_cases isolated : s.mbu.mode = .isolated
      · rw [if_pos isolated, if_pos isolated, placed_setRx, served_setRx]
      · rw [if_neg isolated, if_neg isolated, placed_setRx]
    · rw [if_neg free, if_neg free]; rfl

/-- What the service of claims, a SNAPSHOT's placement and its owing keep, the SNAPSHOT claim keeps. -/
theorem snapshotClaimed_keeps {P : State → Prop} (placed : ∀ s c, (c = .snapshot ∨ s.firstClaim = some c) → P s → P (Claim.placed s c))
    (owed : ∀ s, P s → P { s with bus := { s.bus with owedSnapshot := true } }) {s : State} (hs : P s) : P s.snapshotClaimed := by
  unfold State.snapshotClaimed
  split_ifs
  · exact hs
  · exact served_keeps (fun s c _ first h => placed s c (Or.inr first) h) (placed s .snapshot (Or.inl rfl) hs)
  · exact placed s .snapshot (Or.inl rfl) hs
  · exact owed s hs

/-! ## The withdrawal -/

/-- The replay of a target is cancelled, its timer stopped (R75, R115). -/
def State.replayForgotten (s : State) (a : Addr) : State := s.setMember a { s.member a with replay := .none, replayTimer := .stopped }

/-- The line after the withdrawal of an unsent REPLAY: a contention with it ends (R75). -/
def State.lineWithout (s : State) (a : Addr) : Line :=
  if s.bus.line = .contending .queueHead ∧ s.bus.queue.head?.any (TxEntry.unsentReplayFor a) = true then .receiving else s.bus.line

/-- The unsent REPLAY withdrawn, before its entry is offered. -/
def State.replayTakenBack (s : State) (a : Addr) : State :=
  ((s.replayForgotten a).setLine (s.lineWithout a)).setQueue (s.bus.queue.filter fun e => !e.unsentReplayFor a)

theorem withdrawReplay_eq (a : Addr) (s : State) :
    withdrawReplay a s = if s.bus.queue.any (TxEntry.unsentReplayFor a) then (s.replayTakenBack a).served else s.replayForgotten a := by
  have line : (if headReplayFor a s.bus.queue then s.bus.line.withdrawn .queueHead else s.bus.line) = s.lineWithout a := by
    have head : s.bus.queue.head?.any (TxEntry.unsentReplayFor a) = headReplayFor a s.bus.queue := by cases s.bus.queue <;> rfl
    unfold State.lineWithout
    rw [head]
    cases headReplayFor a s.bus.queue with
    | false => simp
    | true => cases s.bus.line <;> simp [Line.withdrawn]
  unfold withdrawReplay
  dsimp only
  rw [line, offers_eq_served]
  rfl

theorem unsentReplayFor_iff (a : Addr) (e : TxEntry) : e.unsentReplayFor a = true ↔ e.disposition = .unsent ∧ ∃ c, e.body = .replay a c := by
  unfold TxEntry.unsentReplayFor
  cases e.body <;> simp

/-- After the withdrawal of the REPLAY for a target from a state: none stands or waits, and the other entries stay. -/
structure ReplayWithdrawn (s : State) (a : Addr) (t : State) : Prop where
  mode : t.mbu.mode = s.mbu.mode
  member : ∀ b, t.member b = { (s.replayForgotten a).member b with resyncOwed := (t.member b).resyncOwed, replay := (t.member b).replay }
  cancelled : (t.member a).replay = .none
  gone : t.bus.queue.any (TxEntry.unsentReplayFor a) = false
  stays : ∀ x ∈ s.bus.queue, x.disposition ≠ .unsent → x ∈ t.bus.queue
  looped : s.mbu.mode = .isolated → (∀ x ∈ s.bus.queue, x.disposition = .loopedBack) → ∀ x ∈ t.bus.queue, x.disposition = .loopedBack
  grows : s.mbu.mode ≠ .isolated ∨ (∀ x ∈ s.bus.queue, x.disposition = .loopedBack) → ∃ more, t.bus.queue = (s.bus.queue.filter fun x => !x.unsentReplayFor a) ++ more

section
variable {s t : State} {a : Addr}

theorem ReplayWithdrawn.of_same {u : State} (h : ReplayWithdrawn s a t) (mbu : u.mbu.mode = t.mbu.mode) (members : u.mbu.members = t.mbu.members)
    (queue : u.bus.queue = t.bus.queue) : ReplayWithdrawn s a u where
  mode := mbu.trans h.mode
  member b := by unfold State.member; rw [members]; exact h.member b
  cancelled := by unfold State.member; rw [members]; exact h.cancelled
  gone := by rw [queue]; exact h.gone
  stays := by rw [queue]; exact h.stays
  looped := by rw [queue]; exact h.looped
  grows := by rw [queue]; exact h.grows

/-- A claim served is no REPLAY for a target but the target's own. -/
theorem replay_placed {c : Claim} (other : c ≠ .replay a) (h : (t.member a).replay = .none) : ((Claim.placed t c).member a).replay = .none := by
  have set (b : Addr) (m : Member) (same : a = b → m.replay = .none) : ((t.mbu.members.set b m).get a).replay = .none := by
    rw [Tab.get_set]
    split
    · rename_i e; exact same e
    · exact h
  cases c with
  | snapshot => unfold Claim.placed; dsimp only; split <;> exact h
  | resyncRequest b => exact set b _ fun e => e ▸ h
  | replay b => exact set b _ fun _ => rfl
  | _ => exact h

theorem unsentReplay_placed {c : Claim} (other : c ≠ .replay a) (h : t.bus.queue.any (TxEntry.unsentReplayFor a) = false) :
    (Claim.placed t c).bus.queue.any (TxEntry.unsentReplayFor a) = false := by
  have behind {queue : List TxEntry} (h : queue.any (TxEntry.unsentReplayFor a) = false) {body : TxBody} (byte : SeqNo) (no : ∀ contents, body ≠ .replay a contents) :
      (queue ++ [t.entryOf body byte]).any (TxEntry.unsentReplayFor a) = false := by
    have plain : (t.entryOf body byte).unsentReplayFor a = false := by
      rw [← Bool.not_eq_true, unsentReplayFor_iff, entryOf_body]; exact fun ⟨_, contents, h⟩ => no contents h
    rw [List.any_append, h, List.any_cons, plain]; rfl
  cases c with
  | snapshot =>
    unfold Claim.placed
    dsimp only
    split
    · refine behind (List.any_eq_false.2 fun e he => ?_) _ (by simp)
      exact List.any_eq_false.1 h e (List.mem_filter.1 he).1
    · exact behind h _ (by simp)
  | replay b =>
    refine behind h _ fun contents same => other ?_
    cases same
    rfl
  | _ => exact behind h _ (by simp)

theorem ReplayWithdrawn.placed (h : ReplayWithdrawn s a t) {c : Claim} (other : c ≠ .replay a) : ReplayWithdrawn s a (Claim.placed t c) where
  mode := by rw [placed_frame t c]; exact h.mode
  member b := by
    rw [placed_member t c b, h.member b]
  cancelled := replay_placed other h.cancelled
  gone := unsentReplay_placed other h.gone
  stays x hx sent := mem_placed (h.stays x hx sent) (by rw [← Bool.not_eq_true, unsentState_iff]; exact fun h => sent h.1) c
  looped isolated all := placed_looped (h.mode.trans isolated) (h.looped isolated all) c
  grows calm := by
    obtain ⟨more, queue⟩ := h.grows calm
    by_cases isolated : s.mbu.mode = .isolated
    · have all := h.looped isolated (calm.resolve_left fun h => h isolated)
      obtain ⟨e, added, -⟩ := placed_appends_of_none (s := t) (fun e he => by rw [← Bool.not_eq_true, unsentState_iff, all e he]; simp) c
      exact ⟨more ++ [e], by rw [added, queue, List.append_assoc]⟩
    · obtain ⟨e, added, -⟩ := placed_appends t c (by rw [h.mode]; exact isolated)
      exact ⟨more ++ [e], by rw [added, queue, List.append_assoc]⟩

/-- While its replay is cancelled no claim of the target's REPLAY is served. -/
theorem ReplayWithdrawn.firstClaim (h : ReplayWithdrawn s a t) {c : Claim} (first : t.firstClaim = some c) : c ≠ .replay a := by
  rintro rfl
  have due : ((t.member a).replay == .due) = true := holds_of_firstClaim first
  rw [h.cancelled] at due
  cases due

theorem ReplayWithdrawn.served (h : ReplayWithdrawn s a t) : ReplayWithdrawn s a t.served :=
  served_keeps (fun _ _ _ first h => h.placed (h.firstClaim first)) h

theorem ReplayWithdrawn.snapshotClaimed (h : ReplayWithdrawn s a t) : ReplayWithdrawn s a t.snapshotClaimed :=
  snapshotClaimed_keeps (fun _ _ which h => h.placed (which.elim (fun e => by rw [e]; simp) h.firstClaim)) (fun _ h => h.of_same rfl rfl rfl) h

theorem replayWithdrawn_takenBack (s : State) (a : Addr) : ReplayWithdrawn s a (s.replayTakenBack a) where
  mode := rfl
  member _ := rfl
  cancelled := by
    show ((s.replayForgotten a).member a).replay = _
    rw [State.replayForgotten, State.member_setMember, if_pos rfl]
  gone := List.any_eq_false.2 fun e he => by simpa using (List.mem_filter.1 he).2
  stays x hx sent := List.mem_filter.2 ⟨hx, by
    rw [Bool.not_eq_true', ← Bool.not_eq_true, unsentReplayFor_iff]; exact fun h => sent h.1⟩
  looped _ all x hx := all x (List.mem_filter.1 hx).1
  grows _ := ⟨[], (List.append_nil _).symm⟩

theorem replayWithdrawn_forgotten (none : s.bus.queue.any (TxEntry.unsentReplayFor a) = false) : ReplayWithdrawn s a (s.replayForgotten a) where
  mode := rfl
  member _ := rfl
  cancelled := by rw [State.replayForgotten, State.member_setMember, if_pos rfl]
  gone := none
  stays x hx _ := hx
  looped _ all := all
  grows _ := ⟨[], by
    rw [List.append_nil, List.filter_eq_self.2 fun e he => ?_]
    · rfl
    · simpa using List.any_eq_false.1 none e he⟩

/-- The withdrawal of R75 and R115. -/
theorem replayWithdrawn (a : Addr) (s : State) : ReplayWithdrawn s a (withdrawReplay a s) := by
  rw [withdrawReplay_eq]
  split
  · exact (replayWithdrawn_takenBack s a).served
  · rename_i none; exact replayWithdrawn_forgotten (eq_false_of_ne_true none)

end

/-- The service of claims leaves HOLDING and enters it never. -/
theorem holding_served (s : State) : s.served.psq.phase = .holding ↔ s.psq.phase = .holding := by
  by_cases settling : s.psq.phase = .settling
  · have kept : s.served.psq.phase ≠ .holding := by
      refine served_keeps (P := fun t => t.psq.phase ≠ .holding) (fun t c _ _ h => ?_) (by rw [settling]; decide)
      cases c with
      | snapshot =>
        unfold Claim.placed
        dsimp only
        split
        · dsimp only; split
          · decide
          · exact h
        · exact h
      | _ => exact h
    exact ⟨fun h => absurd h kept, fun h => by rw [settling] at h; cases h⟩
  · rw [phase_served settling]

theorem holding_withdrawReplay (a : Addr) (s : State) : (withdrawReplay a s).psq.phase = .holding ↔ s.psq.phase = .holding := by
  rw [withdrawReplay_eq]
  split
  · rw [holding_served]; rfl
  · rfl

end Sys2Proof.Machine
end

section
/-! A REPLAY passed to the Point Sequencer: its adoption and the reconciliation with the field (R45, R46, R119). -/
namespace Sys2Proof.Machine

/-- What a replayed entry is adopted as (R45). -/
def Entry.adopted (x : Entry) : SeqState × Condition :=
  match x.state with
  | .normal => (.normal, .normal)
  | .alert => (.alert, x.condition)
  | .held => (.held, .active)
  | .returned => (.returned, .normal)
  | .shelved => (.normal, .normal)

theorem PointRecord.adopt_of_not_used {r : PointRecord} (h : r.inUse = false ∨ r.state = .shelved) (x : Entry) : r.adopt x = r := by
  unfold PointRecord.adopt
  rcases h with h | h <;> rw [h] <;> simp

theorem PointRecord.adopt_of_used {r : PointRecord} (used : r.inUse = true) (unshelved : r.state ≠ .shelved) (x : Entry) :
    r.adopt x = { r with state := x.adopted.1, condition := x.adopted.2, stamp := x.stamp } := by
  have allowed : (r.inUse && r.state != .shelved) = true := by simp [used, unshelved]
  unfold PointRecord.adopt Entry.adopted
  rw [if_pos allowed]
  cases x.state <;> rfl

/-- Adoption moves state, condition and stamp alone. -/
theorem PointRecord.adopt_frame (r : PointRecord) (x : Entry) :
    r.adopt x = { r with state := (r.adopt x).state, condition := (r.adopt x).condition, stamp := (r.adopt x).stamp } := by
  unfold PointRecord.adopt; split <;> rfl

/-- An adopted state is NORMAL, ALERT or RETURNED under a NORMAL condition, and ALERT or HELD under an ACTIVE one. -/
theorem Entry.adopted_spec (x : Entry) :
    (x.adopted.2 = .normal → x.adopted.1 = .normal ∨ x.adopted.1 = .alert ∨ x.adopted.1 = .returned)
      ∧ (x.adopted.2 = .active → x.adopted.1 = .alert ∨ x.adopted.1 = .held) := by
  unfold Entry.adopted; cases x.state <;> simp

/-- A record after adoption and reconciliation (R45, R46). -/
theorem PointRecord.reconcile_adopt (r : PointRecord) (x : Entry) (now : Millis) :
    let t := (r.adopt x).reconcile now
    (r.inUse = false ∨ r.state = .shelved → t.state = r.state ∧ t.condition = r.condition ∧ t.stamp = r.stamp)
    ∧ (r.inUse = true → r.state ≠ .shelved →
        (x.adopted.2 = r.field → t.state = x.adopted.1 ∧ t.condition = x.adopted.2 ∧ t.stamp = x.stamp ∧ t.cause = r.cause)
        ∧ (x.adopted.2 = .normal → r.field = .active → t.state = .alert ∧ t.condition = .active ∧ t.stamp = now ∧ t.cause = some .activate)
        ∧ (x.adopted.2 = .active → r.field = .normal →
            t.state = (if x.adopted.1 = .held then .returned else .alert) ∧ t.condition = .normal ∧ t.stamp = now ∧ t.cause = some .clear)) := by
  obtain ⟨normal, active⟩ := x.adopted_spec
  intro t
  refine ⟨fun unused => ?_, fun used unshelved => ?_⟩
  · have rests : t = r := by
      rw [show t = (r.adopt x).reconcile now from rfl, PointRecord.adopt_of_not_used unused, PointRecord.reconcile_of_agree now (unused.imp_right Or.inl)]
    rw [rests]
    exact ⟨rfl, rfl, rfl⟩
  · let a : PointRecord := { r with state := x.adopted.1, condition := x.adopted.2, stamp := x.stamp }
    have adopts : t = a.reconcile now := congrArg (·.reconcile now) (PointRecord.adopt_of_used used unshelved x)
    rw [adopts]
    refine ⟨fun agree => ?_, fun condition field => ?_, fun condition field => ?_⟩
    · rw [PointRecord.reconcile_of_agree (r := a) now (Or.inr (Or.inr agree))]
      exact ⟨rfl, rfl, rfl, rfl⟩
    · rw [PointRecord.reconcile_activates (r := a) now used (normal condition) condition field]
      exact ⟨rfl, rfl, rfl, rfl⟩
    · rw [PointRecord.reconcile_clears (r := a) now used (active condition) condition field]
      exact ⟨rfl, rfl, rfl, rfl⟩

/-! ## The station -/

/-- The records adopted, before their reconciliation (R45). -/
def State.adopting (s : State) (es : Tab Entry) : State := s.setPsq { s.psq with points := .ofFn fun p => (s.point p).adopt (es.get p) }

theorem adoptReplay_of_holding {s : State} (h : s.psq.phase = .holding) (es : Tab Entry) : adoptReplay es s = reconcileAll (s.adopting es) := by
  unfold adoptReplay; rw [h]; rfl

theorem adoptReplay_of_not_holding {s : State} (h : s.psq.phase ≠ .holding) (es : Tab Entry) : adoptReplay es s = s := by
  unfold adoptReplay; cases phase : s.psq.phase <;> first | rfl | exact absurd phase h

theorem point_adopting (s : State) (es : Tab Entry) (p : Point) : (s.adopting es).point p = (s.point p).adopt (es.get p) := Tab.get_ofFn ..

/-- The adopted and reconciled points, read off a state after the claim. -/
theorem reconciled_adopting {s t : State} {es : Tab Entry} (points : ∀ p, t.point p = (reconcileAll (s.adopting es)).point p) :
    (s.adopting es).reconciled =
      { s with psq := { phase := .settling
                        points := .ofFn fun p => { s.point p with state := (t.point p).state, condition := (t.point p).condition
                                                                  stamp := (t.point p).stamp, cause := (t.point p).cause } } } := by
  have same (p : Point) : ({ (s.adopting es).point p with state := (t.point p).state, condition := (t.point p).condition
                                                          stamp := (t.point p).stamp, cause := (t.point p).cause } : PointRecord)
      = { s.point p with state := (t.point p).state, condition := (t.point p).condition, stamp := (t.point p).stamp, cause := (t.point p).cause } := by
    rw [point_adopting, PointRecord.adopt_frame]
  rw [reconciled_of_points points]
  simp only [same]
  rfl

/-- The four stages at a REPLAY: heard, withdrawn, and adopted where it is passed (R86, R115, R119). -/
theorem deliverStages_replay {e : RxEntry} {target : Addr} {es : Tab Entry} (body : e.frame.body = .replay target es) (s : State) :
    deliverStages e s =
      if e.origin = .peer ∧ target = s.own ∧ s.mbu.joinState = .opened then adoptReplay es (closeJoin (withdrawReplay target (s.heardFrom e)))
      else withdrawReplay target (s.heardFrom e) := by
  have heard : StreamHeard s (s.heardFrom e) e := heardFrom_spec (Or.inr (Or.inr (Or.inl ⟨_, _, body⟩))) s
  have passed (u : State) : u.replayPassed e = true ↔ e.origin = .peer ∧ target = u.own ∧ u.mbu.joinState = .opened := by
    simp [State.replayPassed, body, and_assoc]
  have same : (s.heardFrom e).own = s.own ∧ (s.heardFrom e).mbu.joinState = s.mbu.joinState := by rw [heard.units]; exact ⟨rfl, rfl⟩
  have stages : deliverStages e s = if s.replayPassed e then adoptReplay es (mbuStage e s) else mbuStage e s := by
    simp [deliverStages, gtuStage, psqStage, tmbStage, body]
  have unit : mbuStage e s = if s.replayPassed e then closeJoin (withdrawReplay target (s.heardFrom e)) else withdrawReplay target (s.heardFrom e) := by
    have again : (s.heardFrom e).replayPassed e = s.replayPassed e := by rw [Bool.eq_iff_iff, passed, passed, same.1, same.2]
    unfold mbuStage
    by_cases peer : e.origin = .peer
    · have from' : peerHeard e.frame s = s.heardFrom e := (if_pos peer).symm
      rw [if_pos peer, from', ← again]
      unfold peerClassHandling
      rw [body]
    · have still : s.heardFrom e = s := if_neg peer
      rw [if_neg peer, if_neg fun h => peer ((passed s).1 h).1, still]
      unfold ownHeard
      rw [body]
  rw [stages, unit]
  by_cases h : s.replayPassed e = true
  · rw [if_pos h, if_pos h, if_pos ((passed s).1 h)]
  · rw [if_neg h, if_neg h, if_neg fun h' => h ((passed s).2 h')]

end Sys2Proof.Machine
end

section
/-! The delivery of a REPLAY: the withdrawal it makes and, passed to the Point Sequencer, its adoption (R45, R115, R119). -/
namespace Sys2Proof.Machine

/-! ## What was heard before -/

section
variable {s h : State} {e : RxEntry}

/-- The frame heard puts at most a RESYNC REQUEST behind the queue, and in ISOLATED nothing. -/
theorem StreamHeard.behind (heard : StreamHeard s h e) :
    ∃ more, h.bus.queue = s.bus.queue ++ more ∧ (∀ a, ∀ x ∈ more, x.unsentReplayFor a = false) ∧ (s.mbu.mode = .isolated → more = []) := by
  by_cases requests : RequestsAtOnce s e
  · refine ⟨_, heard.queue.trans (if_pos requests), fun a x hx => ?_, fun isolated => absurd isolated requests.2.1⟩
    rw [List.mem_singleton.1 hx]
    rfl
  · exact ⟨[], (heard.queue.trans (if_neg requests)).trans (List.append_nil _).symm, by simp, fun _ => rfl⟩

theorem StreamHeard.unsentReplay (heard : StreamHeard s h e) (a : Addr) :
    h.bus.queue.any (TxEntry.unsentReplayFor a) = s.bus.queue.any (TxEntry.unsentReplayFor a)
      ∧ h.bus.queue.head?.any (TxEntry.unsentReplayFor a) = s.bus.queue.head?.any (TxEntry.unsentReplayFor a) := by
  obtain ⟨more, queue, plain, -⟩ := heard.behind
  have absent : more.any (TxEntry.unsentReplayFor a) = false := List.any_eq_false.2 fun x hx => by simp [plain a x hx]
  rw [queue]
  constructor
  · rw [List.any_append, absent, Bool.or_false]
  · cases s.bus.queue with
    | nil => cases more with
      | nil => rfl
      | cons x more => exact plain a x List.mem_cons_self
    | cons x queue => rfl

/-- A withdrawal after the frame was heard, seen from the state before it. -/
theorem ReplayWithdrawn.queue_of_heard {u : State} {a : Addr} (w : ReplayWithdrawn h a u) (heard : StreamHeard s h e) :
    (∀ x ∈ s.bus.queue, x.disposition ≠ .unsent → x ∈ u.bus.queue)
      ∧ (s.mbu.mode ≠ .isolated ∨ (∀ x ∈ s.bus.queue, x.disposition = .loopedBack) →
          ∃ more, u.bus.queue = (s.bus.queue.filter fun x => !x.unsentReplayFor a) ++ more) := by
  obtain ⟨more, queue, plain, closed⟩ := heard.behind
  have mode : h.mbu.mode = s.mbu.mode := by rw [heard.units]
  refine ⟨fun x hx sent => w.stays x (by rw [queue]; exact List.mem_append_left _ hx) sent, fun calm => ?_⟩
  have calmHere : h.mbu.mode ≠ .isolated ∨ ∀ x ∈ h.bus.queue, x.disposition = .loopedBack := by
    by_cases isolated : s.mbu.mode = .isolated
    · rw [queue, closed isolated, List.append_nil]
      exact Or.inr (calm.resolve_left fun other => other isolated)
    · exact Or.inl (by rw [mode]; exact isolated)
  obtain ⟨rest, grown⟩ := w.grows calmHere
  exact ⟨_, by rw [grown, queue, List.filter_append, List.append_assoc]⟩

/-- The members after a withdrawal that follows the frame heard. -/
theorem ReplayWithdrawn.forgotten_of_heard {u : State} {a : Addr} (w : ReplayWithdrawn h a u) (heard : StreamHeard s h e) (rest : List RxEntry) :
    (h.replayForgotten a).setRx rest =
      { s with gat := h.gat, hrn := h.hrn, jnl := h.jnl
               mbu := { s.mbu with members := .ofFn fun b =>
                 { u.member b with resyncOwed := if BeginsWait s e ∧ b = e.frame.src then !decide (RequestsAtOnce s e) else (s.member b).resyncOwed
                                   replay := if b = a then .none else (s.member b).replay } }
               bus := { s.bus with rx := rest, queue := h.bus.queue } } := by
  have members : (h.replayForgotten a).mbu.members = .ofFn fun b =>
      { u.member b with resyncOwed := if BeginsWait s e ∧ b = e.frame.src then !decide (RequestsAtOnce s e) else (s.member b).resyncOwed
                        replay := if b = a then .none else (s.member b).replay } := by
    refine Tab.ext_get fun b => ?_
    have forgotten : (h.replayForgotten a).member b = if b = a then { h.member a with replay := .none, replayTimer := .stopped } else h.member b :=
      State.member_setMember ..
    have owed : ((h.replayForgotten a).member b).resyncOwed = (h.member b).resyncOwed := by
      rw [forgotten]; split
      · rename_i same; rw [same]
      · rfl
    have replay : ((h.replayForgotten a).member b).replay = if b = a then .none else (s.member b).replay := by
      rw [forgotten]; split
      · rfl
      · exact (heard.replay b).1
    rw [Tab.get_ofFn, ← heard.owed b, ← replay, ← owed, w.member b]
    rfl
  have units := heard.units
  have shape : (h.replayForgotten a).setRx rest =
      { h with mbu := { h.mbu with members := (h.replayForgotten a).mbu.members }, bus := { h.bus with rx := rest } } := rfl
  rw [shape, members]
  generalize (Tab.ofFn _ : Tab Member) = ms
  exact congrArg (fun v : State => { v with mbu := { v.mbu with members := ms }, bus := { v.bus with rx := rest } }) units

end

/-! ## After the withdrawal -/

/-- What follows the withdrawal: where the REPLAY is passed the join closes and the REPLAY is adopted (R119, R45). -/
def replayTaken (passed : Prop) [Decidable passed] (es : Tab Entry) (w : State) : State := if passed then adoptReplay es (closeJoin w) else w

section
variable {passed : Prop} [Decidable passed] {es : Tab Entry} {w : State}

theorem replayTaken_of_adopted (h : passed) (holding : w.psq.phase = .holding) : replayTaken passed es w = reconcileAll ((closeJoin w).adopting es) :=
  (if_pos h).trans (adoptReplay_of_holding (by simpa using holding) es)

theorem replayTaken_of_passed (h : passed) (going : w.psq.phase ≠ .holding) : replayTaken passed es w = closeJoin w :=
  (if_pos h).trans (adoptReplay_of_not_holding (by simpa using going) es)

theorem replayTaken_of_kept (h : ¬ passed) : replayTaken passed es w = w := if_neg h

theorem replayTaken_frame : (replayTaken passed es w).gat = w.gat ∧ (replayTaken passed es w).hrn = w.hrn ∧ (replayTaken passed es w).jnl = w.jnl
    ∧ (replayTaken passed es w).bus.rx = w.bus.rx ∧ (replayTaken passed es w).bus.idleWait = w.bus.idleWait := by
  unfold replayTaken; split <;> simp

theorem ReplayWithdrawn.replayTaken {s : State} {a : Addr} (h : ReplayWithdrawn s a w) : ReplayWithdrawn s a (replayTaken passed es w) := by
  by_cases passes : passed
  · by_cases holding : w.psq.phase = .holding
    · rw [replayTaken_of_adopted passes holding, reconcileAll_eq]
      exact ReplayWithdrawn.snapshotClaimed (h.of_same rfl rfl rfl)
    · rw [replayTaken_of_passed passes holding]
      exact h.of_same rfl rfl rfl
  · rwa [replayTaken_of_kept passes]

theorem joinState_replayTaken (h : passed) : (replayTaken passed es w).mbu.joinState = .closed ∧ (replayTaken passed es w).mbu.joinWindow = .stopped := by
  unfold replayTaken; rw [if_pos h]; simp [closeJoin]

/-- Unless the REPLAY is passed to a HOLDING sequencer the points are as the withdrawal left them. -/
theorem psq_replayTaken (h : ¬ (passed ∧ w.psq.phase = .holding)) : (replayTaken passed es w).psq = w.psq := by
  by_cases passes : passed
  · rw [replayTaken_of_passed passes fun holding => h ⟨passes, holding⟩]; simp
  · rw [replayTaken_of_kept passes]

/-- A passed REPLAY ends HOLDING with a SNAPSHOT claimed (R45). -/
theorem settling_replayTaken (h : passed) (holding : w.psq.phase = .holding) :
    let t := replayTaken passed es w
    t.psq.phase ≠ .holding
    ∧ (w.mbu.mode ≠ .isolated → t.psq.phase = .settling ∧ (t.bus.owedSnapshot = true ∨ t.bus.queue.any TxEntry.unsentSnapshot = true))
    ∧ (w.mbu.mode = .isolated → (t.psq.phase = .settling ∧ t.bus.owedSnapshot = true)
        ∨ (t.psq.phase = .running ∧ ∃ x ∈ t.bus.queue, ∃ es, x.body = .snapshot (some es))) := by
  dsimp only
  rw [replayTaken_of_adopted h holding, reconcileAll_eq]
  exact snapshotClaimed_settling (s := ((closeJoin w).adopting es).reconciled) rfl

/-- The record of a point adopted and reconciled. -/
theorem point_replayTaken (h : passed) (holding : w.psq.phase = .holding) (p : Point) :
    let t := (replayTaken passed es w).point p
    t = { ((w.point p).adopt (es.get p)).reconcile w.tmb.groupTime with owed := t.owed, missed := t.missed } := by
  dsimp only
  rw [replayTaken_of_adopted h holding]
  conv => lhs; rw [point_reconcileAll, point_adopting]
  rfl

/-- The adoption said by the obligation's text, after the withdrawal with the frame's place freed. -/
theorem replayTaken_setRx {t : State} {holds : Prop} [Decidable holds] (same : holds ↔ w.psq.phase = .holding)
    (points : passed → holds → ∀ p, t.point p = (replayTaken passed es w).point p) (rest : List RxEntry) :
    (let ended : State := { w.setRx rest with mbu := { (w.setRx rest).mbu with joinState := .closed, joinWindow := .stopped } }
     let reconciled : State :=
       { ended with psq := { phase := .settling
                             points := .ofFn fun p => { (w.setRx rest).point p with state := (t.point p).state, condition := (t.point p).condition
                                                                                    stamp := (t.point p).stamp, cause := (t.point p).cause } } }
     if passed ∧ holds then reconciled.snapshotClaimed else if passed then ended else w.setRx rest)
      = (replayTaken passed es w).setRx rest := by
  dsimp only
  by_cases passes : passed
  · by_cases holding : holds
    · have adopted := replayTaken_of_adopted (es := es) passes (same.1 holding)
      have records := reconciled_adopting (s := closeJoin w) (es := es) (t := t) fun p => by rw [points passes holding, adopted]
      rw [if_pos ⟨passes, holding⟩, adopted, reconcileAll_eq, ← snapshotClaimed_setRx, records]
      rfl
    · rw [if_neg fun both => holding both.2, if_pos passes, replayTaken_of_passed passes fun h => holding (same.2 h)]
      rfl
  · rw [if_neg fun both => passes both.1, if_neg passes, replayTaken_of_kept passes]

end

/-- The withdrawal said by the obligation's text, with the frame's place freed. -/
theorem withdrawReplay_setRx (h : State) (a : Addr) (rest : List RxEntry) :
    (let heard := (h.replayForgotten a).setRx rest
     let freed : State := { heard with bus := { heard.bus with queue := heard.bus.queue.filter fun x => !x.unsentReplayFor a, line := h.lineWithout a } }
     if h.bus.queue.any (TxEntry.unsentReplayFor a) then freed.served else heard) = (withdrawReplay a h).setRx rest := by
  rw [withdrawReplay_eq]
  dsimp only
  split
  · exact served_setRx (h.replayTakenBack a) rest
  · rfl

/-! ## The obligation -/

/-- Settles O35: the frame is heard (`heardFrom_spec`), the REPLAY for its target withdrawn (`ReplayWithdrawn`), and a passed REPLAY
adopted and reconciled (`point_replayTaken`, `PointRecord.reconcile_adopt`). -/
theorem replayWithdrawsAndIsAdopted : Obligations.ReplayWithdrawsAndIsAdopted := by
  intro s e rest target es runs rx body passed st m begins requests
  have heard : StreamHeard s (s.heardFrom e) e := heardFrom_spec (Or.inr (Or.inr (Or.inl ⟨_, _, body⟩))) s
  have stages := deliverStages_replay body s
  generalize s.heardFrom e = h at heard stages
  let w := withdrawReplay target h
  let u := replayTaken passed es w
  have outcome : exec .deliverReplay s = .next (endDelivery u) := by
    have delivers : e.frame.body.cls.delivery = .deliverReplay := by rw [body]; rfl
    rw [← delivers, exec_delivery_head runs rx, stages]
    rfl
  have begins_eq : begins = decide (BeginsWait s e) := by
    show decide _ = decide _
    refine decide_eq_decide.2 (and_congr_right fun _ => ?_)
    cases presence : (s.member e.frame.src).presence <;> simp [m, st]
  have requests_eq : requests = decide (RequestsAtOnce s e) := by
    show decide _ = decide _
    refine decide_eq_decide.2 (and_congr ?_ and_comm)
    rw [begins_eq, decide_eq_true_eq]
  obtain ⟨gat, hrn, jnl, places, timer⟩ : u.gat = h.gat ∧ u.hrn = h.hrn ∧ u.jnl = h.jnl ∧ u.bus.rx = e :: rest ∧ u.bus.idleWait = s.bus.idleWait := by
    have frame := replayTaken_frame (passed := passed) (es := es) (w := w)
    have units := heard.units
    simp only [w, withdrawReplay_frame, withdrawReplay_fields] at frame
    obtain ⟨gat, hrn, jnl, places, timer⟩ := frame
    refine ⟨gat, hrn, jnl, places.trans ?_, timer.trans ?_⟩
    · rw [units]; exact rx
    · rw [units]
  have ended : endDelivery u = { u with bus := { u.bus with rx := rest, idleWait := (endDelivery u).bus.idleWait } } := by
    conv => lhs; rw [endDelivery_eq, places, List.tail_cons]
  obtain ⟨psq, mbu, queue, owedSnapshot⟩ : (endDelivery u).psq = u.psq ∧ (endDelivery u).mbu = u.mbu ∧ (endDelivery u).bus.queue = u.bus.queue
      ∧ (endDelivery u).bus.owedSnapshot = u.bus.owedSnapshot := by simp
  have point (p : Point) : (endDelivery u).point p = u.point p := by unfold State.point; rw [psq]
  have member (a : Addr) : (endDelivery u).member a = u.member a := by unfold State.member; rw [mbu]
  have withdrawn : ReplayWithdrawn h target u := (replayWithdrawn target h).replayTaken
  have holds : w.psq.phase = .holding ↔ s.psq.phase = .holding := by
    rw [holding_withdrawReplay, heard.units]
  have records (p : Point) : w.point p = { s.point p with owed := (w.point p).owed, missed := (w.point p).missed } := by
    have stands := recordsStand_withdrawReplay target h p
    rwa [show h.point p = s.point p by rw [heard.units]; rfl] at stands
  obtain ⟨mode, time⟩ : w.mbu.mode = s.mbu.mode ∧ w.tmb = s.tmb := by
    simp only [w, withdrawReplay_frame, withdrawReplay_fields]
    rw [heard.units]
    exact ⟨rfl, rfl⟩
  obtain ⟨stays, grows⟩ := withdrawn.queue_of_heard heard
  refine ⟨endDelivery u, outcome, endDelivery_settled timer, ?_, ?_, ?_, ?_, ?_, ?_, ?_, ?_, ?_, ?_, ?_⟩
  · rw [member]; exact withdrawn.cancelled
  · rw [member, withdrawn.member, State.replayForgotten, State.member_setMember, if_pos rfl]
  · rw [queue]; exact withdrawn.gone
  · rw [queue]; exact stays
  · rw [queue]; exact grows
  · intro heardHere freed withdrawnHere closed reconciled claimed
    have heard_eq : heardHere = (h.replayForgotten target).setRx rest := by
      rw [withdrawn.forgotten_of_heard heard rest, heard.queue]
      simp only [heardHere, begins_eq, requests_eq, decide_eq_true_eq, member, endDelivery_frame, gat, hrn, jnl, st]
    have withdrawn_eq : withdrawnHere = w.setRx rest := by
      obtain ⟨unsent, head⟩ := heard.unsentReplay target
      have line : h.lineWithout target =
          if s.bus.line = .contending .queueHead ∧ s.bus.queue.head?.any (TxEntry.unsentReplayFor target) = true then .receiving else s.bus.line := by
        unfold State.lineWithout
        rw [head, show h.bus.line = s.bus.line by rw [heard.units]]
      have said := withdrawReplay_setRx h target rest
      rw [← heard_eq, unsent, line] at said
      exact said
    have claimed_eq : claimed = u.setRx rest := by
      have said := replayTaken_setRx (passed := passed) (es := es) (t := endDelivery u) holds.symm (fun _ _ => point) rest
      rw [← withdrawn_eq] at said
      exact said
    rw [claimed_eq]
    exact ended
  · intro own
    have same := heard.still own
    subst same
    refine ⟨by simpa using gat, by simpa using hrn, by simpa using jnl, fun a => ?_⟩
    rw [member, withdrawn.member, State.replayForgotten, State.member_setMember]
    split
    · rename_i same; rw [same]
    · rfl
  · intro passes
    rw [mbu]
    exact joinState_replayTaken passes
  · intro kept
    have same : u = w := replayTaken_of_kept kept
    rw [mbu, psq, same]
    refine ⟨?_, ?_, holds⟩ <;> simp only [w, withdrawReplay_fields] <;> rw [heard.units]
  · intro rests p
    have same : u.psq = w.psq := psq_replayTaken fun both => rests ⟨both.1, holds.1 both.2⟩
    have stands : u.point p = w.point p := by unfold State.point; rw [same]
    rw [point, stands, records]
    exact ⟨rfl, rfl, rfl, rfl⟩
  · intro passes holding
    obtain ⟨left, out, isolated⟩ := settling_replayTaken (es := es) passes (holds.2 holding)
    rw [psq, queue, owedSnapshot, ← mode]
    refine ⟨left, out, isolated, fun p => ?_⟩
    have adopted := PointRecord.reconcile_adopt (w.point p) (es.get p) w.tmb.groupTime
    have record := point_replayTaken (es := es) passes (holds.2 holding) p
    rw [point, record, ← time]
    rw [records p] at adopted ⊢
    exact adopted

end Sys2Proof.Machine
end

section
/-! The drain step: every count one lower, and the SHELVED points whose count it empties released one after another (R44, R59,
R60). -/
namespace Sys2Proof.Machine

/-! ## The counts -/

/-- A drained field point has its count one lower where the point is in use, and nothing else moved (R60). -/
theorem FieldPoint.drain_spec (c : PointConfig) (f : FieldPoint) :
    f.drain c = { f with chatter := (f.drain c).chatter }
      ∧ (f.drain c).chatter.val = if c.inUse = true then f.chatter.val - 1 else f.chatter.val := by
  unfold FieldPoint.drain
  by_cases lowers : (c.inUse && f.chatter.val != 0) = true
  · have inUse : c.inUse = true := by simp_all
    rw [if_pos lowers, if_pos inUse]
    exact ⟨rfl, rfl⟩
  · rw [if_neg lowers]
    refine ⟨rfl, ?_⟩
    split
    · have zero : f.chatter.val = 0 := by simp_all
      omega
    · rfl

/-- With the counts as they were `before`, a point is SHELVED and its count empties (R60). -/
def State.releases (s : State) (before : Tab FieldPoint) (p : Point) : Bool :=
  (before.get p).empties (s.conf.points.get p) && (s.point p).state == .shelved

/-- The state with every count drained and the drain timer at 0, before the releases (R59, R60). -/
def State.drained (s : State) : State :=
  s.setFiu { s.fiu with points := .ofFn fun p => (s.fieldPoint p).drain (s.conf.points.get p), drainCount := 0 }

@[simp] theorem State.point_drained (s : State) (p : Point) : s.drained.point p = s.point p := rfl

@[simp] theorem State.releases_drained (s : State) (before : Tab FieldPoint) (p : Point) :
    State.releases s.drained before p = s.releases before p := rfl

@[simp] theorem State.fieldPoint_drained (s : State) (p : Point) : s.drained.fieldPoint p = (s.fieldPoint p).drain (s.conf.points.get p) :=
  Tab.get_ofFn ..

/-! ## The releases -/

theorem releases_iff (s : State) (before : Tab FieldPoint) (p : Point) :
    s.releases before p = true ↔
      (s.conf.points.get p).inUse = true ∧ (before.get p).chatter.val = 1 ∧ (s.point p).state = .shelved := by
  simp [State.releases, FieldPoint.empties, and_assoc]

/-- UNSHELVE is a transition of a SHELVED point, to ALERT or NORMAL by the condition it carries (R29). -/
theorem PointRecord.byGrid_unshelve {r : PointRecord} (h : r.state = .shelved) (c : Condition) (stamp : Millis) :
    r.byGrid (.unshelve c) stamp =
      ({ r with field := c, state := if c = .active then .alert else .normal, condition := c, stamp := stamp, cause := some .unshelve }, true) := by
  unfold PointRecord.byGrid; rw [h]; cases c <;> rfl

/-- A released record: by its qualified condition, and in HOLDING NORMAL (R44, R60). -/
theorem PointRecord.after_unshelve {r : PointRecord} (h : r.state = .shelved) (phase : Phase) (c : Condition) (stamp : Millis) :
    r.after phase (.unshelve c) stamp =
      { r with field := c, state := if c = .active ∧ phase ≠ .holding then .alert else .normal
               condition := if phase ≠ .holding then c else .normal, stamp := stamp, cause := some .unshelve } := by
  by_cases holding : phase = .holding
  · simp [PointRecord.after, holding, PointRecord.inHolding, PointEvent.field]
  · simp [PointRecord.after_of_not_holding holding, PointRecord.byGrid_unshelve h, holding]

/-- Of a list of points those that the drain step releases have gone to the state of their UNSHELVE, announced in RUNNING, and
nothing else has moved. -/
structure PointsReleased (before : Tab FieldPoint) (s u : State) (done : List Point) : Prop where
  units : u = { s with psq := { s.psq with points := u.psq.points }, bus := { s.bus with queue := u.bus.queue } }
  others : ∀ p, ¬ (p ∈ done ∧ s.releases before p = true) → u.point p = s.point p
  moved : ∀ p ∈ done, s.releases before p = true →
    u.point p = { (s.point p).after s.psq.phase (.unshelve (s.fieldPoint p).qualified) s.tmb.groupTime with
                    owed := (u.point p).owed, missed := (u.point p).missed }
  quiet : s.psq.phase ≠ .running → u.bus.queue = s.bus.queue
  told : s.psq.phase = .running → (∀ p, unsentStates p s.bus.queue ≤ 1) →
    Announced s.bus.queue s u (done.filter (s.releases before)) .unshelve

theorem PointsReleased.nil (before : Tab FieldPoint) (s : State) : PointsReleased before s s [] where
  units := rfl
  others _ _ := rfl
  moved _ h := absurd h List.not_mem_nil
  quiet _ := rfl
  told _ _ := announced_nil .unshelve rfl fun _ => ⟨rfl, rfl⟩

section
variable {before : Tab FieldPoint} {s u : State} {done : List Point} {p : Point}

/-- At its turn a point is released as it would have been before the releases. -/
theorem PointsReleased.releasePoint_eq (h : PointsReleased before s u done) (new : p ∉ done) :
    releasePoint before u p =
      if s.releases before p then takeEvent p (.unshelve (s.fieldPoint p).qualified) s.tmb.groupTime u else u := by
  have point := h.others p fun h' => new h'.1
  obtain ⟨conf, stamp, field⟩ : u.conf = s.conf ∧ u.tmb = s.tmb ∧ u.fieldPoint p = s.fieldPoint p := by
    rw [h.units]; exact ⟨rfl, rfl, rfl⟩
  unfold releasePoint State.releases
  rw [conf, stamp, field, point]

theorem PointsReleased.fiu (h : PointsReleased before s u done) : u.fiu = s.fiu := by rw [h.units]

theorem PointsReleased.release (h : PointsReleased before s u done) (new : p ∉ done) (releases : s.releases before p = true) :
    PointsReleased before s (takeEvent p (.unshelve (s.fieldPoint p).qualified) s.tmb.groupTime u) (done ++ [p]) := by
  let ev : PointEvent := .unshelve (s.fieldPoint p).qualified
  obtain ⟨mode, counter, phase⟩ : u.mbu.mode = s.mbu.mode ∧ u.bus.counter = s.bus.counter ∧ u.psq.phase = s.psq.phase := by
    rw [h.units]; exact ⟨rfl, rfl, rfl⟩
  have point := h.others p fun h' => new h'.1
  obtain ⟨-, -, shelved⟩ := (releases_iff ..).1 releases
  refine ⟨?_, fun q hq => ?_, fun q hq releases' => ?_, fun notRunning => ?_, fun running once => ?_⟩
  · exact (takeEvent_units ..).trans (congrArg (fun v : State =>
      { v with psq := { v.psq with points := (takeEvent p ev s.tmb.groupTime u).psq.points }
               bus := { v.bus with queue := (takeEvent p ev s.tmb.groupTime u).bus.queue } }) h.units)
  · have ne : q ≠ p := by rintro rfl; exact hq ⟨by simp, releases⟩
    rw [point_takeEvent_of_ne ne, h.others q fun h' => hq ⟨by simp [h'.1], h'.2⟩]
  · by_cases same : q = p
    · subst same
      have record := point_takeEvent q ev s.tmb.groupTime u
      rwa [phase, point] at record
    · rw [point_takeEvent_of_ne same]
      exact h.moved q (by simpa [same] using hq) releases'
  · rw [takeEvent_of_quiet fun h' => notRunning (phase.symm.trans h'.1)]
    exact h.quiet notRunning
  · have made : ((u.point p).byGrid ev s.tmb.groupTime).2 = true := by rw [point, PointRecord.byGrid_unshelve shelved]
    rw [List.filter_append, List.filter_cons_of_pos releases]
    exact (h.told running once).takeEvent (ev := ev) (once p) (fun mem => new (List.mem_filter.1 mem).1) mode counter (phase.trans running) made

theorem PointsReleased.skip (h : PointsReleased before s u done) (stays : ¬ s.releases before p = true) :
    PointsReleased before s u (done ++ [p]) := by
  have old (q : Point) (releases : s.releases before q = true) : q ∈ done ++ [p] ↔ q ∈ done := by
    have ne : q ≠ p := by rintro rfl; exact stays releases
    simp [ne]
  refine ⟨h.units, fun q hq => h.others q fun h' => hq ⟨(old q h'.2).2 h'.1, h'.2⟩, fun q hq releases => h.moved q ((old q releases).1 hq) releases,
    h.quiet, ?_⟩
  rw [List.filter_append, List.filter_cons_of_neg stays, List.filter_nil, List.append_nil]
  exact h.told

theorem PointsReleased.foldl (todo : List Point) : ∀ {done : List Point} {u : State}, (done ++ todo).Nodup → PointsReleased before s u done →
    PointsReleased before s (todo.foldl (releasePoint before) u) (done ++ todo) := by
  induction todo with
  | nil => intro done u _ h; rw [List.append_nil]; exact h
  | cons p todo ih =>
    intro done u nodup h
    have new : p ∉ done := fun mem => (List.nodup_append.1 nodup).2.2 p mem p (by simp) rfl
    have turn : PointsReleased before s (releasePoint before u p) (done ++ [p]) := by
      rw [h.releasePoint_eq new]
      split
      · exact h.release new ‹_›
      · exact h.skip ‹_›
    simpa using ih (done := done ++ [p]) (by simpa using nodup) turn

end

/-- The drain step lowers the counts and then releases the points whose counts it has emptied (R59, R60). -/
theorem drainStep_released (s : State) : PointsReleased s.fiu.points s.drained (drainStep s) indices :=
  PointsReleased.foldl indices (done := []) (by decide) (.nil ..)

/-- A point that the drain step releases. -/
theorem point_drainStep_of_released {s : State} {p : Point}
    (h : (s.conf.points.get p).inUse = true ∧ (s.fieldPoint p).chatter.val = 1 ∧ (s.point p).state = .shelved) :
    (drainStep s).point p =
      { s.point p with
          state := if (s.fieldPoint p).qualified = .active ∧ s.psq.phase ≠ .holding then .alert else .normal
          condition := if s.psq.phase ≠ .holding then (s.fieldPoint p).qualified else .normal
          field := (s.fieldPoint p).qualified, stamp := s.tmb.groupTime, cause := some .unshelve
          owed := ((drainStep s).point p).owed, missed := ((drainStep s).point p).missed } := by
  have qualified : (s.drained.fieldPoint p).qualified = (s.fieldPoint p).qualified := by
    obtain ⟨kept, -⟩ := (s.fieldPoint p).drain_spec (s.conf.points.get p)
    rw [State.fieldPoint_drained, kept]
  have shelved := h.2.2
  have releases : s.drained.releases s.fiu.points p = true := by rw [State.releases_drained]; exact (releases_iff ..).2 h
  have record := (drainStep_released s).moved p (mem_indices p) releases
  have phase : s.drained.psq.phase = s.psq.phase := rfl
  have stamp : s.drained.tmb.groupTime = s.tmb.groupTime := rfl
  rw [State.point_drained, qualified, phase, stamp, PointRecord.after_unshelve shelved] at record
  exact record

theorem point_drainStep_of_not_released {s : State} {p : Point}
    (h : ¬ ((s.conf.points.get p).inUse = true ∧ (s.fieldPoint p).chatter.val = 1 ∧ (s.point p).state = .shelved)) :
    (drainStep s).point p = s.point p := by
  refine ((drainStep_released s).others p fun h' => h ?_).trans (State.point_drained s p)
  rw [State.releases_drained] at h'
  exact (releases_iff ..).1 h'.2

theorem fieldPoint_drainStep (s : State) (p : Point) : (drainStep s).fieldPoint p = (s.fieldPoint p).drain (s.conf.points.get p) := by
  unfold State.fieldPoint
  rw [(drainStep_released s).fiu]
  exact State.fieldPoint_drained s p

theorem exec_drainTimerExpiry_of_reached {s : State} (runs : s.runs = true) (running : s.fiu.drainRunning = true)
    (reached : s.conf.drainSeconds * 100 ≤ s.fiu.drainCount) (settled : ∀ p, (s.fieldPoint p).due = false) :
    exec .drainTimerExpiry s = .next (settleIdleWait (drainStep s)) := by
  have noneDue : s.fiu.anyDue = false := (Tab.any_false ..).2 settled
  have due : s.drainDue = true := by simp [State.drainDue, State.drainReached, State.drainTicks, runs, running, reached, noneDue]
  rw [exec_drainTimerExpiry, arise_true due]

/-- Settles O12: the counts by `FieldPoint.drain_spec`, the releases by `drainStep_released`. -/
theorem drainStepReleasesShelvedPoints : Obligations.DrainStepReleasesShelvedPoints := by
  intro s runs running reached settled
  have outcome := exec_drainTimerExpiry_of_reached runs running reached settled
  have released := drainStep_released s
  have fields := fieldPoint_drainStep s
  have freed := fun p => point_drainStep_of_released (s := s) (p := p)
  have kept := fun p => point_drainStep_of_not_released (s := s) (p := p)
  have timer : (drainStep s).bus.idleWait = s.bus.idleWait := by simp
  generalize drainStep s = u at outcome released fields freed kept timer
  let t := settleIdleWait u
  have bus : t = { u with bus := { u.bus with idleWait := t.bus.idleWait } } := settleIdleWait_bus u
  have points : t.psq.points = u.psq.points := by rw [bus]
  have queue : t.bus.queue = u.bus.queue := by rw [bus]
  have point (p : Point) : t.point p = u.point p := congrArg (·.get p) points
  have field (p : Point) : t.fieldPoint p = (s.fieldPoint p).drain (s.conf.points.get p) := by rw [← fields, bus]; rfl
  have shape : t = { s with fiu := { s.fiu with points := t.fiu.points, drainCount := 0 }, psq := { s.psq with points := t.psq.points }
                            bus := { s.bus with queue := t.bus.queue, idleWait := t.bus.idleWait } } := by
    have drained : t.fiu.points = s.drained.fiu.points := by rw [bus, released.fiu]
    rw [drained, points, queue]
    exact bus.trans (congrArg (fun v : State => { v with bus := { v.bus with idleWait := t.bus.idleWait } }) released.units)
  refine ⟨t, outcome, (settleIdleWait_spec _).of_timer timer, shape, fun notRunning => queue.trans (released.quiet notRunning),
    fun holds inRunning => ?_, fun p => ?_⟩
  · have once (p : Point) : unsentStates p s.bus.queue ≤ 1 := (((queueHolds_iff s).1 holds).2 p).1
    have told := (released.told inRunning once).of_same (s' := s) (t' := t) rfl rfl rfl points queue
    have listed : s.drained.releases s.fiu.points = fun p =>
        (s.conf.points.get p).inUse && (s.fieldPoint p).chatter == 1 && (s.point p).state == .shelved :=
      funext fun p => Bool.eq_iff_iff.2 ((releases_iff s s.fiu.points p).trans (by simp [Fin.ext_iff, State.fieldPoint, and_assoc]))
    rwa [listed] at told
  · obtain ⟨same, count⟩ := (s.fieldPoint p).drain_spec (s.conf.points.get p)
    intro f inUse
    rw [field, point]
    refine ⟨same, count, fun release => ?_, kept p⟩
    rw [freed p release]
    exact ⟨rfl, rfl, rfl, rfl, rfl⟩

end Sys2Proof.Machine
end

section
/-! A tick: the pin levels taken, the points compared by R53 and the buttons by R136 (R51, R52, R55, R63, R125). -/
namespace Sys2Proof.Machine

/-! ## Points (R51 to R53) -/

/-- The raw condition of a contact: ACTIVE exactly where it stands as the polarity says (R51). -/
theorem rawCondition_eq (pol : Polarity) (high : Bool) :
    rawCondition pol high = if (!high) = (pol == .activeClosed) then .active else .normal := by
  cases pol <;> cases high <;> rfl

theorem PointConfig.delay_eq (c : PointConfig) (r : Condition) : c.delay r = if r = .active then c.onDelay else c.offDelay := by
  cases r <;> rfl

section
variable {f : FieldPoint} {r : Condition} {delay : Nat}

theorem FieldPoint.compare_of_same (settled : f.due = false) (same : r = f.qualified) :
    f.compare r delay = { f with raw := r, countdown := none } := by
  unfold FieldPoint.compare; rw [if_pos same, ← settled]

theorem FieldPoint.compare_of_idle (differs : r ≠ f.qualified) (idle : f.countdown = none) :
    f.compare r delay = if delay = 0 then { f with raw := r, due := true } else { f with raw := r, countdown := some delay } := by
  unfold FieldPoint.compare; rw [if_neg differs, idle]

theorem FieldPoint.compare_of_counting (differs : r ≠ f.qualified) {n : Nat} (counts : f.countdown = some n) :
    f.compare r delay =
      if n ≤ 1 then { f with raw := r, countdown := none, due := true } else { f with raw := r, countdown := some (n - 1) } := by
  unfold FieldPoint.compare; rw [if_neg differs, counts]

end

theorem FieldPoint.sample_of_inUse {c : PointConfig} (h : c.inUse = true) (high : Bool) (f : FieldPoint) :
    f.sample c high = f.compare (rawCondition c.polarity high) (c.delay (rawCondition c.polarity high)) := if_pos h

theorem FieldPoint.sample_of_unused {c : PointConfig} (h : c.inUse = false) (high : Bool) (f : FieldPoint) : f.sample c high = f :=
  if_neg (by rw [h]; decide)

/-! ## Buttons (R136) -/

section
variable {d : Debouncer} {pressed : Bool}

theorem Debouncer.sample_of_same (settled : d.due = false) (same : pressed = d.pressed) : d.sample pressed = { d with count := 0 } := by
  unfold Debouncer.sample; rw [if_pos same, ← settled]

theorem Debouncer.sample_of_differs (differs : pressed ≠ d.pressed) :
    d.sample pressed = if d.count < 2 then { d with count := d.count + 1 } else { d with due := true } := if_neg differs

end

theorem Pnl.button_sample (p : Pnl) (l : ButtonLevels) (b : Button) : (p.sample l).button b = (p.button b).sample (pinPressed l b) := by
  cases b <;> rfl

/-! ## The tick -/

/-- The tick and the pin levels taken, before the units act on them (R125). -/
def State.ticked (s : State) (levels : BitVec 16) (l : ButtonLevels) : State :=
  { s with tmb := { s.tmb with tickDue := false }, pins := { s.pins with points := levels, buttons := l } }

@[simp] theorem State.conf_ticked (s : State) (levels : BitVec 16) (l : ButtonLevels) : (s.ticked levels l).conf = s.conf := rfl
@[simp] theorem State.fieldPoint_ticked (s : State) (levels : BitVec 16) (l : ButtonLevels) (p : Point) :
    (s.ticked levels l).fieldPoint p = s.fieldPoint p := rfl
@[simp] theorem State.pnl_ticked (s : State) (levels : BitVec 16) (l : ButtonLevels) : (s.ticked levels l).pnl = s.pnl := rfl

theorem takeTick_of_idle {s : State} (stopped : s.runs = false) (levels : BitVec 16) (l : ButtonLevels) :
    takeTick levels l s = s.ticked levels l := if_neg fun runs => Bool.false_ne_true (stopped.symm.trans runs)

theorem takeTick_of_runs {s : State} (runs : s.runs = true) (levels : BitVec 16) (l : ButtonLevels) :
    takeTick levels l s = sampleInputs levels l (s.ticked levels l) := if_pos runs

theorem fieldPoint_sampleInputs (levels : BitVec 16) (l : ButtonLevels) (s : State) (p : Point) :
    (sampleInputs levels l s).fieldPoint p = (s.fieldPoint p).sample (s.conf.points.get p) (levels.getLsbD p.val) := Tab.get_ofFn ..

theorem button_sampleInputs (levels : BitVec 16) (l : ButtonLevels) (s : State) (b : Button) :
    (sampleInputs levels l s).pnl.button b = (s.pnl.button b).sample (pinPressed l b) := Pnl.button_sample ..

theorem anyDue_eq_false {p : Pnl} (h : ∀ b, (p.button b).due = false) : p.anyDue = false := by
  have ack : p.ack.due = false := h .ack
  have reset : p.reset.due = false := h .reset
  have silence : p.silence.due = false := h .silence
  have test : p.test.due = false := h .test
  simp [Pnl.anyDue, ack, reset, silence, test]

/-- Settles O9: `takeTick`, with one equation per case of R53 and of R136. -/
theorem tickSamplesPointsAndButtons : Obligations.TickSamplesPointsAndButtons := by
  intro s levels l due
  refine ⟨fun stopped => ?_, fun runs points drain buttons => ⟨sampleInputs levels l (s.ticked levels l), ?_, rfl, fun p => ?_, fun b => ?_⟩⟩
  · rw [exec_tick, arise_true (by simp [State.tickMayBeTaken, due, stopped]), takeTick_of_idle stopped]
    rfl
  · have noneDue : s.fiu.anyDue = false := (Tab.any_false ..).2 points
    have settled : s.tickSettled = true := by simp [State.tickSettled, noneDue, drain, anyDue_eq_false buttons]
    rw [exec_tick, arise_true (by simp [State.tickMayBeTaken, due, settled]), takeTick_of_runs runs]
  · have sampled := fieldPoint_sampleInputs levels l (s.ticked levels l) p
    intro c f closed r d
    have raw : rawCondition c.polarity (levels.getLsbD p.val) = r := rawCondition_eq ..
    refine ⟨fun unused => sampled.trans (FieldPoint.sample_of_unused unused ..), fun inUse => ?_⟩
    have compared : (sampleInputs levels l (s.ticked levels l)).fieldPoint p = f.compare r d := by
      rw [sampled, State.conf_ticked, State.fieldPoint_ticked, FieldPoint.sample_of_inUse inUse, raw, PointConfig.delay_eq]
    rw [compared]
    refine ⟨FieldPoint.compare_of_same (points p), fun differs idle zero => ?_, fun differs idle delayed => ?_,
      fun n more differs counts => ?_, fun differs last => ?_⟩
    · rw [FieldPoint.compare_of_idle differs idle, if_pos zero]
    · rw [FieldPoint.compare_of_idle differs idle, if_neg delayed]
    · rw [FieldPoint.compare_of_counting differs counts, if_neg (by omega)]
    · rw [FieldPoint.compare_of_counting differs last, if_pos le_rfl]
  · have sampled := button_sampleInputs levels l (s.ticked levels l) b
    intro d pressed
    have level : pinPressed l b = pressed := by cases b <;> rfl
    rw [sampled, level, State.pnl_ticked]
    refine ⟨Debouncer.sample_of_same (buttons b), fun differs below => ?_, fun differs third => ?_⟩
    · rw [Debouncer.sample_of_differs differs, if_pos below]
    · rw [Debouncer.sample_of_differs differs, if_neg (by omega)]

end Sys2Proof.Machine
end

section
/-! SHELVED against the chatter count by the threshold, through every step (R57, R58, R60, R64). -/
namespace Sys2Proof.Machine

/-! ## Which events move a point into SHELVED or out of it (R29, R44) -/

/-- SHELVE leaves every record SHELVED. -/
theorem PointRecord.state_after_shelve (phase : Phase) (r : PointRecord) (stamp : Millis) : (r.after phase .shelve stamp).state = .shelved := by
  by_cases holding : phase = .holding
  · rw [holding]; rfl
  · rw [PointRecord.after_of_not_holding holding]
    by_cases shelved : r.state = .shelved
    · simp [PointRecord.byGrid, shelved, grid]
    · rw [PointRecord.byGrid_shelve shelved]

/-- No event but SHELVE and UNSHELVE moves a record into SHELVED or out of it. -/
theorem PointRecord.shelved_after_iff {ev : PointEvent} (notShelve : ev.cause ≠ .shelve) (notUnshelve : ev.cause ≠ .unshelve) (phase : Phase)
    (r : PointRecord) (stamp : Millis) : (r.after phase ev stamp).state = .shelved ↔ r.state = .shelved := by
  unfold PointRecord.after
  split
  · unfold PointRecord.inHolding
    cases ev with
    | shelve => exact absurd rfl notShelve
    | unshelve c => exact absurd rfl notUnshelve
    | activate => dsimp only; split <;> rfl
    | clear => dsimp only; split <;> rfl
    | _ => rfl
  · unfold PointRecord.byGrid
    cases ev with
    | shelve => exact absurd rfl notShelve
    | unshelve c => exact absurd rfl notUnshelve
    | _ => cases r.state <;> cases r.condition <;> simp [grid]

/-- Between two states every point has stayed SHELVED or not SHELVED. -/
abbrev ShelvedStands (s t : State) : Prop := ∀ p, (t.point p).state = .shelved ↔ (s.point p).state = .shelved

theorem ShelvedStands.trans {s t u : State} (h : ShelvedStands s t) (h' : ShelvedStands t u) : ShelvedStands s u :=
  fun p => (h' p).trans (h p)

theorem RecordsStand.shelved {s t : State} (h : RecordsStand s t) : ShelvedStands s t := fun p => by rw [h p]

theorem shelvedStands_of_psq {s t : State} (psq : t.psq = s.psq := by simp) : ShelvedStands s t := (recordsStand_of_psq psq).shelved

theorem state_takeEvent_shelve (p : Point) (stamp : Millis) (s : State) : ((takeEvent p .shelve stamp s).point p).state = .shelved := by
  rw [point_takeEvent]; exact PointRecord.state_after_shelve ..

theorem shelvedStands_takeEvent {ev : PointEvent} (notShelve : ev.cause ≠ .shelve) (notUnshelve : ev.cause ≠ .unshelve) (p : Point)
    (stamp : Millis) (s : State) : ShelvedStands s (takeEvent p ev stamp s) := by
  intro q
  by_cases same : q = p
  · rw [same, point_takeEvent]; exact PointRecord.shelved_after_iff notShelve notUnshelve ..
  · rw [point_takeEvent_of_ne same]

theorem shelvedStands_takeRequest {ev : PointEvent} (notShelve : ev.cause ≠ .shelve) (notUnshelve : ev.cause ≠ .unshelve) (mask : ZoneMask)
    (acts : SeqState) (s : State) : ShelvedStands s (takeRequest mask acts ev s) := by
  unfold takeRequest
  split
  · refine foldl_invariant (ShelvedStands s) _ (fun u p h => ?_) _ _ fun _ => Iff.rfl
    split
    · exact h.trans (shelvedStands_takeEvent notShelve notUnshelve p _ u)
    · exact h
  · exact fun _ => Iff.rfl

/-! ## Adoption and reconciliation (R45, R46) -/

theorem PointRecord.shelved_adopt_iff (r : PointRecord) (e : Entry) : (r.adopt e).state = .shelved ↔ r.state = .shelved := by
  unfold PointRecord.adopt
  split
  · have unshelved : r.state ≠ .shelved := by simp_all
    have adopted : adoptedState e.state ≠ .shelved := by cases e.state <;> decide
    exact iff_of_false adopted unshelved
  · rfl

theorem PointRecord.shelved_reconcile_iff (r : PointRecord) (stamp : Millis) : (r.reconcile stamp).state = .shelved ↔ r.state = .shelved := by
  have event {ev : PointEvent} (h : ev.cause ≠ .shelve) (h' : ev.cause ≠ .unshelve) : (r.byGrid ev stamp).1.state = .shelved ↔ r.state = .shelved :=
    PointRecord.shelved_after_iff h h' .running r stamp
  unfold PointRecord.reconcile
  split
  · split
    · exact event (ev := .activate) (by decide) (by decide)
    · exact event (ev := .clear) (by decide) (by decide)
    · rfl
    · rfl
  · rfl

theorem shelvedStands_reconcileAll (s : State) : ShelvedStands s (reconcileAll s) := fun p => by
  rw [point_reconcileAll]; exact PointRecord.shelved_reconcile_iff ..

theorem shelvedStands_adoptReplay (es : Tab Entry) (s : State) : ShelvedStands s (adoptReplay es s) := by
  unfold adoptReplay
  split
  · refine ShelvedStands.trans (fun p => ?_) (shelvedStands_reconcileAll _)
    rw [State.point, State.setPsq_psq, Tab.get_ofFn]
    exact PointRecord.shelved_adopt_iff ..
  · exact fun _ => Iff.rfl
  · exact fun _ => Iff.rfl

theorem shelvedStands_freshStart (s : State) : ShelvedStands s (freshStart s) := by
  unfold freshStart
  split
  exacts [shelvedStands_reconcileAll s, fun _ => Iff.rfl, fun _ => Iff.rfl]

/-! ## The stages of a delivery -/

theorem recordsStand_peerHeard (f : Frame) (s : State) : RecordsStand s (peerHeard f s) := by
  have joins (c : SeqNo) (mask : BitVec 16) (u : State) : RecordsStand u (joinHeard f.src c mask u) := by
    unfold joinHeard
    dsimp only
    split
    · have claimed (v : State) : RecordsStand v (considerReplay f.src mask (claimSnapshot (claimStale f.src v))) :=
        (recordsStand_of_psq (t := claimStale f.src v)).trans ((recordsStand_claimSnapshot _).trans recordsStand_of_psq)
      exact (recordsStand_of_psq rfl).trans (claimed (u.setMember f.src _))
    · exact recordsStand_of_psq
  have silence : RecordsStand s (restartSilence f.src s) := recordsStand_of_psq
  unfold peerHeard
  dsimp only
  split
  · exact recordsStand_of_psq rfl
  · cases f.body with
    | join mask => exact silence.trans (joins _ mask _)
    | _ => exact silence.trans recordsStand_of_psq

theorem recordsStand_peerClassHandling (e : RxEntry) (s : State) : RecordsStand s (peerClassHandling e s) := by
  unfold peerClassHandling
  cases e.frame.body with
  | resyncRequest target =>
    dsimp only
    split
    exacts [recordsStand_claimSnapshot s, recordsStand_of_psq rfl]
  | replay target es =>
    dsimp only
    split
    · exact (recordsStand_withdrawReplay target s).trans (recordsStand_of_psq rfl)
    · exact recordsStand_withdrawReplay target s
  | _ => exact recordsStand_of_psq rfl

theorem recordsStand_ownHeard (e : RxEntry) (s : State) : RecordsStand s (ownHeard e s) := by
  unfold ownHeard
  cases e.frame.body with
  | replay target es => exact recordsStand_withdrawReplay target s
  | join mask => exact recordsStand_of_psq (by unfold openJoinWindow; dsimp only; split <;> rfl)
  | snapshot es => exact recordsStand_of_psq (by dsimp only; split <;> simp)
  | _ => exact recordsStand_of_psq rfl

theorem recordsStand_mbuStage (e : RxEntry) (s : State) : RecordsStand s (mbuStage e s) := by
  unfold mbuStage
  split
  · exact (recordsStand_peerHeard e.frame s).trans (recordsStand_peerClassHandling e _)
  · exact recordsStand_ownHeard e s

theorem shelvedStands_psqStage (passed : Bool) (f : Frame) (s : State) : ShelvedStands s (psqStage passed f s) := by
  unfold psqStage
  cases f.body with
  | ack mask => exact shelvedStands_takeRequest (ev := .ack) (by decide) (by decide) mask _ s
  | reset mask => exact shelvedStands_takeRequest (ev := .reset) (by decide) (by decide) mask _ s
  | replay target es =>
    dsimp only
    split
    exacts [shelvedStands_adoptReplay es s, fun _ => Iff.rfl]
  | _ => exact fun _ => Iff.rfl

theorem shelvedStands_deliverStages (e : RxEntry) (s : State) : ShelvedStands s (deliverStages e s) := by
  have heard := (recordsStand_mbuStage e s).shelved
  have shown : ShelvedStands (mbuStage e s) (gtuStage e.frame (mbuStage e s)) := shelvedStands_of_psq
  have sequenced := shelvedStands_psqStage (s.replayPassed e) e.frame (gtuStage e.frame (mbuStage e s))
  have timed (u : State) : ShelvedStands u (tmbStage e.frame u) := shelvedStands_of_psq
  exact heard.trans (shown.trans (sequenced.trans (timed _)))

/-! ## The invariant through the operations -/

/-- A count of 0 and a state other than SHELVED agree with every threshold. -/
theorem shelvingHolds_of_zero {chatter : Nat} {st : SeqState} (zero : chatter = 0) (unshelved : st ≠ .shelved) (threshold : Nat) :
    ShelvingHolds threshold chatter st := by
  unfold ShelvingHolds
  split
  · exact ⟨zero, unshelved⟩
  · exact ⟨fun h => absurd h unshelved, fun _ => by omega⟩

/-- A lower count agrees with the state that stays, while it is at least 1 where that is SHELVED. -/
theorem shelvingHolds_of_lower {threshold chatter lower : Nat} {st : SeqState} (h : ShelvingHolds threshold chatter st) (le : lower ≤ chatter)
    (least : st = .shelved → 1 ≤ lower) : ShelvingHolds threshold lower st := by
  unfold ShelvingHolds at h ⊢
  split at h
  · rename_i zero
    rw [if_pos zero]
    exact ⟨by omega, h.2⟩
  · rename_i nonzero
    rw [if_neg nonzero]
    exact ⟨least, fun unshelved => lt_of_le_of_lt le (h.2 unshelved)⟩

/-- R58 speaks of configuration, counts and SHELVED alone, and LOADING does not come back. -/
theorem ChatterHolds.of_stands {s t : State} (hs : ChatterHolds s) (shelved : ShelvedStands s t) (config : t.config = s.config := by simp)
    (chatter : ∀ p, (t.fieldPoint p).chatter = (s.fieldPoint p).chatter := by simp [State.fieldPoint])
    (loading : s.mbu.mode ≠ .loading → t.mbu.mode ≠ .loading := by simp) : ChatterHolds t := by
  obtain ⟨holds, unset⟩ := hs
  have conf : t.conf = s.conf := by unfold State.conf; rw [config]
  refine ⟨fun p => ?_, fun h => ?_⟩
  · have here := holds p
    unfold ShelvingHolds at here ⊢
    rw [conf, chatter, ne_eq, shelved p]
    exact here
  · rw [config]; exact unset (by_contra fun h' => loading h' h)

theorem ChatterHolds.settled {s : State} (hs : ChatterHolds s) : ChatterHolds (settleIdleWait s) := hs.of_stands shelvedStands_of_psq

theorem ChatterHolds.restarted {s : State} (hs : ChatterHolds s) : ChatterHolds (restartIdleWait s) := hs.of_stands shelvedStands_of_psq

/-- A qualified change moves into SHELVED the point whose count reaches its threshold, and no other (R57, R58). -/
theorem shelved_changed_iff (s : State) (p q : Point) :
    ((s.changed p).point q).state = .shelved ↔ (s.point q).state = .shelved ∨ (q = p ∧ Shelves s p) := by
  by_cases h : Shelves s p
  · rw [changed_of_shelves h]
    by_cases same : q = p
    · rw [same]; exact iff_of_true (state_takeEvent_shelve ..) (Or.inr ⟨rfl, h⟩)
    · rw [point_takeEvent_of_ne same, point_takeEvent_of_ne same]; simp [same]
  · have event : (s.fieldPoint p).raw.event.cause ≠ .shelve ∧ (s.fieldPoint p).raw.event.cause ≠ .unshelve := by
      cases (s.fieldPoint p).raw <;> decide
    rw [changed_of_not_shelves h, shelvedStands_takeEvent event.1 event.2 p _ s q]
    simp [h]

theorem FieldPoint.chatter_counted (f : FieldPoint) (threshold : Nat) :
    (f.counted threshold).chatter.val = if f.raw = .active ∧ threshold ≠ 0 then min 15 (f.chatter.val + 1) else f.chatter.val := by
  unfold FieldPoint.counted
  dsimp only
  split
  exacts [satIncr_val _, rfl]

/-- R58 at the point of a qualified change: an ACTIVATE below the threshold is counted, the one that reaches it shelves. -/
theorem shelvingHolds_counted {s : State} {p : Point} (h : ShelvingHolds (s.conf.points.get p).threshold.val (s.fieldPoint p).chatter.val (s.point p).state) :
    ShelvingHolds (s.conf.points.get p).threshold.val
      ((s.fieldPoint p).counted (s.conf.points.get p).threshold.val).chatter.val ((s.changed p).point p).state := by
  have shelved := shelved_changed_iff s p p
  unfold ShelvingHolds at h ⊢
  rw [FieldPoint.chatter_counted]
  by_cases counts : (s.fieldPoint p).raw = .active ∧ (s.conf.points.get p).threshold.val ≠ 0
  · obtain ⟨active, nonzero⟩ := counts
    rw [if_neg nonzero] at h ⊢
    rw [if_pos ⟨active, nonzero⟩]
    refine ⟨fun _ => by omega, fun stays => ?_⟩
    have unshelved : (s.point p).state ≠ .shelved := fun h' => stays (shelved.2 (Or.inl h'))
    have short : (s.fieldPoint p).chatter.val + 1 ≠ (s.conf.points.get p).threshold.val :=
      fun reached => stays (shelved.2 (Or.inr ⟨rfl, active, nonzero, reached, unshelved⟩))
    have below := h.2 unshelved
    omega
  · have quiet : ¬ Shelves s p := fun ⟨active, nonzero, _⟩ => counts ⟨active, nonzero⟩
    have stands : ((s.changed p).point p).state = .shelved ↔ (s.point p).state = .shelved := by simpa [quiet] using shelved
    rw [if_neg counts, ne_eq, stands]
    exact h

theorem chatterHolds_qualify {s : State} (hs : ChatterHolds s) (p : Point) : ChatterHolds (qualify p s) := by
  obtain ⟨holds, unset⟩ := hs
  have conf : (qualify p s).conf = s.conf := by simp [State.conf]
  have unchanged (q : Point) : (s.changed p).fieldPoint q = s.fieldPoint q := by unfold State.fieldPoint; rw [fiu_changed]
  refine ⟨fun q => ?_, fun h => ?_⟩
  · have point : (qualify p s).point q = (s.changed p).point q := by rw [qualify_eq]; rfl
    rw [conf, point, qualify_eq, State.fieldPoint_setFieldPoint, unchanged]
    by_cases same : q = p
    · subst same
      rw [if_pos rfl]
      exact shelvingHolds_counted (holds q)
    · rw [if_neg same, point_changed_of_ne same]
      exact holds q
  · have loading : s.mbu.mode = .loading := by simpa using h
    simpa using unset loading

theorem chatterHolds_drainStep {s : State} (hs : ChatterHolds s) : ChatterHolds (drainStep s) := by
  obtain ⟨holds, unset⟩ := hs
  have conf : (drainStep s).conf = s.conf := by simp [State.conf]
  have config : (drainStep s).config = s.config := by simp
  have mode : (drainStep s).mbu.mode = s.mbu.mode := by simp
  have field := fieldPoint_drainStep s
  have freed := fun p => point_drainStep_of_released (s := s) (p := p)
  have kept := fun p => point_drainStep_of_not_released (s := s) (p := p)
  generalize drainStep s = u at conf config mode field freed kept
  refine ⟨fun p => ?_, fun h => ?_⟩
  · have here := holds p
    obtain ⟨-, count⟩ := (s.fieldPoint p).drain_spec (s.conf.points.get p)
    rw [conf, field]
    by_cases released : (s.conf.points.get p).inUse = true ∧ (s.fieldPoint p).chatter.val = 1 ∧ (s.point p).state = .shelved
    · have state : (u.point p).state ≠ .shelved := by rw [freed p released]; dsimp only; split <;> decide
      obtain ⟨inUse, one, -⟩ := released
      exact shelvingHolds_of_zero (by rw [count, if_pos inUse, one]) state _
    · rw [kept p released, count]
      refine shelvingHolds_of_lower here (by split <;> omega) fun shelved => ?_
      have least : 1 ≤ (s.fieldPoint p).chatter.val := by
        unfold ShelvingHolds at here
        split at here
        exacts [absurd shelved here.2, here.1 shelved]
      split
      · have notOne : (s.fieldPoint p).chatter.val ≠ 1 := fun one => released ⟨‹_›, one, shelved⟩
        omega
      · exact least
  · rw [config]; exact unset (mode.symm.trans h)

/-- Where no configuration is in force no threshold stands: every count is 0 and no point SHELVED (R64). -/
theorem ChatterHolds.of_unset {s : State} (hs : ChatterHolds s) (unset : s.config = none) (p : Point) :
    (s.fieldPoint p).chatter.val = 0 ∧ (s.point p).state ≠ .shelved := by
  have zero : (s.conf.points.get p).threshold.val = 0 := by
    unfold State.conf
    rw [unset]
    show ((Tab.fill _ : Tab PointConfig).get p).threshold.val = 0
    rw [Tab.get_fill]
    rfl
  have here := hs.1 p
  unfold ShelvingHolds at here
  rwa [if_pos zero] at here

/-- The thresholds of an accepted configuration meet counts of 0 (R28, R189). -/
theorem chatterHolds_loadAccepted {s : State} (hs : ChatterHolds s) (loading : s.mbu.mode = .loading) (c : StationConfig) :
    ChatterHolds (loadAccepted c s) := by
  have start := hs.of_unset (hs.2 loading)
  refine ⟨fun p => ?_, fun h => absurd h (by simp)⟩
  obtain ⟨zero, unshelved⟩ := start p
  have field : (loadAccepted c s).fieldPoint p = s.fieldPoint p := by simp [loadAccepted, State.fieldPoint]
  have state : ((loadAccepted c s).point p).state = (s.point p).state := by simp [loadAccepted, State.point, PointRecord.configure]
  rw [field, state]
  exact shelvingHolds_of_zero zero unshelved _

theorem chatterHolds_coldState (low : Bool) (s : State) : ChatterHolds (coldState low s) := by
  refine ⟨fun p => ?_, fun _ => rfl⟩
  have field : (coldState low s).fieldPoint p = .cold := Tab.get_fill ..
  have point : (coldState low s).point p = .cold := Tab.get_fill ..
  rw [field, point]
  exact shelvingHolds_of_zero rfl (by decide) _

theorem chatterHolds_finishRead {s : State} (hs : ChatterHolds s) (reading : s.reading = true) (image : List Byte) :
    ChatterHolds (finishRead image s) := by
  have loading : s.mbu.mode = .loading := by
    simp only [State.reading, State.loadingRuns, Bool.and_eq_true, beq_iff_eq] at reading
    exact reading.1.2
  unfold finishRead
  split
  · exact (chatterHolds_loadAccepted hs loading _).settled
  · split
    · exact hs.of_stands shelvedStands_of_psq
    · exact hs.of_stands shelvedStands_of_psq

theorem FieldPoint.chatter_sample (c : PointConfig) (high : Bool) (f : FieldPoint) : (f.sample c high).chatter = f.chatter := by
  unfold FieldPoint.sample FieldPoint.compare
  (repeat' split) <;> rfl

theorem chatterHolds_takeTick {s : State} (hs : ChatterHolds s) (levels : BitVec 16) (l : ButtonLevels) : ChatterHolds (takeTick levels l s) := by
  refine hs.of_stands shelvedStands_of_psq (chatter := fun p => ?_)
  cases runs : s.runs with
  | false => rw [takeTick_of_idle runs, State.fieldPoint_ticked]
  | true => rw [takeTick_of_runs runs, fieldPoint_sampleInputs, FieldPoint.chatter_sample, State.fieldPoint_ticked]

theorem chatterHolds_chargeAttempt (c : Candidate) {s : State} (hs : ChatterHolds s) : ChatterHolds (chargeAttempt c s) :=
  hs.of_stands (recordsStand_chargeAttempt c s).shelved (loading := chargeAttempt_not_loading c)

theorem chatterHolds_deliver (cls : FrameClass) {s t : State} (hs : ChatterHolds s) (h : deliver cls s = .next t) : ChatterHolds t := by
  cases hd : s.deliverable cls with
  | none => rw [deliver_none hd] at h; cases h; exact hs
  | some e =>
    rw [deliver_some hd] at h
    cases h
    have staged : ChatterHolds (deliverStages e s) :=
      hs.of_stands (shelvedStands_deliverStages e s) (loading := fun hm => by simpa [deliverStages] using mbuStage_not_loading e hm)
    exact staged.of_stands shelvedStands_of_psq

/-! ## The commands -/

theorem chatterHolds_exec {c : Instr} {s t : State} (hs : ChatterHolds s) (h : exec c s = .next t) : ChatterHolds t := by
  have acts {cond : Bool} {f : State → State} (h : arise cond f s = .next t) (holds : cond = true → ChatterHolds (f s)) : ChatterHolds t :=
    arise_keeps (P := ChatterHolds) hs holds h
  have unmoved {cond : Bool} {f : State → State} (h : arise cond f s = .next t) (psq : (f s).psq = s.psq := by simp)
      (config : (f s).config = s.config := by simp) (fiu : (f s).fiu = s.fiu := by simp)
      (loading : s.mbu.mode ≠ .loading → (f s).mbu.mode ≠ .loading := by simp) : ChatterHolds t :=
    acts h (fun _ => hs.of_stands (shelvedStands_of_psq psq) config (fun p => by unfold State.fieldPoint; rw [fiu]) loading)
  cases c with
  | coldStart cause =>
    cases cause with
    | resetLow => rw [exec_coldStart_resetLow] at h; cases h; exact chatterHolds_coldState _ _
    | powerOn straps =>
      rw [exec_coldStart_powerOn] at h
      cases h
      exact (chatterHolds_coldState false s).of_stands (shelvedStands_of_psq rfl) rfl (fun _ => rfl) id
  | readStart => rw [exec_readStart] at h; exact unmoved h
  | readComplete image =>
    rw [exec_readComplete] at h
    split at h
    · exact acts h (fun reading => chatterHolds_finishRead hs reading image)
    · cases h
  | tick points buttons => rw [exec_tick] at h; exact acts h (fun _ => chatterHolds_takeTick hs points buttons)
  | countdownExpiry p =>
    rw [exec_countdownExpiry] at h
    exact acts h (fun _ => (chatterHolds_qualify hs p).settled)
  | drainTimerExpiry =>
    rw [exec_drainTimerExpiry] at h
    exact acts h (fun _ => (chatterHolds_drainStep hs).settled)
  | debounce b => rw [exec_debounce] at h; exact unmoved h
  | beginFrame =>
    rw [exec_beginFrame] at h
    unfold execBeginFrame at h
    split at h <;> cases h
    exacts [hs.of_stands shelvedStands_of_psq, hs]
  | loseContention =>
    rw [exec_loseContention] at h
    unfold execLoseContention at h
    split at h <;> cases h
    exacts [hs.of_stands shelvedStands_of_psq, hs]
  | winContention =>
    rw [exec_winContention] at h
    unfold execWinContention at h
    split at h <;> cases h
    exacts [(hs.of_stands (recordsStand_winContention _ s).shelved).settled, hs]
  | transmitError =>
    rw [exec_transmitError] at h
    unfold execTransmitError at h
    split at h <;> cases h
    · rename_i c _
      exact (chatterHolds_chargeAttempt c (s := s.setLine .receiving) (hs.of_stands shelvedStands_of_psq)).restarted
    · exact hs
  | idleWaitExpiry =>
    rw [exec_idleWaitExpiry] at h
    unfold execIdleWaitExpiry at h
    split at h <;> cases h
    exacts [(chatterHolds_chargeAttempt _ hs).restarted, hs]
  | frameCompletion =>
    rw [exec_frameCompletion] at h
    unfold execFrameCompletion at h
    split at h <;> cases h
    exacts [(hs.of_stands (recordsStand_completeFrame _ _ s).shelved (loading := completeFrame_not_loading _ _)).restarted, hs, hs, hs, hs]
  | frameReceived bytes =>
    rw [exec_frameReceived] at h
    split at h
    · exact unmoved h (loading := fun hm => by simpa using receiveFrame_not_loading bytes hm)
    · cases h
  | frameAbandoned reason =>
    rw [exec_frameAbandoned] at h
    refine acts h fun _ => ?_
    rcases abandonFrame_spec reason s with e | e <;> rw [e]
    · rw [(completeGap_spec s).1]; exact hs.of_stands (shelvedStands_of_psq rfl) rfl (fun _ => rfl) id
    · exact hs.of_stands shelvedStands_of_psq
  | addressClashHalt => rw [exec_addressClashHalt] at h; exact unmoved h
  | loopbackPassage =>
    rw [exec_loopbackPassage] at h
    exact acts h (fun _ => (hs.of_stands (recordsStand_passLooped s).shelved).settled)
  | deliverTimeMark => exact chatterHolds_deliver _ hs h
  | deliverState => exact chatterHolds_deliver _ hs h
  | deliverAck => exact chatterHolds_deliver _ hs h
  | deliverReset => exact chatterHolds_deliver _ hs h
  | deliverSnapshot => exact chatterHolds_deliver _ hs h
  | deliverReplay => exact chatterHolds_deliver _ hs h
  | deliverResyncRequest => exact chatterHolds_deliver _ hs h
  | deliverJoin => exact chatterHolds_deliver _ hs h
  | deliverHeartbeat => exact chatterHolds_deliver _ hs h
  | heartbeatTimerExpiry => rw [exec_heartbeatTimerExpiry] at h; exact unmoved h
  | silenceTimerExpiry st => rw [exec_silenceTimerExpiry] at h; exact unmoved h
  | resyncTimerExpiry st => rw [exec_resyncTimerExpiry] at h; exact unmoved h
  | replayTimerExpiry st => rw [exec_replayTimerExpiry] at h; exact unmoved h
  | joinWindowExpiry =>
    rw [exec_joinWindowExpiry] at h
    have closed : ChatterHolds (closeJoin s) := hs.of_stands (shelvedStands_of_psq rfl) rfl (fun _ => rfl) id
    exact acts h (fun _ => (closed.of_stands (shelvedStands_freshStart _)).settled)
  | probeTimerExpiry => rw [exec_probeTimerExpiry] at h; exact unmoved h
  | markTimerExpiry => rw [exec_markTimerExpiry] at h; exact unmoved h
  | stageTimerExpiry => rw [exec_stageTimerExpiry] at h; exact unmoved h
  | chimeTimerExpiry => rw [exec_chimeTimerExpiry] at h; exact unmoved h
  | logrdyChange high => rw [exec_logrdyChange] at h; cases h; exact hs.of_stands shelvedStands_of_psq
  | recordDeparture => rw [exec_recordDeparture] at h; exact unmoved h
  | resetRelease straps => rw [exec_resetRelease] at h; exact unmoved h rfl rfl rfl id
  | millisecond => rw [exec_millisecond] at h; exact unmoved h
  | idleGap =>
    rw [exec_idleGap] at h
    refine acts h fun _ => ?_
    rw [(completeGap_spec s).1]
    exact hs.of_stands (shelvedStands_of_psq rfl) rfl (fun _ => rfl) id

/-- Settles O53: the ACTIVATEs and the drain step move count and state together, the other commands neither of them, and an
accepted configuration meets counts of 0. -/
theorem stepsKeepShelving : Obligations.StepsKeepShelving := by
  intro s s' hs h
  exact step_keeps (fun _ _ hs => hs) (fun _ _ _ hs he => chatterHolds_exec hs he) hs h

end Sys2Proof.Machine
end

section
/-! The idle-wait timer through every command: a command settles or restarts it, or moves nothing that its conditions look at
(R78, R87, R93). -/
namespace Sys2Proof.Machine
-- The proofs are elaborated one after another, as in the tests: elaborated at once they exceed the memory of the check.
set_option Elab.async false

/-- Settled against its conditions the timer runs exactly under them, whatever it was before (R78). -/
theorem idleWaitHolds_settled (s : State) : IdleWaitHolds (settleIdleWait s) := by
  obtain ⟨due, idle⟩ := settleIdleWait_spec s
  unfold IdleWaitHolds
  rw [idleWaitRuns_iff]
  by_cases h : IdleWaitDue (settleIdleWait s)
  · refine iff_of_true ?_ h
    rw [due h]
    cases s.bus.idleWait <;> exact ⟨_, _, rfl⟩
  · exact iff_of_false (by rw [idle h]; simp) h

theorem idleWaitHolds_restarted (s : State) : IdleWaitHolds (restartIdleWait s) := idleWaitHolds_settled _

/-- The timer and its conditions look at the Bus Interface and the station mode alone. -/
theorem IdleWaitHolds.of_same {s t : State} (hs : IdleWaitHolds s) (bus : t.bus = s.bus := by simp)
    (mode : t.mbu.mode = s.mbu.mode := by simp) : IdleWaitHolds t := by
  unfold IdleWaitHolds State.idleWaitRuns State.onLine State.runs at hs ⊢
  rw [bus, mode]
  exact hs

/-- Where the units do not run, a stopped timer is as R78 asks. -/
theorem idleWaitHolds_of_stopped {s : State} (timer : s.bus.idleWait = .stopped) (stopped : s.runs = false) : IdleWaitHolds s :=
  iff_of_false (by rw [timer]; simp) (by simp [State.idleWaitRuns, State.onLine, stopped])

theorem idleWaitHolds_enterHalted (cause : HaltCause) (s : State) : IdleWaitHolds (enterHalted cause s) :=
  idleWaitHolds_of_stopped (by simp [enterHalted]) (by simp [State.runs, Mode.runs])

theorem idleWaitHolds_coldState (low : Bool) (s : State) : IdleWaitHolds (coldState low s) := idleWaitHolds_of_stopped rfl rfl

theorem idleWaitHolds_finishRead {s : State} (hs : IdleWaitHolds s) (image : List Byte) : IdleWaitHolds (finishRead image s) := by
  unfold finishRead
  split
  · exact idleWaitHolds_settled _
  · split
    · exact hs.of_same
    · exact idleWaitHolds_enterHalted ..

theorem idleWaitHolds_abandonFrame (reason : AbandonReason) (s : State) : IdleWaitHolds (abandonFrame reason s) := by
  rcases abandonFrame_spec reason s with e | e <;> rw [e]
  exacts [idleWaitHolds_restarted _, idleWaitHolds_settled _]

theorem idleWaitHolds_deliver (cls : FrameClass) {s t : State} (hs : IdleWaitHolds s) (h : deliver cls s = .next t) : IdleWaitHolds t := by
  cases hd : s.deliverable cls with
  | none => rw [deliver_none hd] at h; cases h; exact hs
  | some e => rw [deliver_some hd] at h; cases h; exact idleWaitHolds_settled _

theorem idleWaitHolds_exec {c : Instr} {s t : State} (hs : IdleWaitHolds s) (h : exec c s = .next t) : IdleWaitHolds t := by
  have settles {cond : Bool} {f : State → State} : arise cond (fun s => settleIdleWait (f s)) s = .next t → IdleWaitHolds t :=
    arise_keeps hs fun _ => idleWaitHolds_settled _
  cases c with
  | coldStart cause =>
    cases cause with
    | resetLow => rw [exec_coldStart_resetLow] at h; cases h; exact idleWaitHolds_coldState _ _
    | powerOn straps => rw [exec_coldStart_powerOn] at h; cases h; exact (idleWaitHolds_coldState false s).of_same rfl rfl
  | readStart => rw [exec_readStart] at h; exact arise_keeps hs (fun _ => hs.of_same) h
  | readComplete image =>
    rw [exec_readComplete] at h
    split at h
    · exact arise_keeps hs (fun _ => idleWaitHolds_finishRead hs image) h
    · cases h
  | tick points buttons => rw [exec_tick] at h; exact arise_keeps hs (fun _ => hs.of_same) h
  | countdownExpiry p => exact settles h
  | drainTimerExpiry => exact settles h
  | debounce b => exact settles h
  | beginFrame =>
    rw [exec_beginFrame] at h
    unfold execBeginFrame at h
    split at h <;> cases h
    exacts [idleWaitHolds_settled _, hs]
  | loseContention =>
    rw [exec_loseContention] at h
    unfold execLoseContention at h
    split at h <;> cases h
    exacts [idleWaitHolds_settled _, hs]
  | winContention =>
    rw [exec_winContention] at h
    unfold execWinContention at h
    split at h <;> cases h
    exacts [idleWaitHolds_settled _, hs]
  | transmitError =>
    rw [exec_transmitError] at h
    unfold execTransmitError at h
    split at h <;> cases h
    exacts [idleWaitHolds_restarted _, hs]
  | idleWaitExpiry =>
    rw [exec_idleWaitExpiry] at h
    unfold execIdleWaitExpiry at h
    split at h <;> cases h
    exacts [idleWaitHolds_restarted _, hs]
  | frameCompletion =>
    rw [exec_frameCompletion] at h
    unfold execFrameCompletion at h
    split at h <;> cases h
    exacts [idleWaitHolds_restarted _, hs, hs, hs, hs]
  | frameReceived bytes =>
    rw [exec_frameReceived] at h
    split at h
    · exact settles h
    · cases h
  | frameAbandoned reason => rw [exec_frameAbandoned] at h; exact arise_keeps hs (fun _ => idleWaitHolds_abandonFrame ..) h
  | addressClashHalt => rw [exec_addressClashHalt] at h; exact arise_keeps hs (fun _ => idleWaitHolds_enterHalted ..) h
  | loopbackPassage => exact settles h
  | deliverTimeMark => exact idleWaitHolds_deliver _ hs h
  | deliverState => exact idleWaitHolds_deliver _ hs h
  | deliverAck => exact idleWaitHolds_deliver _ hs h
  | deliverReset => exact idleWaitHolds_deliver _ hs h
  | deliverSnapshot => exact idleWaitHolds_deliver _ hs h
  | deliverReplay => exact idleWaitHolds_deliver _ hs h
  | deliverResyncRequest => exact idleWaitHolds_deliver _ hs h
  | deliverJoin => exact idleWaitHolds_deliver _ hs h
  | deliverHeartbeat => exact idleWaitHolds_deliver _ hs h
  | heartbeatTimerExpiry => exact settles h
  | silenceTimerExpiry st => rw [exec_silenceTimerExpiry] at h; exact arise_keeps hs (fun _ => hs.of_same) h
  | resyncTimerExpiry st => exact settles h
  | replayTimerExpiry st => exact settles h
  | joinWindowExpiry => exact settles (f := fun s => freshStart (closeJoin s)) h
  | probeTimerExpiry => exact settles h
  | markTimerExpiry => exact settles h
  | stageTimerExpiry => rw [exec_stageTimerExpiry] at h; exact arise_keeps hs (fun _ => hs.of_same) h
  | chimeTimerExpiry => rw [exec_chimeTimerExpiry] at h; exact arise_keeps hs (fun _ => hs.of_same) h
  | logrdyChange high => rw [exec_logrdyChange] at h; cases h; exact hs.of_same
  | recordDeparture => rw [exec_recordDeparture] at h; exact arise_keeps hs (fun _ => hs.of_same) h
  | resetRelease straps => rw [exec_resetRelease] at h; exact arise_keeps hs (fun _ => hs.of_same rfl rfl) h
  | millisecond => rw [exec_millisecond] at h; exact arise_keeps hs (fun _ => hs.of_same) h
  | idleGap => rw [exec_idleGap] at h; exact arise_keeps hs (fun _ => idleWaitHolds_abandonFrame .idleGapBeforeEnd s) h

/-- Settles O55: a command settles the timer against its conditions, or touches neither. -/
theorem stepsKeepTheIdleWait : Obligations.StepsKeepTheIdleWait := by
  intro s s' hs h
  exact step_keeps (fun _ _ hs => hs) (fun _ _ _ hs he => idleWaitHolds_exec hs he) hs h

end Sys2Proof.Machine
end

section
/-! The journal through every command: a record offered, begun or departed keeps its limits (R166, R171, R172, R175). -/
namespace Sys2Proof.Machine
set_option Elab.async false

/-! ## One record -/

theorem JournalHolds.of_same {s t : State} (hs : JournalHolds s.jnl) (jnl : t.jnl = s.jnl := by simp) : JournalHolds t.jnl := by
  rw [jnl]; exact hs

theorem JournalHolds.settled {s : State} (hs : JournalHolds s.jnl) : JournalHolds (settleIdleWait s).jnl := hs.of_same

theorem JournalHolds.restarted {s : State} (hs : JournalHolds s.jnl) : JournalHolds (restartIdleWait s).jnl := hs.of_same

/-- The record that begins is the journal's head (R175). -/
theorem journalHolds_beginRecord {s : State} (hs : JournalHolds s.jnl) : JournalHolds (beginRecord s).jnl := by
  obtain ⟨length, full, limit, -⟩ := id hs
  unfold beginRecord
  split
  · split
    · exact hs
    · rename_i stands
      exact ⟨length, full, limit, fun _ empty => by rw [State.setJnl_jnl, stands] at empty; cases empty⟩
  · exact hs

/-- A record taken finds a journal that has dropped none, and a record dropped a full one (R171). -/
theorem journalHolds_offer {j : Jnl} (hj : JournalHolds j) (r : JournalRecord) : JournalHolds (j.offer r) := by
  obtain ⟨length, full, limit, begun⟩ := hj
  unfold Jnl.offer Config.journalSize Config.droppedLimit
  split_ifs with room
  · refine ⟨by simpa using room, fun dropped => ?_, limit, by simp⟩
    have := full dropped; omega
  · exact ⟨length, fun _ => by have : j.journal.length = 64 := by omega
                               exact this, Nat.min_le_right .., begun⟩

/-- The head leaves, and a GAP record takes its place where records were dropped (R172). -/
theorem journalHolds_depart {j : Jnl} (hj : JournalHolds j) (now : Millis) : JournalHolds (j.depart now) := by
  obtain ⟨length, full, limit, -⟩ := hj
  unfold Jnl.depart
  dsimp only
  split_ifs with none
  · exact ⟨by simp; omega, fun h => absurd none h, limit, by simp⟩
  · have := full none
    exact ⟨by simp; omega, fun h => absurd rfl h, Nat.zero_le _, by simp⟩

theorem journalHolds_offerRecord {s : State} (hs : JournalHolds s.jnl) (r : JournalRecord) : JournalHolds (offerRecord r s).jnl :=
  journalHolds_beginRecord (journalHolds_offer hs r)

theorem journalHolds_departRecord {s : State} (hs : JournalHolds s.jnl) : JournalHolds (departRecord s).jnl :=
  journalHolds_beginRecord (journalHolds_depart hs s.tmb.groupTime)

theorem journalHolds_changeMode {s : State} (hs : JournalHolds s.jnl) (m : Mode) (cause : ModeCause) : JournalHolds (changeMode m cause s).jnl :=
  journalHolds_offerRecord (s := s.setMode m) hs _

/-! ## The units' notices -/

theorem journalHolds_claimStatus {s : State} (hs : JournalHolds s.jnl) (f : CopyStatus → CopyStatus) (n : JournalRecord) (st : Addr) :
    JournalHolds (claimStatus f n st s).jnl := by
  unfold claimStatus
  split
  · exact journalHolds_offerRecord (hs.of_same) _
  · exact hs

theorem journalHolds_declareAbsent {s : State} (hs : JournalHolds s.jnl) (st : Addr) : JournalHolds (declareAbsent st s).jnl :=
  journalHolds_claimStatus (s := s.setMember st (s.member st).gone) hs ..

theorem journalHolds_applicationNotices {s : State} (hs : JournalHolds s.jnl) (old : Gat) (st : Addr) (points : List Point) (count : Count) :
    JournalHolds (applicationNotices old st points count s).jnl := by
  unfold applicationNotices
  refine foldl_invariant (fun u : State => JournalHolds u.jnl) _ (fun u p hu => ?_) _ _ ?_
  · unfold journalNotice
    dsimp only
    split
    · exact journalHolds_offerRecord hu _
    · exact hu
  · split <;> exact hs.of_same

theorem journalHolds_gtuStage {s : State} (hs : JournalHolds s.jnl) (f : Frame) : JournalHolds (gtuStage f s).jnl := by
  unfold gtuStage
  cases f.body with
  | state b => exact journalHolds_applicationNotices (s := s.setGat (applyState f.src b s.gat)) hs ..
  | snapshot es => exact journalHolds_applicationNotices (s := s.setGat (applySnapshot f.src es s.gat)) hs ..
  | join mask => exact journalHolds_claimStatus hs ..
  | _ => exact hs

theorem journalHolds_streamHeard {s : State} (hs : JournalHolds s.jnl) (st : Addr) (c : SeqNo) (b : Body) : JournalHolds (streamHeard st c b s).jnl := by
  unfold streamHeard
  dsimp only
  split
  · exact journalHolds_claimStatus (hs.of_same) ..
  · exact hs

theorem journalHolds_joinHeard {s : State} (hs : JournalHolds s.jnl) (st : Addr) (c : SeqNo) (mask : BitVec 16) :
    JournalHolds (joinHeard st c mask s).jnl := by
  unfold joinHeard
  dsimp only
  split
  · have marked (m : Member) : JournalHolds (claimStale st (s.setMember st m)).jnl := journalHolds_claimStatus (s := s.setMember st m) hs ..
    simpa using marked _
  · exact hs

theorem journalHolds_snapshotHeard {s : State} (hs : JournalHolds s.jnl) (st : Addr) (c : SeqNo) : JournalHolds (snapshotHeard st c s).jnl := by
  unfold snapshotHeard
  dsimp only
  split
  · exact journalHolds_offerRecord (s := s.setMember ..) hs _
  · exact hs

theorem journalHolds_peerHeard {s : State} (hs : JournalHolds s.jnl) (f : Frame) : JournalHolds (peerHeard f s).jnl := by
  have started : JournalHolds (restartSilence f.src s).jnl := hs
  unfold peerHeard
  dsimp only
  split
  · exact hs
  · cases f.body with
    | join mask => exact journalHolds_joinHeard started ..
    | snapshot es => exact journalHolds_snapshotHeard started ..
    | _ => exact journalHolds_streamHeard started ..

theorem journalHolds_mbuStage {s : State} (hs : JournalHolds s.jnl) (e : RxEntry) : JournalHolds (mbuStage e s).jnl := by
  unfold mbuStage
  split
  · exact (journalHolds_peerHeard hs e.frame).of_same
  · unfold ownHeard
    cases e.frame.body with
    | snapshot es =>
      dsimp only
      split
      · exact journalHolds_changeMode hs ..
      · exact hs
    | _ => exact hs.of_same

theorem journalHolds_deliver (cls : FrameClass) {s t : State} (hs : JournalHolds s.jnl) (h : deliver cls s = .next t) : JournalHolds t.jnl := by
  cases hd : s.deliverable cls with
  | none => rw [deliver_none hd] at h; cases h; exact hs
  | some e =>
    rw [deliver_some hd] at h
    cases h
    exact (journalHolds_gtuStage (journalHolds_mbuStage hs e) e.frame).of_same (by unfold deliverStages; simp)

/-! ## The mode changes -/

theorem journalHolds_afterDiscard {s : State} (hs : JournalHolds s.jnl) : JournalHolds (afterDiscard s).jnl := by
  unfold afterDiscard
  dsimp only
  split
  · refine JournalHolds.of_same (s := enterIsolated (countDiscard s)) ?_
    unfold enterIsolated
    dsimp only
    split <;> exact (journalHolds_changeMode (s := countDiscard s) (hs.of_same) .isolated .transmitFailure).of_same
  · exact hs.of_same

theorem journalHolds_chargeAttempt {s : State} (hs : JournalHolds s.jnl) (c : Candidate) : JournalHolds (chargeAttempt c s).jnl := by
  unfold chargeAttempt
  cases c with
  | markSlot =>
    dsimp only
    (repeat' split)
    exacts [hs, hs, journalHolds_afterDiscard (hs.of_same)]
  | heartbeatSlot =>
    dsimp only
    (repeat' split)
    exacts [hs, hs, hs, journalHolds_afterDiscard hs]
  | queueHead =>
    dsimp only
    (repeat' split)
    exacts [hs, hs, journalHolds_afterDiscard (hs.of_same)]

theorem journalHolds_exitIsolated {s : State} (hs : JournalHolds s.jnl) : JournalHolds (exitIsolated s).jnl := by
  have changed (m : Mode) := journalHolds_changeMode (s := s.setBif { s.bus with streak := 0, probe := .stopped }) hs m .probeComplete
  unfold exitIsolated
  dsimp only
  split
  · refine (changed .joining).of_same ?_
    split <;> simp
  · exact (changed .active).of_same
  · exact (changed .active).of_same

theorem journalHolds_completeFrame {s : State} (hs : JournalHolds s.jnl) (c : Candidate) (f : Frame) : JournalHolds (completeFrame c f s).jnl := by
  have released : JournalHolds (releaseCandidate c f (receive f .line (s.setLine .seeking))).jnl := hs.of_same
  unfold completeFrame
  dsimp only
  generalize releaseCandidate c f (receive f .line (s.setLine .seeking)) = u at released ⊢
  split
  · exact journalHolds_exitIsolated (s := u.setBif { u.bus with streak := 0 }) released
  · exact JournalHolds.of_same (s := u) released

theorem journalHolds_enterHalted {s : State} (hs : JournalHolds s.jnl) (cause : HaltCause) : JournalHolds (enterHalted cause s).jnl :=
  journalHolds_changeMode (hs.of_same) ..

theorem journalHolds_receiveFrame {s : State} (hs : JournalHolds s.jnl) (bytes : List Byte) : JournalHolds (receiveFrame bytes s).jnl := by
  unfold receiveFrame
  dsimp only
  split
  · exact hs
  · split
    · unfold clashFound
      dsimp only
      split
      · exact journalHolds_enterHalted (by exact hs) _
      · exact hs
    · split <;> exact hs

theorem journalHolds_loadAccepted {s : State} (hs : JournalHolds s.jnl) (c : StationConfig) : JournalHolds (loadAccepted c s).jnl := by
  unfold loadAccepted
  simp only [claimJoin_frame]
  refine journalHolds_changeMode ?_ ..
  exact hs

theorem journalHolds_finishRead {s : State} (hs : JournalHolds s.jnl) (image : List Byte) : JournalHolds (finishRead image s).jnl := by
  unfold finishRead
  split
  · exact (journalHolds_loadAccepted hs _).settled
  · split
    · exact hs
    · exact journalHolds_enterHalted (s := s.setLoader { s.loader with load := .refused }) hs _

/-! ## The commands -/

theorem journalHolds_coldState (low : Bool) (s : State) : JournalHolds (coldState low s).jnl := by
  refine ⟨?_, fun h => absurd rfl h, Nat.zero_le _, fun h => absurd h Bool.false_ne_true⟩
  exact (by decide : 1 ≤ 64)

theorem journalHolds_exec {c : Instr} {s t : State} (hs : JournalHolds s.jnl) (h : exec c s = .next t) : JournalHolds t.jnl := by
  have silent {cond : Bool} {f : State → State} (eff : (f s).jnl = s.jnl) : arise cond f s = .next t → JournalHolds t.jnl :=
    arise_keeps (P := fun u => JournalHolds u.jnl) hs fun _ => hs.of_same eff
  have writes {cond : Bool} {f : State → State} (eff : JournalHolds (f s).jnl) : arise cond f s = .next t → JournalHolds t.jnl :=
    arise_keeps (P := fun u => JournalHolds u.jnl) hs fun _ => eff
  cases c with
  | coldStart cause =>
    cases cause with
    | resetLow => rw [exec_coldStart_resetLow] at h; cases h; exact journalHolds_coldState _ _
    | powerOn straps => rw [exec_coldStart_powerOn] at h; cases h; exact journalHolds_coldState false s
  | readStart => rw [exec_readStart] at h; exact silent rfl h
  | readComplete image =>
    rw [exec_readComplete] at h
    split at h
    · exact writes (journalHolds_finishRead hs image) h
    · cases h
  | tick points buttons => rw [exec_tick] at h; exact silent (by simp) h
  | countdownExpiry p => rw [exec_countdownExpiry] at h; exact silent (by simp) h
  | drainTimerExpiry => rw [exec_drainTimerExpiry] at h; exact silent (by simp) h
  | debounce b => rw [exec_debounce] at h; exact silent (by simp) h
  | beginFrame => rw [exec_beginFrame] at h; unfold execBeginFrame at h; split at h <;> cases h <;> exact hs.of_same
  | loseContention => rw [exec_loseContention] at h; unfold execLoseContention at h; split at h <;> cases h <;> exact hs.of_same
  | winContention => rw [exec_winContention] at h; unfold execWinContention at h; split at h <;> cases h <;> exact hs.of_same
  | transmitError =>
    rw [exec_transmitError] at h
    unfold execTransmitError at h
    split at h <;> cases h
    · exact (journalHolds_chargeAttempt (s := s.setLine .receiving) hs _).restarted
    · exact hs
  | idleWaitExpiry =>
    rw [exec_idleWaitExpiry] at h
    unfold execIdleWaitExpiry at h
    split at h <;> cases h
    exacts [(journalHolds_chargeAttempt hs _).restarted, hs]
  | frameCompletion =>
    rw [exec_frameCompletion] at h
    unfold execFrameCompletion at h
    split at h <;> cases h
    exacts [(journalHolds_completeFrame hs _ _).restarted, hs, hs, hs, hs]
  | frameReceived bytes =>
    rw [exec_frameReceived] at h
    split at h
    · exact writes (journalHolds_receiveFrame hs bytes).settled h
    · cases h
  | frameAbandoned reason =>
    rw [exec_frameAbandoned] at h
    refine silent ?_ h
    rcases abandonFrame_spec reason s with e | e <;> simp [e, completeGap]
  | addressClashHalt => rw [exec_addressClashHalt] at h; exact writes (journalHolds_enterHalted hs _) h
  | loopbackPassage => rw [exec_loopbackPassage] at h; exact silent (by simp) h
  | deliverTimeMark => exact journalHolds_deliver _ hs h
  | deliverState => exact journalHolds_deliver _ hs h
  | deliverAck => exact journalHolds_deliver _ hs h
  | deliverReset => exact journalHolds_deliver _ hs h
  | deliverSnapshot => exact journalHolds_deliver _ hs h
  | deliverReplay => exact journalHolds_deliver _ hs h
  | deliverResyncRequest => exact journalHolds_deliver _ hs h
  | deliverJoin => exact journalHolds_deliver _ hs h
  | deliverHeartbeat => exact journalHolds_deliver _ hs h
  | heartbeatTimerExpiry => rw [exec_heartbeatTimerExpiry] at h; exact silent (by simp) h
  | silenceTimerExpiry st => rw [exec_silenceTimerExpiry] at h; exact writes (journalHolds_declareAbsent hs st) h
  | resyncTimerExpiry st =>
    rw [exec_resyncTimerExpiry] at h
    refine writes (JournalHolds.of_same (s := resyncExpired st s) ?_) h
    unfold resyncExpired
    split
    · exact hs.of_same (by simp [renewWait])
    · exact journalHolds_declareAbsent hs st
  | replayTimerExpiry st => rw [exec_replayTimerExpiry] at h; exact silent (by simp) h
  | joinWindowExpiry => rw [exec_joinWindowExpiry] at h; exact silent (by simp) h
  | probeTimerExpiry => rw [exec_probeTimerExpiry] at h; exact silent (by simp) h
  | markTimerExpiry => rw [exec_markTimerExpiry] at h; exact silent (by simp) h
  | stageTimerExpiry => rw [exec_stageTimerExpiry] at h; exact silent (by simp) h
  | chimeTimerExpiry => rw [exec_chimeTimerExpiry] at h; exact silent (by simp) h
  | logrdyChange high => rw [exec_logrdyChange] at h; cases h; exact journalHolds_beginRecord (s := s.setPins _) hs
  | recordDeparture => rw [exec_recordDeparture] at h; exact writes (journalHolds_departRecord hs) h
  | resetRelease straps => rw [exec_resetRelease] at h; exact silent rfl h
  | millisecond => rw [exec_millisecond] at h; exact silent rfl h
  | idleGap => rw [exec_idleGap] at h; exact silent (by simp [completeGap]) h

end Sys2Proof.Machine
end

section
/-! The receive queue through every command: a frame enters only where a place is free, and an own attempt begins only beside
one (R84, R85, R89). -/
namespace Sys2Proof.Machine
set_option Elab.async false

/-! ## The line through a delivery -/

/-- A withdrawal can only end an own attempt (log entry 9). -/
theorem own_withdrawn {c : Candidate} {l : Line} (h : (l.withdrawn c).own.isSome = true) : l.own.isSome = true := by
  cases l with
  | contending c' => rfl
  | sending c' f => rfl
  | _ => exact h

theorem own_withdrawReplay {a : Addr} {s : State} (h : (withdrawReplay a s).bus.line.own.isSome = true) : s.bus.line.own.isSome = true := by
  unfold withdrawReplay at h
  dsimp only at h
  split at h
  · simp only [offers_fields, State.setQueue_bus, State.setLine_bus] at h
    split at h
    exacts [own_withdrawn h, h]
  · exact h

theorem own_peerClassHandling {e : RxEntry} {s : State} :
    (peerClassHandling e s).bus.line.own.isSome = true → s.bus.line.own.isSome = true := by
  unfold peerClassHandling
  cases e.frame.body with
  | replay target es => dsimp only; split <;> exact own_withdrawReplay
  | resyncRequest target => dsimp only; split <;> simp
  | _ => exact id

theorem own_ownHeard {e : RxEntry} {s : State} : (ownHeard e s).bus.line.own.isSome = true → s.bus.line.own.isSome = true := by
  unfold ownHeard
  cases e.frame.body with
  | join mask => simp
  | snapshot es => dsimp only; split <;> simp
  | replay target es => exact own_withdrawReplay
  | _ => exact id

theorem own_mbuStage {e : RxEntry} {s : State} : (mbuStage e s).bus.line.own.isSome = true → s.bus.line.own.isSome = true := by
  have heard : (peerHeard e.frame s).bus.line = s.bus.line := by simp
  unfold mbuStage
  split
  · rw [← heard]; exact own_peerClassHandling
  · exact own_ownHeard

theorem own_withdrawMark {s : State} (h : (withdrawMark s).bus.line.own.isSome = true) : s.bus.line.own.isSome = true := by
  unfold withdrawMark at h
  (repeat' split at h)
  exacts [h, h, own_withdrawn h]

theorem own_tmbStage {f : Frame} {s : State} : (tmbStage f s).bus.line.own.isSome = true → s.bus.line.own.isSome = true := by
  unfold tmbStage
  cases f.body with
  | timeMark carried => exact own_withdrawMark (s := s.setTmb _)
  | _ => exact id

theorem own_deliverStages {e : RxEntry} {s : State} (h : (deliverStages e s).bus.line.own.isSome = true) : s.bus.line.own.isSome = true := by
  have between := own_tmbStage h
  rw [(psqStage_fields ..).1, (gtuStage_frame ..).2.2.2.2.2.2.2.1] at between
  exact own_mbuStage between

/-! ## The invariant through the operations -/

theorem ReceiveQueueHolds.of_same {s t : State} (hs : ReceiveQueueHolds s.bus) (rx : t.bus.rx = s.bus.rx := by simp)
    (line : t.bus.line = s.bus.line := by simp) : ReceiveQueueHolds t.bus := by
  unfold ReceiveQueueHolds at hs ⊢
  rw [rx, line]
  exact hs

theorem ReceiveQueueHolds.settled {s : State} (hs : ReceiveQueueHolds s.bus) : ReceiveQueueHolds (settleIdleWait s).bus := hs.of_same

theorem ReceiveQueueHolds.restarted {s : State} (hs : ReceiveQueueHolds s.bus) : ReceiveQueueHolds (restartIdleWait s).bus := hs.of_same

theorem receiveQueueHolds_of_idle {b : Bif} (limit : b.rx.length ≤ 6) (idle : b.line.own = none) : ReceiveQueueHolds b :=
  ⟨limit, by rw [idle]; exact nofun⟩

/-- A place of the receive queue is free where the station is not held off (R85). -/
theorem free_of_not_heldOff {b : Bif} (h : b.heldOff = false) : b.rx.length < 6 := by
  unfold Bif.heldOff at h
  rw [Bool.not_eq_false', decide_eq_true_eq] at h
  exact h

/-- A frame of another enters while none of the station's own is on the line. -/
theorem receiveQueueHolds_receive {s : State} (free : s.bus.rx.length < 6) (idle : s.bus.line.own = none) (f : Frame) (o : Origin) :
    ReceiveQueueHolds (receive f o s).bus :=
  receiveQueueHolds_of_idle (by simp [receive]; omega) (by simpa using idle)

theorem receiveQueueHolds_completeFrame {s : State} (hs : ReceiveQueueHolds s.bus) {c : Candidate} {f : Frame} (line : s.bus.line = .sending c f) :
    ReceiveQueueHolds (completeFrame c f s).bus := by
  obtain ⟨-, free⟩ := hs
  have free := free (by rw [line]; rfl)
  have taken : ReceiveQueueHolds (receive f .line (s.setLine .seeking)).bus := receiveQueueHolds_receive (by exact free) rfl f .line
  have released : ReceiveQueueHolds (releaseCandidate c f (receive f .line (s.setLine .seeking))).bus := taken.of_same
  unfold completeFrame
  dsimp only
  generalize releaseCandidate c f (receive f .line (s.setLine .seeking)) = u at released ⊢
  split <;> exact ReceiveQueueHolds.of_same (s := u) released

theorem receiveQueueHolds_enterHalted {s : State} (limit : s.bus.rx.length ≤ 6) (cause : HaltCause) : ReceiveQueueHolds (enterHalted cause s).bus :=
  receiveQueueHolds_of_idle (by simpa using limit) (by simp [enterHalted, Line.own])

theorem receiveQueueHolds_receiveFrame {s : State} (limit : s.bus.rx.length ≤ 6) (bytes : List Byte) : ReceiveQueueHolds (receiveFrame bytes s).bus := by
  have left : ReceiveQueueHolds (s.setLine .seeking).bus := receiveQueueHolds_of_idle limit rfl
  unfold receiveFrame
  dsimp only
  split
  · exact left
  · split
    · unfold clashFound
      dsimp only
      split
      · exact receiveQueueHolds_enterHalted (by exact limit) _
      · exact receiveQueueHolds_of_idle limit rfl
    · split
      · exact left
      · rename_i place
        exact receiveQueueHolds_receive (free_of_not_heldOff (by simpa using place)) rfl ..

/-- A looped-back head passes on a live line, where a place is free and no own attempt is in progress (R89). -/
theorem passing_iff (s : State) (e : TxEntry) (rest : List TxEntry) : s.passing = some (e, rest) ↔
    s.bus.queue = e :: rest ∧ e.disposition = .loopedBack ∧ s.bus.heldOff = false ∧ s.bus.line.own = none ∧ s.onLine = true := by
  unfold State.passing
  cases s.bus.queue with
  | nil => simp
  | cons x xs =>
    simp only [Option.ite_none_right_eq_some, Bool.and_eq_true, beq_iff_eq, Bool.not_eq_true', Option.isNone_iff_eq_none, Option.some.injEq,
      Prod.mk.injEq, List.cons.injEq]
    constructor
    · rintro ⟨⟨⟨⟨looped, place⟩, idle⟩, live⟩, rfl, rfl⟩; exact ⟨⟨rfl, rfl⟩, looped, place, idle, live⟩
    · rintro ⟨⟨rfl, rfl⟩, looped, place, idle, live⟩; exact ⟨⟨⟨⟨looped, place⟩, idle⟩, live⟩, rfl, rfl⟩

theorem receiveQueueHolds_passLooped {s : State} (hs : ReceiveQueueHolds s.bus) : ReceiveQueueHolds (passLooped s).bus := by
  unfold passLooped
  split
  · exact hs
  · rename_i e rest passing
    split
    · exact hs
    · rename_i f looped
      obtain ⟨-, -, place, idle, -⟩ := (passing_iff ..).1 passing
      have received := receiveQueueHolds_receive (s := s.setQueue rest) (free_of_not_heldOff place) idle f .loopback
      exact received.of_same

theorem receiveQueueHolds_deliver (cls : FrameClass) {s t : State} (hs : ReceiveQueueHolds s.bus) (h : deliver cls s = .next t) :
    ReceiveQueueHolds t.bus := by
  cases hd : s.deliverable cls with
  | none => rw [deliver_none hd] at h; cases h; exact hs
  | some e =>
    rw [deliver_some hd] at h
    cases h
    obtain ⟨limit, free⟩ := hs
    have shorter := s.bus.rx.length_tail
    have rx : (endDelivery (deliverStages e s)).bus.rx = s.bus.rx.tail := by
      rw [endDelivery_eq]; exact congrArg List.tail (by simp)
    refine ⟨by rw [rx]; omega, fun own => ?_⟩
    rw [(endDelivery_fields _).1] at own
    have := free (own_deliverStages own)
    rw [rx]; omega

theorem receiveQueueHolds_finishRead {s : State} (hs : ReceiveQueueHolds s.bus) (image : List Byte) : ReceiveQueueHolds (finishRead image s).bus := by
  unfold finishRead
  split
  · refine ReceiveQueueHolds.settled (receiveQueueHolds_of_idle (by simpa using hs.1) ?_)
    simp [loadAccepted, Line.own]
  · split
    · exact hs
    · exact receiveQueueHolds_enterHalted (s := s.setLoader { s.loader with load := .refused }) hs.1 _

/-! ## The commands -/

/-- A frame begins only where the station is not held off (R85). -/
theorem place_of_beginsWith {s : State} {c : Candidate} (h : s.beginsWith = some c) : s.bus.rx.length < 6 := by
  unfold State.beginsWith at h
  split at h
  · rename_i may
    simp only [Bool.and_eq_true, Bool.not_eq_true'] at may
    exact free_of_not_heldOff may.2
  · cases h

theorem contender_iff (s : State) (c : Candidate) : s.contender = some c ↔ s.bus.line = .contending c := by
  unfold State.contender
  cases s.bus.line <;> simp

theorem receiveQueueHolds_exec {c : Instr} {s t : State} (hs : ReceiveQueueHolds s.bus) (h : exec c s = .next t) : ReceiveQueueHolds t.bus := by
  have takes {cond : Bool} {f : State → State} (eff : ReceiveQueueHolds (f s).bus) : arise cond f s = .next t → ReceiveQueueHolds t.bus :=
    arise_keeps (P := fun u => ReceiveQueueHolds u.bus) hs fun _ => eff
  have left (l : Line) (idle : l.own = none) : ReceiveQueueHolds (s.setLine l).bus := receiveQueueHolds_of_idle hs.1 idle
  cases c with
  | coldStart cause =>
    have cold (low : Bool) : ReceiveQueueHolds (coldState low s).bus := receiveQueueHolds_of_idle (Nat.zero_le 6) rfl
    cases cause with
    | resetLow => rw [exec_coldStart_resetLow] at h; cases h; exact cold true
    | powerOn straps => rw [exec_coldStart_powerOn] at h; cases h; exact cold false
  | readStart => rw [exec_readStart] at h; exact takes (by exact hs) h
  | readComplete image =>
    rw [exec_readComplete] at h
    split at h
    · exact takes (receiveQueueHolds_finishRead hs image) h
    · cases h
  | tick points buttons => rw [exec_tick] at h; exact takes hs.of_same h
  | countdownExpiry p => rw [exec_countdownExpiry] at h; exact takes hs.of_same h
  | drainTimerExpiry => rw [exec_drainTimerExpiry] at h; exact takes hs.of_same h
  | debounce b => rw [exec_debounce] at h; exact takes hs.of_same h
  | beginFrame =>
    rw [exec_beginFrame] at h
    unfold execBeginFrame at h
    split at h <;> cases h
    · rename_i begins
      have free := place_of_beginsWith begins
      exact ReceiveQueueHolds.settled (s := s.setLine _) ⟨hs.1, fun _ => free⟩
    · exact hs
  | loseContention =>
    rw [exec_loseContention] at h
    unfold execLoseContention at h
    split at h <;> cases h
    exacts [(left .receiving rfl).settled, hs]
  | winContention =>
    rw [exec_winContention] at h
    unfold execWinContention at h
    split at h <;> cases h
    · rename_i contends
      have free := hs.2 (by rw [(contender_iff ..).1 contends]; rfl)
      refine ReceiveQueueHolds.settled ⟨?_, fun _ => ?_⟩ <;> rw [(winContention_fields ..).2.2.1]
      exacts [hs.1, free]
    · exact hs
  | transmitError =>
    rw [exec_transmitError] at h
    unfold execTransmitError at h
    split at h <;> cases h
    · exact ReceiveQueueHolds.restarted (ReceiveQueueHolds.of_same (s := s.setLine .receiving) (left .receiving rfl))
    · exact hs
  | idleWaitExpiry =>
    rw [exec_idleWaitExpiry] at h
    unfold execIdleWaitExpiry at h
    split at h <;> cases h
    exacts [ReceiveQueueHolds.restarted hs.of_same, hs]
  | frameCompletion =>
    rw [exec_frameCompletion] at h
    unfold execFrameCompletion at h
    split at h <;> cases h
    exacts [(receiveQueueHolds_completeFrame hs ‹_›).restarted, hs, hs, hs, hs]
  | frameReceived bytes =>
    rw [exec_frameReceived] at h
    split at h
    · exact takes (receiveQueueHolds_receiveFrame hs.1 bytes).settled h
    · cases h
  | frameAbandoned reason =>
    rw [exec_frameAbandoned] at h
    refine takes ?_ h
    rcases abandonFrame_spec reason s with e | e <;> rw [e]
    exacts [(left .gap rfl).restarted, (left .seeking rfl).settled]
  | addressClashHalt => rw [exec_addressClashHalt] at h; exact takes (receiveQueueHolds_enterHalted hs.1 _) h
  | loopbackPassage => rw [exec_loopbackPassage] at h; exact takes (receiveQueueHolds_passLooped hs).settled h
  | deliverTimeMark => exact receiveQueueHolds_deliver _ hs h
  | deliverState => exact receiveQueueHolds_deliver _ hs h
  | deliverAck => exact receiveQueueHolds_deliver _ hs h
  | deliverReset => exact receiveQueueHolds_deliver _ hs h
  | deliverSnapshot => exact receiveQueueHolds_deliver _ hs h
  | deliverReplay => exact receiveQueueHolds_deliver _ hs h
  | deliverResyncRequest => exact receiveQueueHolds_deliver _ hs h
  | deliverJoin => exact receiveQueueHolds_deliver _ hs h
  | deliverHeartbeat => exact receiveQueueHolds_deliver _ hs h
  | heartbeatTimerExpiry => rw [exec_heartbeatTimerExpiry] at h; exact takes hs.of_same h
  | silenceTimerExpiry st => rw [exec_silenceTimerExpiry] at h; exact takes hs.of_same h
  | resyncTimerExpiry st => rw [exec_resyncTimerExpiry] at h; exact takes hs.of_same h
  | replayTimerExpiry st => rw [exec_replayTimerExpiry] at h; exact takes hs.of_same h
  | joinWindowExpiry => rw [exec_joinWindowExpiry] at h; exact takes hs.of_same h
  | probeTimerExpiry => rw [exec_probeTimerExpiry] at h; exact takes hs.of_same h
  | markTimerExpiry => rw [exec_markTimerExpiry] at h; exact takes hs.of_same h
  | stageTimerExpiry => rw [exec_stageTimerExpiry] at h; exact takes hs.of_same h
  | chimeTimerExpiry => rw [exec_chimeTimerExpiry] at h; exact takes hs.of_same h
  | logrdyChange high => rw [exec_logrdyChange] at h; cases h; exact hs.of_same
  | recordDeparture => rw [exec_recordDeparture] at h; exact takes hs.of_same h
  | resetRelease straps => rw [exec_resetRelease] at h; exact takes (by exact hs) h
  | millisecond => rw [exec_millisecond] at h; exact takes (by exact hs) h
  | idleGap => rw [exec_idleGap] at h; exact takes (f := completeGap) (left .gap rfl).restarted h

/-- Settles O52: the journal moves only by offers, beginnings and departures, the receive queue only where a place is free. -/
theorem stepsKeepReceiveQueueAndJournal : Obligations.StepsKeepReceiveQueueAndJournal := by
  intro s s' h
  exact ⟨fun hs => step_keeps (P := fun u => ReceiveQueueHolds u.bus) (fun _ _ hs => hs) (fun _ _ _ hs he => receiveQueueHolds_exec hs he) hs h,
    fun hs => step_keeps (P := fun u => JournalHolds u.jnl) (fun _ _ hs => hs) (fun _ _ _ hs he => journalHolds_exec hs he) hs h⟩

end Sys2Proof.Machine
end

section
/-! Entries, numbers and line of the Bus Interface apart: what each looks at, and what a new entry at the tail leaves (R71, R76,
R81, R82). -/
namespace Sys2Proof.Machine
set_option Elab.async false

/-! ## The parts of `BusAgrees` -/

/-- The part of `BusAgrees` that looks at the transmit queue, its numbers and the station mode. -/
structure EntriesAgree (s : State) : Prop where
  entries : ∀ e ∈ s.bus.queue, e.agrees = true
  idle : ∀ e ∈ s.bus.queue.tail, e.disposition ≠ .begun
  looped : s.mbu.mode = .isolated → ∀ e ∈ s.bus.queue, e.disposition = .loopedBack
  numbers : s.bus.numbersAgree = true

/-- The part of `BusAgrees` that looks at the line and at what stands for it. -/
structure LineStands (s : State) : Prop where
  line : s.bus.lineAgrees = true
  probing : s.bus.probing = true → s.mbu.mode = .isolated ∨ s.mbu.mode = .halted .addressClash
  live : s.bus.line.own.isSome = true → s.onLine = true

theorem busAgrees_iff (s : State) : BusAgrees s ↔ EntriesAgree s ∧ LineStands s :=
  ⟨fun ⟨entries, idle, looped, numbers, line, probing, live⟩ => ⟨⟨entries, idle, looped, numbers⟩, ⟨line, probing, live⟩⟩,
    fun ⟨⟨entries, idle, looped, numbers⟩, ⟨line, probing, live⟩⟩ => ⟨entries, idle, looped, numbers, line, probing, live⟩⟩

/-! ## The numbers (R82) -/

/-- The numbers look at the head of the queue alone. -/
theorem numbersAgree_congr {b b' : Bif} (head : b'.queue.head? = b.queue.head?) (counter : b'.counter = b.counter)
    (ended : b'.lastEnded = b.lastEnded) : b'.numbersAgree = b.numbersAgree := by
  unfold Bif.numbersAgree
  rw [counter, ended]
  cases queue : b.queue <;> cases queue' : b'.queue <;> simp [queue, queue'] at head
  · rfl
  · rw [head]

/-- While no STATE at the head has begun, the latest STATE to have ended carries the counter. -/
theorem numbersAgree_of_idle {b : Bif} (idle : ∀ e, b.queue.head? = some e → e.disposition = .begun → ∀ x, e.body ≠ .state x) :
    b.numbersAgree = true ↔ b.lastEnded = b.counter := by
  unfold Bif.numbersAgree
  cases queue : b.queue with
  | nil => simp
  | cons e rest =>
    have idle := idle e (by simp [queue])
    cases disposition : e.disposition <;> cases body : e.body <;> simp_all

theorem mem_tail_append {α : Type} {x : α} {l m : List α} (h : x ∈ (l ++ m).tail) : x ∈ l.tail ∨ x ∈ m := by
  cases l with
  | nil => exact Or.inr (List.mem_of_mem_tail h)
  | cons a l => exact List.mem_append.1 h

/-! ## The line (R67, R76) -/

theorem headOffered_iff (b : Bif) : b.headOffered = true ↔ ∃ e, b.queue.head? = some e ∧ e.disposition ≠ .loopedBack := by
  unfold Bif.headOffered
  cases b.queue <;> simp

/-- A head on the line has begun, and its contents, a STATE's number too, are those of the frame (R75, R81). -/
theorem lineAgrees_sending_head {b : Bif} {f : Frame} (line : b.line = .sending .queueHead f) :
    b.lineAgrees = true ↔ ∃ e, b.queue.head? = some e ∧ e.disposition = .begun ∧ e.body.toBody = some f.body
      ∧ (f.body.cls = .state → e.seq = some f.seq) := by
  unfold Bif.lineAgrees
  rw [line]
  cases queue : b.queue with
  | nil => simp [Bif.fixedContents, queue]
  | cons e rest => by_cases h : f.body.cls = .state <;> simp [Bif.fixedContents, queue, h, and_assoc]

/-- A slot on the line has its contents, and is no STATE. -/
theorem lineAgrees_sending_slot {b : Bif} {c : Candidate} {f : Frame} (line : b.line = .sending c f) (slot : c ≠ .queueHead) :
    b.lineAgrees = true ↔ b.fixedContents c = some f.body := by
  unfold Bif.lineAgrees
  rw [line]
  have other (h : b.fixedContents c = some f.body) : f.body.cls ≠ .state := by
    cases c with
    | markSlot =>
      obtain ⟨m, -, time, -, body⟩ : ∃ m, b.markSlot = some m ∧ ∃ time, m.time = some time ∧ Body.timeMark time = f.body := by
        simpa [Bif.fixedContents, Option.bind_eq_some_iff] using h
      rw [← body]; simp [Body.cls]
    | heartbeatSlot =>
      obtain ⟨m, -, mode, -, body⟩ : ∃ m, b.heartbeatSlot = some m ∧ ∃ mode, m.mode = some mode ∧ Body.heartbeat mode = f.body := by
        simpa [Bif.fixedContents, Option.bind_eq_some_iff] using h
      rw [← body]; simp [Body.cls]
    | queueHead => exact absurd rfl slot
  simp only [Bool.and_eq_true, beq_iff_eq, Bool.or_eq_true, bne_iff_ne]
  exact ⟨And.left, fun h => ⟨h, Or.inl (other h)⟩⟩

theorem lineAgrees_of_idle {b : Bif} (idle : b.line.own = none) : b.lineAgrees = true := by
  unfold Bif.lineAgrees
  cases line : b.line with
  | contending c | sending c f => rw [line] at idle; cases idle
  | _ => rfl

/-- With no attempt in progress the line has nothing to agree with. -/
theorem lineStands_of_idle {s : State} (idle : s.bus.line.own = none)
    (probing : s.bus.probing = true → s.mbu.mode = .isolated ∨ s.mbu.mode = .halted .addressClash) : LineStands s :=
  ⟨lineAgrees_of_idle idle, probing, by rw [idle]; exact nofun⟩

/-- A head that was offered still is, and a begun one is as it was. -/
def Bif.HeadStands (b b' : Bif) : Prop :=
  ∀ e, b.queue.head? = some e → e.disposition ≠ .loopedBack → ∃ e', b'.queue.head? = some e' ∧ e'.disposition ≠ .loopedBack ∧ (e.disposition = .begun → e' = e)

theorem headStands_of_head {b b' : Bif} (head : ∀ e, b.queue.head? = some e → b'.queue.head? = some e) : b.HeadStands b' :=
  fun e first offered => ⟨e, head e first, offered, fun _ => rfl⟩

/-- What the Bus Interface moves away from the line's own candidate does not touch the line. -/
theorem lineAgrees_of_own {b b' : Bif} (line : b'.line = b.line) (markSlot : b.line.own = some .markSlot → b'.markSlot = b.markSlot)
    (heartbeatSlot : b.line.own = some .heartbeatSlot → b'.heartbeatSlot = b.heartbeatSlot) (head : b.line.own = some .queueHead → b.HeadStands b')
    (h : b.lineAgrees = true) : b'.lineAgrees = true := by
  cases onLine : b.line with
  | contending c =>
    rw [onLine] at markSlot heartbeatSlot head
    unfold Bif.lineAgrees at h ⊢
    rw [onLine] at h
    rw [line, onLine]
    cases c with
    | markSlot => rw [markSlot rfl]; exact h
    | heartbeatSlot => rw [heartbeatSlot rfl]; exact h
    | queueHead =>
      obtain ⟨e, first, offered⟩ := (headOffered_iff b).1 h
      obtain ⟨e', first', offered', -⟩ := head rfl e first offered
      exact (headOffered_iff b').2 ⟨e', first', offered'⟩
  | sending c f =>
    rw [onLine] at markSlot heartbeatSlot head line
    by_cases slot : c = .queueHead
    · subst slot
      obtain ⟨e, first, begun, body, seq⟩ := (lineAgrees_sending_head onLine).1 h
      obtain ⟨e', first', -, same⟩ := head rfl e first (by rw [begun]; simp)
      obtain rfl := same begun
      exact (lineAgrees_sending_head line).2 ⟨e', first', begun, body, seq⟩
    · rw [lineAgrees_sending_slot onLine slot] at h
      rw [lineAgrees_sending_slot line slot, ← h]
      cases c with
      | markSlot => unfold Bif.fixedContents; dsimp only; rw [markSlot rfl]
      | heartbeatSlot => unfold Bif.fixedContents; dsimp only; rw [heartbeatSlot rfl]
      | queueHead => exact absurd rfl slot
  | _ => exact lineAgrees_of_idle (by rw [line, onLine]; rfl)

/-- The candidate in contention or on the line is there (R67, R68). -/
theorem own_stands {b : Bif} (h : b.lineAgrees = true) :
    (b.line.own = some .markSlot → b.markSlot ≠ none) ∧ (b.line.own = some .heartbeatSlot → b.heartbeatSlot ≠ none)
      ∧ (b.line.own = some .queueHead → b.headOffered = true) := by
  cases onLine : b.line with
  | contending c =>
    unfold Bif.lineAgrees at h
    rw [onLine] at h
    cases c <;> simp_all [Line.own, Option.isSome_iff_ne_none]
  | sending c f =>
    by_cases slot : c = .queueHead
    · subst slot
      obtain ⟨e, first, begun, -⟩ := (lineAgrees_sending_head onLine).1 h
      exact ⟨by simp [Line.own], by simp [Line.own], fun _ => (headOffered_iff b).2 ⟨e, first, by rw [begun]; simp⟩⟩
    · rw [lineAgrees_sending_slot onLine slot] at h
      refine ⟨fun own none => ?_, fun own none => ?_, fun own => absurd (by simpa [Line.own] using own) slot⟩
      all_goals
        obtain rfl := Option.some.inj own
        simp [Bif.fixedContents, none] at h
  | _ => simp [Line.own]

theorem probing_congr {b b' : Bif} (heartbeatSlot : b'.heartbeatSlot = b.heartbeatSlot) : b'.probing = b.probing := by
  unfold Bif.probing; rw [heartbeatSlot]

/-! ## Operations that leave the parts -/

theorem EntriesAgree.of_same {s t : State} (hs : EntriesAgree s) (queue : t.bus.queue = s.bus.queue := by simp)
    (counter : t.bus.counter = s.bus.counter := by simp) (lastEnded : t.bus.lastEnded = s.bus.lastEnded := by simp)
    (mode : t.mbu.mode = s.mbu.mode := by simp) : EntriesAgree t where
  entries := by rw [queue]; exact hs.entries
  idle := by rw [queue]; exact hs.idle
  looped := by rw [queue, mode]; exact hs.looped
  numbers := (numbersAgree_congr (by rw [queue]) counter lastEnded).trans hs.numbers

/-- The mode has changed, and not to ISOLATED. -/
theorem EntriesAgree.of_mode {s t : State} (hs : EntriesAgree s) (mode : t.mbu.mode ≠ .isolated) (queue : t.bus.queue = s.bus.queue := by simp)
    (counter : t.bus.counter = s.bus.counter := by simp) (lastEnded : t.bus.lastEnded = s.bus.lastEnded := by simp) : EntriesAgree t where
  entries := by rw [queue]; exact hs.entries
  idle := by rw [queue]; exact hs.idle
  looped h := absurd h mode
  numbers := (numbersAgree_congr (by rw [queue]) counter lastEnded).trans hs.numbers

theorem LineStands.of_head {s t : State} (hs : LineStands s) (head : s.bus.line.own = some .queueHead → s.bus.HeadStands t.bus)
    (line : t.bus.line = s.bus.line := by simp) (markSlot : t.bus.markSlot = s.bus.markSlot := by simp)
    (heartbeatSlot : t.bus.heartbeatSlot = s.bus.heartbeatSlot := by simp) (clash : t.bus.clash = s.bus.clash := by simp)
    (mode : t.mbu.mode = s.mbu.mode := by simp) : LineStands t where
  line := lineAgrees_of_own line (fun _ => markSlot) (fun _ => heartbeatSlot) head hs.line
  probing := by rw [probing_congr heartbeatSlot, mode]; exact hs.probing
  live := by unfold State.onLine State.runs; rw [line, clash, mode]; exact hs.live

theorem BusAgrees.of_same {s t : State} (hs : BusAgrees s) (queue : t.bus.queue = s.bus.queue := by simp)
    (counter : t.bus.counter = s.bus.counter := by simp) (lastEnded : t.bus.lastEnded = s.bus.lastEnded := by simp)
    (line : t.bus.line = s.bus.line := by simp) (markSlot : t.bus.markSlot = s.bus.markSlot := by simp)
    (heartbeatSlot : t.bus.heartbeatSlot = s.bus.heartbeatSlot := by simp) (clash : t.bus.clash = s.bus.clash := by simp)
    (mode : t.mbu.mode = s.mbu.mode := by simp) : BusAgrees t := by
  rw [busAgrees_iff] at hs ⊢
  exact ⟨hs.1.of_same queue counter lastEnded mode,
    hs.2.of_head (fun _ => headStands_of_head fun e first => by rw [queue]; exact first) line markSlot heartbeatSlot clash mode⟩

/-- The line is left to others, or to the next gap. -/
theorem BusAgrees.of_line {s t : State} (hs : BusAgrees s) (idle : t.bus.line.own = none) (queue : t.bus.queue = s.bus.queue := by simp)
    (counter : t.bus.counter = s.bus.counter := by simp) (lastEnded : t.bus.lastEnded = s.bus.lastEnded := by simp)
    (heartbeatSlot : t.bus.heartbeatSlot = s.bus.heartbeatSlot := by simp) (mode : t.mbu.mode = s.mbu.mode := by simp) : BusAgrees t := by
  rw [busAgrees_iff] at hs ⊢
  refine ⟨hs.1.of_same queue counter lastEnded mode, lineStands_of_idle idle ?_⟩
  rw [probing_congr heartbeatSlot, mode]
  exact hs.2.probing

/-! ## One entry more -/

theorem EntriesAgree.append {s t : State} (hs : EntriesAgree s) {e : TxEntry} (agrees : e.agrees = true) (waits : e.disposition ≠ .begun)
    (looped : s.mbu.mode = .isolated → e.disposition = .loopedBack) (queue : t.bus.queue = s.bus.queue ++ [e])
    (counter : t.bus.counter = s.bus.counter) (lastEnded : t.bus.lastEnded = s.bus.lastEnded) (mode : t.mbu.mode = s.mbu.mode) : EntriesAgree t where
  entries x hx := by
    rw [queue, List.mem_append, List.mem_singleton] at hx
    rcases hx with hx | rfl
    exacts [hs.entries x hx, agrees]
  idle x hx := by
    rw [queue] at hx
    rcases mem_tail_append hx with hx | hx
    · exact hs.idle x hx
    · rw [List.mem_singleton.1 hx]; exact waits
  looped isolated x hx := by
    rw [mode] at isolated
    rw [queue, List.mem_append, List.mem_singleton] at hx
    rcases hx with hx | rfl
    exacts [hs.looped isolated x hx, looped isolated]
  numbers := by
    cases before : s.bus.queue with
    | nil =>
      have ended : s.bus.lastEnded = s.bus.counter := (numbersAgree_of_idle (by simp [before])).1 hs.numbers
      rw [before, List.nil_append] at queue
      refine (numbersAgree_of_idle fun x first begun => ?_).2 (by rw [lastEnded, counter, ended])
      rw [queue] at first
      cases first
      exact absurd begun waits
    | cons x rest => exact (numbersAgree_congr (by rw [queue, before]; rfl) counter lastEnded).trans hs.numbers

/-- A frame that has not begun enters at the tail: the head, if there was one, stays. -/
theorem BusAgrees.append {s t : State} (hs : BusAgrees s) {e : TxEntry} (agrees : e.agrees = true) (waits : e.disposition ≠ .begun)
    (looped : s.mbu.mode = .isolated → e.disposition = .loopedBack) (queue : t.bus.queue = s.bus.queue ++ [e])
    (counter : t.bus.counter = s.bus.counter := by simp) (lastEnded : t.bus.lastEnded = s.bus.lastEnded := by simp)
    (line : t.bus.line = s.bus.line := by simp) (markSlot : t.bus.markSlot = s.bus.markSlot := by simp)
    (heartbeatSlot : t.bus.heartbeatSlot = s.bus.heartbeatSlot := by simp) (clash : t.bus.clash = s.bus.clash := by simp)
    (mode : t.mbu.mode = s.mbu.mode := by simp) : BusAgrees t := by
  rw [busAgrees_iff] at hs ⊢
  refine ⟨hs.1.append agrees waits looped queue counter lastEnded mode, hs.2.of_head (fun _ => headStands_of_head fun x first => ?_) line markSlot heartbeatSlot clash mode⟩
  rw [queue, List.head?_append, first]
  rfl

end Sys2Proof.Machine
end

section
/-! The claims on the transmit queue, placed, offered an entry or withdrawn, keep the Bus Interface (R73, R74, R75, R90). -/
namespace Sys2Proof.Machine
set_option Elab.async false

/-! ## Claims placed and served -/

/-- Every station entry placed is one entry more at the tail, with byte and contents by its disposition. -/
theorem placed_entry {s : State} (looped : s.mbu.mode = .isolated → ∀ e ∈ s.bus.queue, e.disposition = .loopedBack) {c : Claim}
    (offered : s.mbu.mode = .isolated → c.passedOver = false) :
    ∃ body byte, (Claim.placed s c).bus.queue = s.bus.queue ++ [s.entryOf body byte] ∧ (s.entryOf body byte).agrees = true := by
  by_cases isolated : s.mbu.mode = .isolated
  · have quiet : s.bus.queue.filter (fun e => !e.unsentState) = s.bus.queue := filter_unsentState_of_none fun e he => by
      rw [← Bool.not_eq_true, unsentState_iff, looped isolated e he]; simp
    cases c with
    | snapshot =>
      refine ⟨.snapshot (some (snapshotEntries s)), s.bus.lastEnded, ?_, by simp [State.entryOf, isolated, TxEntry.agrees]⟩
      unfold Claim.placed
      rw [if_pos isolated, quiet]
    | join | resyncRequest a | replay a => exact absurd (offered isolated) (by simp [Claim.passedOver])
    | _ => exact ⟨_, _, rfl, by simp [State.entryOf, isolated, TxEntry.agrees]⟩
  · cases c with
    | snapshot =>
      refine ⟨.snapshot none, s.bus.lastEnded, ?_, by simp [State.entryOf, isolated, TxEntry.agrees]⟩
      unfold Claim.placed
      rw [if_neg isolated]
    | _ => exact ⟨_, _, rfl, by simp [State.entryOf, isolated, TxEntry.agrees]⟩

theorem entryOf_waits (s : State) (body : TxBody) (byte : SeqNo) : (s.entryOf body byte).disposition ≠ .begun := by
  unfold State.entryOf; split <;> simp

theorem entryOf_looped {s : State} (isolated : s.mbu.mode = .isolated) (body : TxBody) (byte : SeqNo) : (s.entryOf body byte).disposition = .loopedBack := by
  unfold State.entryOf; rw [if_pos isolated]

theorem busAgrees_placed {s : State} (hs : BusAgrees s) {c : Claim} (offered : s.mbu.mode = .isolated → c.passedOver = false) :
    BusAgrees (Claim.placed s c) := by
  obtain ⟨body, byte, queue, agrees⟩ := placed_entry hs.2.2.1 offered
  refine hs.append agrees (entryOf_waits s body byte) (fun isolated => entryOf_looped isolated ..) queue ?_ ?_ ?_ ?_ ?_ ?_ ?_ <;> rw [placed_frame]

theorem busAgrees_served {s : State} (hs : BusAgrees s) : BusAgrees s.served :=
  served_keeps (P := BusAgrees) (fun _ _ _ first hs => busAgrees_placed hs fun isolated => not_passedOver_of_firstClaim isolated first) hs

theorem busAgrees_offers {s : State} (hs : BusAgrees s) : BusAgrees (offers s) := by
  rw [offers_eq_served]; exact busAgrees_served hs

theorem busAgrees_claimSnapshot {s : State} (hs : BusAgrees s) : BusAgrees (claimSnapshot s) := by
  rw [claimSnapshot_eq]
  refine snapshotClaimed_keeps (P := BusAgrees) (fun s c chosen hs => busAgrees_placed hs fun isolated => ?_) (fun s hs => hs) hs
  rcases chosen with rfl | first
  · rfl
  · exact not_passedOver_of_firstClaim isolated first

theorem busAgrees_claimJoin {s : State} (hs : BusAgrees s) (connected : s.mbu.mode ≠ .isolated) : BusAgrees (claimJoin s) := by
  rw [claimJoin_eq]
  unfold State.joinClaimed
  split_ifs
  · exact hs
  · exact busAgrees_placed hs fun isolated => absurd isolated connected
  · exact hs

theorem busAgrees_placeRequest {s : State} (hs : BusAgrees s) {body : TxBody} (request : ∃ m, body = .ack m ∨ body = .reset m) :
    BusAgrees (placeRequest body s) := by
  unfold placeRequest entryFor
  split
  · refine hs.append (t := s.setQueue _) ?_ (by simp) (fun _ => rfl) rfl
    obtain ⟨m, rfl | rfl⟩ := request <;> rfl
  · rename_i connected
    refine hs.append (t := s.setQueue _) ?_ (by simp) (fun isolated => absurd (by simp [State.isolated, isolated]) connected) rfl
    obtain ⟨m, rfl | rfl⟩ := request <;> rfl

theorem busAgrees_claimAck {s : State} (hs : BusAgrees s) : BusAgrees (claimAck s) := by
  unfold claimAck
  split_ifs
  exacts [hs, busAgrees_placeRequest hs ⟨_, Or.inl rfl⟩, hs]

theorem busAgrees_claimReset {s : State} (hs : BusAgrees s) : BusAgrees (claimReset s) := by
  unfold claimReset
  split_ifs
  exacts [hs, busAgrees_placeRequest hs ⟨_, Or.inr rfl⟩, hs]

theorem BusAgrees.setMember {s : State} (hs : BusAgrees s) (a : Addr) (m : Member) : BusAgrees (s.setMember a m) := hs

theorem BusAgrees.setFieldPoint {s : State} (hs : BusAgrees s) (p : Point) (f : FieldPoint) : BusAgrees (s.setFieldPoint p f) := hs

theorem connected_of_free {s : State} (h : (s.bus.hasFree && !s.isolated) = true) : s.mbu.mode ≠ .isolated := fun isolated => by
  simp [State.isolated, isolated] at h

theorem busAgrees_claimResync {s : State} (hs : BusAgrees s) (a : Addr) : BusAgrees (claimResync a s) := by
  unfold claimResync
  split
  · rename_i free
    rw [resyncRequest_eq_placed]
    exact busAgrees_placed hs fun isolated => absurd isolated (connected_of_free free)
  · exact hs

theorem busAgrees_claimReplay {s : State} (hs : BusAgrees s) (a : Addr) : BusAgrees (claimReplay a s) := by
  unfold claimReplay
  split
  · rename_i free
    have connected := connected_of_free free
    refine hs.append (t := placeTail _ (s.setMember a _)) (e := s.entryOf (.replay a none) s.bus.lastEnded) ?_ (entryOf_waits s _ _) (fun isolated => absurd isolated connected) ?_
    · simp [State.entryOf, connected, TxEntry.agrees]
    · unfold placeTail
      rw [entryFor_eq]
      rfl
  · exact hs

/-! ## An announcement -/

/-- An entry stands as it was, or is unsent as before and agrees where it agreed. -/
abbrev TxEntry.StandsAs (e e' : TxEntry) : Prop :=
  e' = e ∨ (e.disposition = .unsent ∧ e'.disposition = .unsent ∧ (e.agrees = true → e'.agrees = true))

theorem rewriteUnsent_stands (p : Point) (b : StateBody) (queue : List TxEntry) : List.Forall₂ TxEntry.StandsAs queue (rewriteUnsent p b queue) := by
  have same (l : List TxEntry) : List.Forall₂ TxEntry.StandsAs l l := List.forall₂_same.2 fun _ _ => Or.inl rfl
  induction queue with
  | nil => exact .nil
  | cons e rest ih =>
    unfold rewriteUnsent
    by_cases h : e.unsentStateFor p = true
    · obtain ⟨unsent, old, body, -⟩ := (unsentStateFor_iff ..).1 h
      rw [if_pos h, body]
      exact .cons (Or.inr ⟨unsent, unsent, by simp [TxEntry.agrees, unsent, body]⟩) (same rest)
    · rw [if_neg h]
      exact .cons (Or.inl rfl) ih

section
variable {queue queue' : List TxEntry} (stands : List.Forall₂ TxEntry.StandsAs queue queue')
include stands

theorem exists_standsAs {e' : TxEntry} (h : e' ∈ queue') : ∃ e ∈ queue, e.StandsAs e' := by
  obtain ⟨n, bound, rfl⟩ := List.getElem_of_mem h
  have length := stands.length_eq
  exact ⟨queue[n], List.getElem_mem _, stands.get (by omega) bound⟩

theorem head_standsAs {e : TxEntry} (h : queue.head? = some e) : ∃ e', queue'.head? = some e' ∧ e.StandsAs e' := by
  cases stands with
  | nil => cases h
  | cons head rest => cases h; exact ⟨_, rfl, head⟩

theorem tail_standsAs : List.Forall₂ TxEntry.StandsAs queue.tail queue'.tail := by
  cases stands with
  | nil => exact .nil
  | cons head rest => exact rest

end

theorem EntriesAgree.of_standsAs {s t : State} (hs : EntriesAgree s) (stands : List.Forall₂ TxEntry.StandsAs s.bus.queue t.bus.queue)
    (counter : t.bus.counter = s.bus.counter) (lastEnded : t.bus.lastEnded = s.bus.lastEnded) (mode : t.mbu.mode = s.mbu.mode) : EntriesAgree t where
  entries e' he' := by
    obtain ⟨e, he, rfl | ⟨-, -, agrees⟩⟩ := exists_standsAs stands he'
    exacts [hs.entries _ he, agrees (hs.entries e he)]
  idle e' he' := by
    have tails : List.Forall₂ TxEntry.StandsAs s.bus.queue.tail t.bus.queue.tail := tail_standsAs stands
    obtain ⟨e, he, rfl | ⟨-, unsent, -⟩⟩ := exists_standsAs tails he'
    · exact hs.idle _ he
    · rw [unsent]; simp
  looped isolated e' he' := by
    rw [mode] at isolated
    obtain ⟨e, he, rfl | ⟨unsent, -, -⟩⟩ := exists_standsAs stands he'
    · exact hs.looped isolated _ he
    · have := hs.looped isolated e he; rw [unsent] at this; cases this
  numbers := by
    cases first : s.bus.queue.head? with
    | none =>
      have empty : t.bus.queue.head? = none := by
        rw [List.head?_eq_none_iff] at first ⊢
        have := stands.length_eq; rw [first] at this; exact List.length_eq_zero_iff.1 this.symm
      exact (numbersAgree_congr (by rw [empty, first]) counter lastEnded).trans hs.numbers
    | some e =>
      obtain ⟨e', first', rfl | ⟨unsent, unsent', -⟩⟩ := head_standsAs stands first
      · exact (numbersAgree_congr (by rw [first', first]) counter lastEnded).trans hs.numbers
      · have waits {b : Bif} {x : TxEntry} (head : b.queue.head? = some x) (unsent : x.disposition = .unsent) :
            b.numbersAgree = true ↔ b.lastEnded = b.counter := numbersAgree_of_idle fun y hy begun => by
          rw [head] at hy; cases hy; rw [unsent] at begun; cases begun
        rw [waits first' unsent', lastEnded, counter]
        exact (waits first unsent).1 hs.numbers

/-- Entries that stand where they stood, and nothing else moved. -/
theorem BusAgrees.of_standsAs {s t : State} (hs : BusAgrees s) (stands : List.Forall₂ TxEntry.StandsAs s.bus.queue t.bus.queue)
    (counter : t.bus.counter = s.bus.counter := by simp) (lastEnded : t.bus.lastEnded = s.bus.lastEnded := by simp)
    (line : t.bus.line = s.bus.line := by simp) (markSlot : t.bus.markSlot = s.bus.markSlot := by simp)
    (heartbeatSlot : t.bus.heartbeatSlot = s.bus.heartbeatSlot := by simp) (clash : t.bus.clash = s.bus.clash := by simp)
    (mode : t.mbu.mode = s.mbu.mode := by simp) : BusAgrees t := by
  rw [busAgrees_iff] at hs ⊢
  refine ⟨hs.1.of_standsAs stands counter lastEnded mode, hs.2.of_head (fun _ e first offered => ?_) line markSlot heartbeatSlot clash mode⟩
  obtain ⟨e', first', rfl | ⟨unsent, unsent', -⟩⟩ := head_standsAs stands first
  · exact ⟨_, first', offered, fun _ => rfl⟩
  · exact ⟨e', first', by rw [unsent']; simp, fun begun => by rw [unsent] at begun; cases begun⟩

theorem busAgrees_announce {s : State} (hs : BusAgrees s) (p : Point) : BusAgrees (announce p s) := by
  unfold announce
  dsimp only
  split_ifs
  · exact hs.of_standsAs (rewriteUnsent_stands ..)
  · rw [serveOwed_eq_placed]
    exact busAgrees_placed hs fun _ => rfl
  · exact hs

/-! ## The Point Sequencer -/

section
variable {s : State} (hs : BusAgrees s)
include hs

theorem busAgrees_takeEvent (p : Point) (ev : PointEvent) (stamp : Millis) : BusAgrees (takeEvent p ev stamp s) := by
  rw [takeEvent_eq]
  split
  · exact busAgrees_announce (s := s.setPoint p _) hs p
  · exact hs

theorem busAgrees_takeRequest (mask : ZoneMask) (acts : SeqState) (ev : PointEvent) : BusAgrees (takeRequest mask acts ev s) := by
  unfold takeRequest
  split
  · refine foldl_invariant BusAgrees _ (fun u p hu => ?_) _ _ hs
    split
    · exact busAgrees_takeEvent hu p _ _
    · exact hu
  · exact hs

theorem busAgrees_qualify (p : Point) : BusAgrees (qualify p s) := by
  have event (ev : PointEvent) (f : FieldPoint) : BusAgrees (takeEvent p ev s.fiu.tickStamp (s.setFieldPoint p f)) :=
    busAgrees_takeEvent (s := s.setFieldPoint p f) hs p ev _
  unfold qualify
  dsimp only
  split
  · unfold countActivation
    dsimp only
    split_ifs
    · exact event ..
    · exact busAgrees_takeEvent ((event ..).setFieldPoint p _) p _ _
    · exact (event ..).setFieldPoint p _
  · exact event ..

theorem busAgrees_drainStep : BusAgrees (drainStep s) := by
  unfold drainStep
  refine foldl_invariant BusAgrees _ (fun u p hu => ?_) _ _ (BusAgrees.of_same hs)
  unfold releasePoint
  split
  · exact busAgrees_takeEvent hu p _ _
  · exact hu

theorem busAgrees_reconcileAll : BusAgrees (reconcileAll s) := busAgrees_claimSnapshot (s := s.setPsq _) hs

theorem busAgrees_freshStart : BusAgrees (freshStart s) := by
  unfold freshStart
  split
  exacts [busAgrees_reconcileAll hs, hs, hs]

theorem busAgrees_adoptReplay (es : Tab Entry) : BusAgrees (adoptReplay es s) := by
  unfold adoptReplay
  split
  exacts [busAgrees_reconcileAll (s := s.setPsq _) hs, hs, hs]

end

end Sys2Proof.Machine
end

section
/-! Entries taken out of the queue, slots filled and emptied: the Bus Interface still agrees (R72, R75, R97, R115, R130, R131). -/
namespace Sys2Proof.Machine
set_option Elab.async false

/-! ## Entries taken out -/

/-- Whatever stands behind the head has not begun, so the numbers are equal once it leads (R82). -/
theorem EntriesAgree.idle_of_mem {s : State} (hs : EntriesAgree s) {e x : TxEntry} {rest : List TxEntry} (queue : s.bus.queue = e :: rest) (h : x ∈ rest) :
    x.disposition ≠ .begun := hs.idle x (by rw [queue]; exact h)

theorem mem_tail_filter {α : Type} {p : α → Bool} {l : List α} {x : α} (h : x ∈ (l.filter p).tail) : x ∈ l.tail := by
  cases l with
  | nil => exact h
  | cons a l =>
    rw [List.filter_cons] at h
    split at h
    · exact (List.mem_filter.1 h).1
    · exact (List.mem_filter.1 (List.mem_of_mem_tail h)).1

/-- Unsent entries removed, wherever they stand (R41, R75). -/
theorem EntriesAgree.filter {s t : State} (hs : EntriesAgree s) (kept : TxEntry → Bool) (unsent : ∀ e ∈ s.bus.queue, kept e = false → e.disposition = .unsent)
    (queue : t.bus.queue = s.bus.queue.filter kept) (counter : t.bus.counter = s.bus.counter) (lastEnded : t.bus.lastEnded = s.bus.lastEnded)
    (mode : t.mbu.mode = s.mbu.mode) : EntriesAgree t where
  entries e he := by rw [queue] at he; exact hs.entries e (List.mem_filter.1 he).1
  idle e he := by rw [queue] at he; exact hs.idle e (mem_tail_filter he)
  looped isolated e he := by rw [mode] at isolated; rw [queue] at he; exact hs.looped isolated e (List.mem_filter.1 he).1
  numbers := by
    cases before : s.bus.queue with
    | nil => exact (numbersAgree_congr (by rw [queue, before]; rfl) counter lastEnded).trans hs.numbers
    | cons e rest =>
      rw [before, List.filter_cons] at queue
      split at queue
      · exact (numbersAgree_congr (by rw [queue, before]; rfl) counter lastEnded).trans hs.numbers
      · rename_i removed
        have waits := unsent e (by rw [before]; simp) (by simpa using removed)
        have ended := (numbersAgree_cons before hs.numbers).2 (by simp [waits])
        refine (numbersAgree_of_idle fun x first begun => ?_).2 (by rw [lastEnded, counter, ended])
        rw [queue] at first
        exact absurd begun (hs.idle_of_mem before (List.mem_filter.1 (List.mem_of_mem_head? first)).1)

/-- The head of the queue is taken out, and the latest STATE to have ended carries the counter (R68, R79, R89). -/
theorem EntriesAgree.tail {s t : State} (hs : EntriesAgree s) (queue : t.bus.queue = s.bus.queue.tail) (counter : t.bus.counter = s.bus.counter)
    (ended : t.bus.lastEnded = s.bus.counter) (mode : t.mbu.mode = s.mbu.mode) : EntriesAgree t where
  entries e he := by rw [queue] at he; exact hs.entries e (List.mem_of_mem_tail he)
  idle e he := by rw [queue] at he; exact hs.idle e (List.mem_of_mem_tail he)
  looped isolated e he := by rw [mode] at isolated; rw [queue] at he; exact hs.looped isolated e (List.mem_of_mem_tail he)
  numbers := (numbersAgree_of_idle fun x first begun => by
    rw [queue] at first
    exact absurd begun (hs.idle x (List.mem_of_mem_head? first))).2 (by rw [counter, ended])

theorem head?_filter_of_kept {α : Type} {p : α → Bool} {l : List α} {x : α} (first : l.head? = some x) (kept : p x = true) : (l.filter p).head? = some x := by
  cases l with
  | nil => cases first
  | cons a l => cases first; rw [List.filter_cons, if_pos kept]; rfl

/-! ## The REPLAY and the TIME MARK withdrawn -/

theorem busAgrees_replayTakenBack {s : State} (hs : BusAgrees s) (a : Addr) : BusAgrees (s.replayTakenBack a) := by
  rw [busAgrees_iff] at hs ⊢
  obtain ⟨entries, stands⟩ := hs
  have unsent (e : TxEntry) (h : (!e.unsentReplayFor a) = false) : e.disposition = .unsent := ((unsentReplayFor_iff a e).1 (by simpa using h)).1
  refine ⟨entries.filter _ (fun e _ => unsent e) rfl rfl rfl rfl, ?_⟩
  by_cases ends : s.bus.line = .contending .queueHead ∧ s.bus.queue.head?.any (TxEntry.unsentReplayFor a) = true
  · exact lineStands_of_idle (by simp [State.replayTakenBack, State.lineWithout, ends, Line.own]) stands.probing
  · refine stands.of_head (t := s.replayTakenBack a) (fun own => headStands_of_head fun e first => head?_filter_of_kept first ?_) (if_neg ends) rfl rfl rfl rfl
    by_contra removed
    have replay : e.unsentReplayFor a = true := by simpa using removed
    cases onLine : s.bus.line with
    | contending c =>
      rw [onLine] at own
      exact ends ⟨by rw [onLine, Option.some.inj own], by rw [first]; exact replay⟩
    | sending c f =>
      rw [onLine] at own
      obtain rfl := Option.some.inj own
      obtain ⟨e', first', begun, -⟩ := (lineAgrees_sending_head onLine).1 stands.line
      obtain rfl : e = e' := Option.some.inj (first.symm.trans first')
      rw [unsent e (by rw [replay]; rfl)] at begun
      cases begun
    | _ => rw [onLine] at own; cases own

theorem busAgrees_withdrawReplay {s : State} (hs : BusAgrees s) (a : Addr) : BusAgrees (withdrawReplay a s) := by
  rw [withdrawReplay_eq]
  split
  · exact busAgrees_served (busAgrees_replayTakenBack hs a)
  · exact hs

/-- Only the TIME MARK slot moves, and the line does not stand on it. -/
theorem BusAgrees.of_markSlot {s t : State} (hs : BusAgrees s) (free : s.bus.line.own ≠ some .markSlot) (line : t.bus.line = s.bus.line := by simp)
    (queue : t.bus.queue = s.bus.queue := by simp) (counter : t.bus.counter = s.bus.counter := by simp)
    (lastEnded : t.bus.lastEnded = s.bus.lastEnded := by simp) (heartbeatSlot : t.bus.heartbeatSlot = s.bus.heartbeatSlot := by simp)
    (clash : t.bus.clash = s.bus.clash := by simp) (mode : t.mbu.mode = s.mbu.mode := by simp) : BusAgrees t := by
  rw [busAgrees_iff] at hs ⊢
  obtain ⟨entries, stands⟩ := hs
  refine ⟨entries.of_same queue counter lastEnded mode, ⟨?_, ?_, ?_⟩⟩
  · exact lineAgrees_of_own line (fun own => absurd own free) (fun _ => heartbeatSlot) (fun _ => headStands_of_head fun e first => by rw [queue]; exact first) stands.line
  · rw [probing_congr heartbeatSlot, mode]; exact stands.probing
  · unfold State.onLine State.runs; rw [line, clash, mode]; exact stands.live

theorem busAgrees_withdrawMark {s : State} (hs : BusAgrees s) : BusAgrees (withdrawMark s) := by
  unfold withdrawMark
  split
  · exact hs
  · rename_i m slot
    split
    · exact hs
    · rename_i untaken
      cases onLine : s.bus.line with
      | contending c =>
        by_cases mark : c = .markSlot
        · exact hs.of_line (t := s.setBif _) (by simp [Line.withdrawn, mark, Line.own]) rfl rfl rfl rfl rfl
        · exact hs.of_markSlot (t := s.setBif _) (by rw [onLine]; simpa [Line.own] using mark) (by simp [Line.withdrawn, mark, onLine]) rfl rfl rfl rfl rfl rfl
      | sending c f =>
        have mark : c ≠ .markSlot := by
          rintro rfl
          have fixed := (lineAgrees_sending_slot onLine (by simp)).1 hs.2.2.2.2.1
          simp [Bif.fixedContents, slot, untaken] at fixed
        exact hs.of_markSlot (t := s.setBif _) (by rw [onLine]; simpa [Line.own] using mark) (by simp [Line.withdrawn, onLine]) rfl rfl rfl rfl rfl rfl
      | _ => exact hs.of_line (t := s.setBif _) rfl rfl rfl rfl rfl rfl

/-! ## Slots filled -/

theorem busAgrees_fillMark {s : State} (hs : BusAgrees s) : BusAgrees (fillMark s) := by
  unfold fillMark
  split
  · exact hs
  · rename_i empty
    exact hs.of_markSlot (t := s.setBif _) (fun own => (own_stands hs.2.2.2.2.1).1 own empty) rfl rfl rfl rfl rfl rfl rfl

/-- A probe fills the slot in ISOLATED alone (R91). -/
theorem busAgrees_fillHeartbeat {s : State} (hs : BusAgrees s) {probe : Bool} (isolated : probe = true → s.mbu.mode = .isolated) : BusAgrees (fillHeartbeat probe s) := by
  unfold fillHeartbeat
  split
  · exact hs
  · rename_i empty
    rw [busAgrees_iff] at hs ⊢
    obtain ⟨entries, stands⟩ := hs
    exact ⟨entries.of_same, lineAgrees_of_own (b := s.bus) rfl (fun _ => rfl) (fun own => absurd empty ((own_stands stands.line).2.1 own))
      (fun _ => headStands_of_head fun e first => first) stands.line, fun h => Or.inl (isolated h), stands.live⟩

theorem busAgrees_beatHeart {s : State} (hs : BusAgrees s) : BusAgrees (beatHeart s) := by
  unfold beatHeart
  dsimp only
  split
  · exact busAgrees_fillHeartbeat hs.of_same nofun
  · exact hs

theorem busAgrees_placeProbe {s : State} (hs : BusAgrees s) (isolated : s.mbu.mode = .isolated) : BusAgrees (placeProbe s) := by
  unfold placeProbe
  exact busAgrees_fillHeartbeat hs.of_same fun _ => isolated

theorem busAgrees_markExpired {s : State} (hs : BusAgrees s) : BusAgrees (markExpired s) := by
  unfold markExpired
  split
  · exact busAgrees_fillMark (s := s.setTmb _) hs
  · exact hs

end Sys2Proof.Machine
end

section
/-! A contention won keeps the Bus Interface: the candidate's contents are fixed, and its frame is on the line (R67, R72, R75, R81). -/
namespace Sys2Proof.Machine
set_option Elab.async false

/-! ## The head begins -/

/-- The first win of an unsent head, its contents, byte and disposition given (R75). -/
theorem EntriesAgree.begin {s t : State} (hs : EntriesAgree s) {e e' : TxEntry} {rest : List TxEntry} (before : s.bus.queue = e :: rest)
    (queue : t.bus.queue = e' :: rest) (agrees : e'.agrees = true) (connected : t.mbu.mode ≠ .isolated) (numbers : t.bus.numbersAgree = true) : EntriesAgree t where
  entries x hx := by
    rw [queue] at hx
    rcases List.mem_cons.1 hx with rfl | hx
    · exact agrees
    · exact hs.entries x (by rw [before]; exact List.mem_cons_of_mem _ hx)
  idle x hx := by rw [queue] at hx; exact hs.idle_of_mem before hx
  looped isolated := absurd isolated connected
  numbers := numbers

/-- The head has begun while the station contends for it. -/
theorem LineStands.begin {s t : State} (hs : LineStands s) {e' : TxEntry} {rest : List TxEntry} (contends : s.bus.line = .contending .queueHead)
    (queue : t.bus.queue = e' :: rest) (begun : e'.disposition = .begun) (line : t.bus.line = s.bus.line := by simp)
    (heartbeatSlot : t.bus.heartbeatSlot = s.bus.heartbeatSlot := by simp)
    (clash : t.bus.clash = s.bus.clash := by simp) (mode : t.mbu.mode = s.mbu.mode := by simp) : LineStands t where
  line := by
    unfold Bif.lineAgrees
    rw [line, contends]
    exact (headOffered_iff _).2 ⟨e', by rw [queue]; rfl, by rw [begun]; simp⟩
  probing := by rw [probing_congr heartbeatSlot, mode]; exact hs.probing
  live := by unfold State.onLine State.runs; rw [line, clash, mode]; exact hs.live

theorem numbersAgree_begun {b : Bif} {e : TxEntry} {rest : List TxEntry} (queue : b.queue = e :: rest) (other : ∀ x, e.body ≠ .state x)
    (ended : b.lastEnded = b.counter) : b.numbersAgree = true :=
  (numbersAgree_of_idle fun x first _ => by rw [queue] at first; cases first; exact other).2 ended

theorem seq_of_unsent {e : TxEntry} (agrees : e.agrees = true) (unsent : e.disposition = .unsent) : e.seq = none := by
  unfold TxEntry.agrees at agrees
  rw [unsent] at agrees
  cases body : e.body <;> simp_all

theorem toBody_of_begun {e : TxEntry} (agrees : e.agrees = true) (begun : e.disposition = .begun) : e.body.toBody.isSome = true := by
  unfold TxEntry.agrees at agrees
  rw [begun] at agrees
  cases body : e.body <;> simp_all [TxBody.toBody]

/-- The contents of an entry are a STATE exactly where its class is. -/
theorem cls_of_toBody {body : TxBody} {b : Body} (contents : body.toBody = some b) : b.cls = .state ↔ ∃ x, body = .state x := by
  cases body with
  | state x => cases contents; simp [Body.cls]
  | snapshot x | replay t x =>
    obtain ⟨y, -, rfl⟩ := Option.map_eq_some_iff.1 contents
    simp [Body.cls]
  | _ => cases contents; simp [Body.cls]

/-- A begun STATE has its number (R81). -/
theorem seq_of_begun {e : TxEntry} (agrees : e.agrees = true) (begun : e.disposition = .begun) {body : Body} (contents : e.body.toBody = some body)
    (state : body.cls = .state) : ∃ n, e.seq = some n := by
  obtain ⟨x, body⟩ := (cls_of_toBody contents).1 state
  unfold TxEntry.agrees at agrees
  rw [begun, body] at agrees
  exact Option.isSome_iff_exists.1 agrees

/-- A head that has begun stays at its place while unsent STATEs go and claims are served. -/
theorem busAgrees_supersede {s : State} (hs : BusAgrees s) {e : TxEntry} (first : s.bus.queue.head? = some e) (begun : e.disposition = .begun) :
    BusAgrees (supersede s) ∧ (supersede s).bus.queue.head? = some e := by
  have kept (x : TxEntry) (h : (!x.unsentState) = false) : x.disposition = .unsent := ((unsentState_iff x).1 (by simpa using h)).1
  have stays : (supersede s).bus.queue.head? = some e := by
    refine head?_filter_of_kept first ?_
    by_contra removed
    rw [kept e (by simpa using removed)] at begun
    cases begun
  rw [busAgrees_iff] at hs ⊢
  refine ⟨⟨hs.1.filter _ (fun x _ => kept x) rfl rfl rfl rfl, hs.2.of_head (fun _ => headStands_of_head fun x head => ?_)⟩, stays⟩
  rw [stays, ← first, head]

theorem head_offers {s : State} (connected : s.mbu.mode ≠ .isolated) {e : TxEntry} (first : s.bus.queue.head? = some e) : (offers s).bus.queue.head? = some e := by
  obtain ⟨more, queue, -⟩ := served_appends s connected
  rw [offers_eq_served, queue, List.head?_append, first]
  rfl

/-- The head that begins: of its class, with its contents, and unsent STATEs go as R41 says. -/
theorem busAgrees_beginHead {s : State} (hs : BusAgrees s) (contends : s.bus.line = .contending .queueHead) (connected : s.mbu.mode ≠ .isolated)
    {e : TxEntry} {rest : List TxEntry} (queue : s.bus.queue = e :: rest) (unsent : e.disposition = .unsent) :
    BusAgrees (beginHead e rest s) ∧ ∃ x, (beginHead e rest s).bus.queue.head? = some x ∧ x.disposition = .begun := by
  rw [busAgrees_iff] at hs
  obtain ⟨entries, stands⟩ := hs
  have agrees := entries.entries e (by rw [queue]; simp)
  have ended : s.bus.lastEnded = s.bus.counter := (numbersAgree_cons queue entries.numbers).2 (by simp [unsent])
  have plain (e' : TxEntry) (begun : e'.disposition = .begun) (agrees : e'.agrees = true) (other : ∀ x, e'.body ≠ .state x) :
      BusAgrees (s.setQueue (e' :: rest)) :=
    (busAgrees_iff _).2 ⟨entries.begin (t := s.setQueue _) queue rfl agrees connected (numbersAgree_begun rfl other ended), stands.begin contends rfl begun⟩
  have byte := seq_of_unsent agrees unsent
  unfold beginHead
  cases body : e.body with
  | state b =>
    refine ⟨(busAgrees_iff _).2 ⟨entries.begin queue rfl rfl connected ?_, stands.begin contends rfl rfl⟩, _, rfl, rfl⟩
    simp [Bif.numbersAgree, ended]
  | snapshot contents =>
    have begun := plain { e with body := .snapshot (some (snapshotEntries s)), disposition := .begun } rfl (by simp [TxEntry.agrees, byte]) (by simp)
    obtain ⟨superseded, first⟩ := busAgrees_supersede begun rfl rfl
    dsimp only
    exact ⟨busAgrees_offers superseded, _, head_offers (by exact connected) first, rfl⟩
  | replay target contents =>
    exact ⟨plain { e with body := .replay target (some (replayEntries s target)), disposition := .begun } rfl (by simp [TxEntry.agrees, byte]) (by simp), _, rfl, rfl⟩
  | _ =>
    dsimp only
    rw [← body]
    exact ⟨plain { e with disposition := .begun } rfl (by simp [TxEntry.agrees, body, byte]) (by simp [body]), _, rfl, rfl⟩

/-! ## The contents are fixed -/

/-- Contention won, the candidate's contents are fixed and nothing else disagrees (R72, R75). -/
theorem busAgrees_beginCandidate {s : State} (hs : BusAgrees s) {c : Candidate} (contends : s.bus.line = .contending c) :
    BusAgrees (beginCandidate c s) ∧ ((beginCandidate c s).bus.fixedContents c).isSome = true := by
  have stands := (own_stands hs.2.2.2.2.1)
  have live : s.onLine = true := hs.2.2.2.2.2.2 (by rw [contends]; rfl)
  rw [contends] at stands
  obtain ⟨mark, heartbeat, head⟩ := stands
  unfold beginCandidate
  cases c with
  | markSlot =>
    obtain ⟨m, slot⟩ := Option.ne_none_iff_exists'.1 (mark rfl)
    dsimp only
    rw [slot]
    dsimp only
    cases time : m.time with
    | some t => exact ⟨hs, by simp [Bif.fixedContents, slot, time]⟩
    | none =>
      refine ⟨?_, rfl⟩
      rw [busAgrees_iff] at hs ⊢
      exact ⟨hs.1.of_same, by unfold Bif.lineAgrees; rw [State.setBif_bus, contends]; rfl, hs.2.probing, hs.2.live⟩
  | heartbeatSlot =>
    obtain ⟨h, slot⟩ := Option.ne_none_iff_exists'.1 (heartbeat rfl)
    dsimp only
    rw [slot]
    dsimp only
    cases told : h.mode with
    | some m => exact ⟨hs, by simp [Bif.fixedContents, slot, told]⟩
    | none =>
      have runs : s.mbu.mode.runs = true := by
        unfold State.onLine State.runs at live
        exact (Bool.and_eq_true _ _ ▸ live).1
      refine ⟨?_, ?_⟩
      · rw [busAgrees_iff] at hs ⊢
        refine ⟨hs.1.of_same, by unfold Bif.lineAgrees; rw [State.setBif_bus, contends]; rfl, ?_, hs.2.live⟩
        have probing := hs.2.probing
        unfold Bif.probing at probing ⊢
        rw [slot] at probing
        exact probing
      · cases mode : s.mbu.mode <;> simp_all [Bif.fixedContents, Mode.bus, Mode.runs]
  | queueHead =>
    obtain ⟨e, first, offered⟩ := (headOffered_iff _).1 (head rfl)
    obtain ⟨rest, queue⟩ : ∃ rest, s.bus.queue = e :: rest := List.head?_eq_some_iff.1 first
    have connected : s.mbu.mode ≠ .isolated := fun isolated => offered (hs.2.2.1 isolated e (List.mem_of_mem_head? first))
    have fixed {t : State} (ht : BusAgrees t) {x : TxEntry} (first : t.bus.queue.head? = some x) (begun : x.disposition = .begun) :
        (t.bus.fixedContents .queueHead).isSome = true := by
      have agrees := ht.1 x (List.mem_of_mem_head? first)
      simpa [Bif.fixedContents, first, begun] using toBody_of_begun agrees begun
    dsimp only
    rw [queue]
    dsimp only
    split
    · rename_i unsent
      obtain ⟨kept, x, first, begun⟩ := busAgrees_beginHead hs contends connected queue unsent
      exact ⟨kept, fixed kept first begun⟩
    · rename_i sent
      refine ⟨hs, fixed hs first ?_⟩
      cases disposition : e.disposition with
      | begun => rfl
      | unsent => exact absurd disposition sent
      | loopedBack => exact absurd disposition offered

/-- The frame of a candidate whose contents are fixed has them, and a STATE its entry's number (R81). -/
theorem candidateFrame_of_fixed {s : State} (hs : BusAgrees s) {c : Candidate} {body : Body} (fixed : s.bus.fixedContents c = some body) :
    ∃ f, candidateFrame c s = some f ∧ f.body = body ∧ (f.body.cls ≠ .state ∨ s.bus.queue.head?.bind (·.seq) = some f.seq) := by
  unfold candidateFrame
  cases c with
  | markSlot =>
    cases slot : s.bus.markSlot with
    | none => simp [Bif.fixedContents, slot] at fixed
    | some m =>
      obtain ⟨t, time, rfl⟩ : ∃ t, m.time = some t ∧ Body.timeMark t = body := by simpa [Bif.fixedContents, slot] using fixed
      exact ⟨_, by dsimp only; rw [time]; rfl, rfl, Or.inl (by simp [Body.cls])⟩
  | heartbeatSlot =>
    cases slot : s.bus.heartbeatSlot with
    | none => simp [Bif.fixedContents, slot] at fixed
    | some h =>
      obtain ⟨m, mode, rfl⟩ : ∃ m, h.mode = some m ∧ Body.heartbeat m = body := by simpa [Bif.fixedContents, slot] using fixed
      exact ⟨_, by dsimp only; rw [mode]; rfl, rfl, Or.inl (by simp [Body.cls])⟩
  | queueHead =>
    cases queue : s.bus.queue with
    | nil => simp [Bif.fixedContents, queue] at fixed
    | cons e rest =>
      have agrees := hs.1 e (by rw [queue]; simp)
      by_cases begun : e.disposition = .begun
      · have contents : e.body.toBody = some body := by simpa [Bif.fixedContents, queue, begun] using fixed
        refine ⟨_, by dsimp only; rw [contents]; rfl, rfl, ?_⟩
        by_cases state : body.cls = .state
        · obtain ⟨n, seq⟩ := seq_of_begun agrees begun contents state
          exact Or.inr (by simp [seq])
        · exact Or.inl state
      · simp [Bif.fixedContents, queue, begun] at fixed

theorem busAgrees_winContention {s : State} (hs : BusAgrees s) {c : Candidate} (contends : s.bus.line = .contending c) : BusAgrees (winContention c s) := by
  obtain ⟨begun, fixed⟩ := busAgrees_beginCandidate hs contends
  obtain ⟨body, fixed⟩ := Option.isSome_iff_exists.1 fixed
  obtain ⟨f, frame, contents, seq⟩ := candidateFrame_of_fixed begun fixed
  have live : s.onLine = true := hs.2.2.2.2.2.2 (by rw [contends]; rfl)
  unfold winContention
  dsimp only
  rw [frame]
  rw [busAgrees_iff] at begun ⊢
  refine ⟨begun.1.of_same, ?_, begun.2.probing, fun _ => ?_⟩
  · show ((beginCandidate c s).setLine (.sending c f)).bus.lineAgrees = true
    simp only [Bif.lineAgrees, State.setLine, State.setBif_bus, Bool.and_eq_true, beq_iff_eq, Bool.or_eq_true, bne_iff_ne]
    exact ⟨by rw [contents]; exact fixed, seq⟩
  · show (beginCandidate c s).onLine = true
    unfold State.onLine State.runs at live ⊢
    simpa using live

end Sys2Proof.Machine
end

section
/-! Failed attempts, completions, passages and halts keep the Bus Interface (R68, R79, R80, R87, R88, R89, R92). -/
namespace Sys2Proof.Machine
set_option Elab.async false

/-! ## The entry to ISOLATED -/

theorem agrees_loopedIn {s : State} {ended : SeqNo} {e x : TxEntry} (h : e.loopedIn s ended = some x) : x.agrees = true := by
  unfold TxEntry.loopedIn at h
  cases body : e.body <;> rw [body] at h <;> cases h <;> simp [TxEntry.agrees]

theorem agrees_loopedQueue {s : State} {ended : SeqNo} {queue : List TxEntry} : ∀ e ∈ loopedQueue s ended queue, e.agrees = true := fun e he => by
  obtain ⟨x, -, hx⟩ := List.mem_filterMap.1 he
  exact agrees_loopedIn hx

/-- Every entry is looped back under a byte of its own, and what has ended is the counter's (R88, R90). -/
theorem busAgrees_enterIsolated {s : State} (hs : BusAgrees s) (idle : s.bus.line.own = none) : BusAgrees (enterIsolated s) := by
  rw [enterIsolated_eq (loopBackQueue_of_numbersAgree s hs.1 hs.2.1 hs.2.2.2.1), busAgrees_iff]
  have looped : ∀ e ∈ loopedQueue s s.bus.counter s.bus.queue, e.disposition = .loopedBack := loopedQueue_looped
  refine ⟨⟨agrees_loopedQueue, fun e he => ?_, fun _ => looped, ?_⟩, lineStands_of_idle idle nofun⟩
  · rw [looped e (List.mem_of_mem_tail he)]; simp
  · exact (numbersAgree_of_idle fun e first begun => by rw [looped e (List.mem_of_mem_head? first)] at begun; cases begun).2 rfl

/-! ## Failed attempts -/

theorem busAgrees_afterDiscard {s : State} (hs : BusAgrees s) (idle : s.bus.line.own = none) : BusAgrees (afterDiscard s) := by
  have counted : BusAgrees (countDiscard s) := hs.of_same
  unfold afterDiscard
  dsimp only
  split
  · exact busAgrees_offers (busAgrees_enterIsolated counted idle)
  · exact busAgrees_offers counted

/-- A STATE discarded after its first win ends; no other discard moves the numbers (R79, R82). -/
theorem lastEnded_settleDiscard (e : TxEntry) (s : State) : (settleDiscard e s).bus.lastEnded = endedBy (some e) s.bus.lastEnded := by
  unfold settleDiscard
  cases body : e.body with
  | state b =>
    rw [endedBy_of_state body]
    dsimp only
    unfold oweDiscarded
    split <;> rfl
  | _ => exact (endedBy_of_not_state (by simp [body]) _).symm

/-- An attempt fails on a line that is left, with the head offered where it is the head's. -/
theorem busAgrees_chargeAttempt {s : State} (hs : BusAgrees s) (idle : s.bus.line.own = none) {c : Candidate} (offered : c = .queueHead → s.bus.headOffered = true) :
    BusAgrees (chargeAttempt c s) := by
  rw [busAgrees_iff] at hs
  obtain ⟨entries, stands⟩ := hs
  have slots {t : State} (own : t.bus.line.own = none) (probing : t.bus.probing = true → s.bus.probing = true) (queue : t.bus.queue = s.bus.queue)
      (counter : t.bus.counter = s.bus.counter) (lastEnded : t.bus.lastEnded = s.bus.lastEnded) (mode : t.mbu.mode = s.mbu.mode) : BusAgrees t :=
    (busAgrees_iff t).2 ⟨entries.of_same queue counter lastEnded mode, lineStands_of_idle own fun h => by rw [mode]; exact stands.probing (probing h)⟩
  unfold chargeAttempt
  cases c with
  | markSlot =>
    dsimp only
    split
    · exact slots idle id rfl rfl rfl rfl
    · split
      · exact slots idle id rfl rfl rfl rfl
      · exact busAgrees_afterDiscard (slots (t := releaseMarkTimer (s.setBif _)) idle id rfl rfl rfl rfl) idle
  | heartbeatSlot =>
    dsimp only
    split
    · exact slots idle id rfl rfl rfl rfl
    · rename_i h slot
      split
      · exact slots (t := s.setBif _) idle nofun rfl rfl rfl rfl
      · split
        · refine slots (t := s.setBif _) idle (fun h => ?_) rfl rfl rfl rfl
          unfold Bif.probing
          rw [slot]
          exact h
        · exact busAgrees_afterDiscard (slots (t := s.setBif _) idle nofun rfl rfl rfl rfl) idle
  | queueHead =>
    obtain ⟨e, first, sent⟩ := (headOffered_iff _).1 (offered rfl)
    obtain ⟨rest, queue⟩ : ∃ rest, s.bus.queue = e :: rest := List.head?_eq_some_iff.1 first
    have agrees := entries.entries e (by rw [queue]; simp)
    have connected : s.mbu.mode ≠ .isolated := fun isolated => sent (entries.looped isolated e (List.mem_of_mem_head? first))
    dsimp only
    rw [queue]
    dsimp only
    split
    · refine (busAgrees_iff _).2 ⟨entries.begin (t := s.setQueue _) queue rfl agrees connected ?_, lineStands_of_idle idle stands.probing⟩
      have numbers := entries.numbers
      unfold Bif.numbersAgree at numbers ⊢
      rw [queue] at numbers
      exact numbers
    · have ended : (settleDiscard e (s.setQueue rest)).bus.lastEnded = s.bus.counter := by
        rw [lastEnded_settleDiscard]
        exact endedBy_head (s := s) queue agrees sent entries.numbers
      have own : (settleDiscard e (s.setQueue rest)).bus.line.own = none := by simpa using idle
      refine busAgrees_afterDiscard ((busAgrees_iff _).2 ⟨entries.tail (by simp [queue]) (by simp) ended (by simp), lineStands_of_idle own ?_⟩) own
      rw [probing_congr (b := s.bus) (by simp)]
      simpa using stands.probing

/-! ## Completion and passage -/

/-- The frame on the line ends: a STATE leaves its number as the latest to have ended (R68, R82). -/
theorem busAgrees_released {s : State} (hs : BusAgrees s) {c : Candidate} {f : Frame} (sends : s.bus.line = .sending c f) (o : Origin) :
    BusAgrees (releaseCandidate c f (receive f o (s.setLine .seeking)))
      ∧ (c = .heartbeatSlot → (releaseCandidate c f (receive f o (s.setLine .seeking))).bus.heartbeatSlot = none) := by
  rw [busAgrees_iff] at hs ⊢
  obtain ⟨entries, stands⟩ := hs
  unfold releaseCandidate
  cases c with
  | markSlot => exact ⟨⟨entries.of_same, lineStands_of_idle rfl stands.probing⟩, nofun⟩
  | heartbeatSlot => exact ⟨⟨entries.of_same, lineStands_of_idle rfl nofun⟩, fun _ => rfl⟩
  | queueHead =>
    obtain ⟨e, first, begun, contents, seq⟩ := (lineAgrees_sending_head sends).1 stands.line
    obtain ⟨rest, queue⟩ : ∃ rest, s.bus.queue = e :: rest := List.head?_eq_some_iff.1 first
    obtain ⟨carries, ended⟩ := numbersAgree_cons queue entries.numbers
    refine ⟨⟨entries.tail (t := State.setBif _ _) rfl rfl ?_ rfl, lineStands_of_idle rfl stands.probing⟩, nofun⟩
    by_cases state : f.body.cls = .state
    · have body := (cls_of_toBody contents).1 state
      rw [State.setBif_bus]
      dsimp only
      rw [if_pos state]
      exact Option.some.inj ((seq state).symm.trans (carries begun body))
    · rw [State.setBif_bus]
      dsimp only
      rw [if_neg state]
      exact ended fun h => state ((cls_of_toBody contents).2 h.2)

theorem busAgrees_exitIsolated {s : State} (hs : BusAgrees s) (idle : s.bus.line.own = none) (empty : s.bus.heartbeatSlot = none) : BusAgrees (exitIsolated s) := by
  have changed (m : Mode) (connected : m ≠ .isolated) (t : State) (bus : t.bus = { s.bus with streak := 0, probe := .stopped }) (mode : t.mbu.mode = m) : BusAgrees t := by
    rw [busAgrees_iff] at hs ⊢
    refine ⟨hs.1.of_mode (by rw [mode]; exact connected) (by rw [bus]) (by rw [bus]) (by rw [bus]), lineStands_of_idle (by rw [bus]; exact idle) ?_⟩
    unfold Bif.probing
    rw [bus]
    dsimp only
    rw [empty]
    exact nofun
  unfold exitIsolated
  dsimp only
  split
  · refine busAgrees_offers (busAgrees_claimJoin (changed .joining (by simp) _ ?_ ?_) ?_) <;> split <;> simp
  · exact busAgrees_offers (busAgrees_claimSnapshot (changed .active (by simp) _ (by simp) (by simp)))
  · exact busAgrees_offers (busAgrees_claimSnapshot (changed .active (by simp) _ (by simp) (by simp)))

theorem busAgrees_completeFrame {s : State} (hs : BusAgrees s) {c : Candidate} {f : Frame} (sends : s.bus.line = .sending c f) : BusAgrees (completeFrame c f s) := by
  obtain ⟨released, empty⟩ := busAgrees_released hs sends .line
  have idle : (releaseCandidate c f (receive f .line (s.setLine .seeking))).bus.line.own = none := by cases c <;> rfl
  unfold completeFrame
  dsimp only
  generalize releaseCandidate c f (receive f .line (s.setLine .seeking)) = u at released empty idle ⊢
  have streak : BusAgrees (u.setBif { u.bus with streak := 0 }) := released.of_same
  split
  · rename_i probe
    simp only [Bool.and_eq_true, beq_iff_eq] at probe
    exact busAgrees_exitIsolated streak idle (empty probe.1)
  · exact busAgrees_offers streak

/-- A passage takes out a looped-back head, which nothing on the line stands for (R89). -/
theorem busAgrees_passLooped {s : State} (hs : BusAgrees s) : BusAgrees (passLooped s) := by
  unfold passLooped
  split
  · exact hs
  · rename_i e rest passing
    split
    · exact hs
    · rename_i f frame
      obtain ⟨queue, looped, -, idle, -⟩ := (passing_iff ..).1 passing
      rw [busAgrees_iff] at hs
      obtain ⟨entries, stands⟩ := hs
      have ended := (numbersAgree_cons queue entries.numbers).2 (by simp [looped])
      have passed : BusAgrees (receive f .loopback (s.setQueue rest)) :=
        (busAgrees_iff _).2 ⟨entries.tail (by simp [queue]) (by simp) ended (by simp), lineStands_of_idle idle stands.probing⟩
      exact busAgrees_offers passed

/-! ## Reception and halts -/

theorem busAgrees_enterHalted {s : State} (hs : BusAgrees s) {cause : HaltCause} (probing : s.bus.probing = true → cause = .addressClash) : BusAgrees (enterHalted cause s) := by
  rw [busAgrees_iff] at hs ⊢
  refine ⟨hs.1.of_mode (by simp), lineStands_of_idle (by simp [enterHalted, Line.own]) fun h => Or.inr ?_⟩
  have probe : s.bus.probing = true := by rwa [probing_congr (b := s.bus) (by simp)] at h
  rw [probing probe]
  simp

theorem busAgrees_clashFound {s : State} (hs : BusAgrees s) : BusAgrees (clashFound s) := by
  have found : BusAgrees (s.setBif { s.bus with line := .seeking, idleWait := .stopped, probe := .stopped, clash := true }) := hs.of_line rfl
  unfold clashFound
  dsimp only
  split
  · exact busAgrees_enterHalted found fun _ => rfl
  · exact found

theorem busAgrees_receiveFrame {s : State} (hs : BusAgrees s) (bytes : List Byte) : BusAgrees (receiveFrame bytes s) := by
  have left : BusAgrees (s.setLine .seeking) := hs.of_line rfl
  unfold receiveFrame
  dsimp only
  split
  · exact left
  · split
    · exact busAgrees_clashFound left
    · split
      · exact left
      · exact left.of_same

end Sys2Proof.Machine
end

section
/-! O54: the Bus Interface agrees after every step. -/
namespace Sys2Proof.Machine
set_option Elab.async false

section
variable {s : State} (hs : BusAgrees s)
include hs

theorem BusAgrees.settled : BusAgrees (settleIdleWait s) := hs.of_same

theorem BusAgrees.restarted : BusAgrees (restartIdleWait s) := hs.of_same

/-! ## Deliveries -/

theorem busAgrees_claimStale (st : Addr) : BusAgrees (claimStale st s) := hs.of_same

theorem busAgrees_considerReplay (st : Addr) (mask : BitVec 16) : BusAgrees (considerReplay st mask s) := hs.of_same

theorem busAgrees_beginWait (st : Addr) : BusAgrees (beginWait st s) := by
  unfold beginWait
  exact busAgrees_claimStale (busAgrees_claimResync (hs.setMember ..) st) st

theorem busAgrees_streamHeard (st : Addr) (c : SeqNo) (b : Body) : BusAgrees (streamHeard st c b s) := by
  unfold streamHeard
  dsimp only
  split
  · exact busAgrees_beginWait (hs.setMember ..) st
  · exact hs.setMember ..

theorem busAgrees_joinHeard (st : Addr) (c : SeqNo) (mask : BitVec 16) : BusAgrees (joinHeard st c mask s) := by
  unfold joinHeard
  dsimp only
  split
  · exact busAgrees_considerReplay (busAgrees_claimSnapshot (busAgrees_claimStale (hs.setMember ..) st)) st mask
  · exact hs.setMember ..

theorem busAgrees_peerHeard (f : Frame) : BusAgrees (peerHeard f s) := by
  have start : BusAgrees (restartSilence f.src s) := hs.setMember ..
  unfold peerHeard
  dsimp only
  split
  · exact hs
  · cases f.body with
    | join mask => exact busAgrees_joinHeard start ..
    | snapshot es => exact start.of_same
    | _ => exact busAgrees_streamHeard start ..

theorem busAgrees_peerClassHandling (e : RxEntry) : BusAgrees (peerClassHandling e s) := by
  unfold peerClassHandling
  cases e.frame.body with
  | resyncRequest t => dsimp only; split; exacts [busAgrees_claimSnapshot hs, hs]
  | replay t es => dsimp only; split; exacts [(busAgrees_withdrawReplay hs t).of_same, busAgrees_withdrawReplay hs t]
  | _ => exact hs

/-- A station that has been LOADING or JOINING has no probe in its slot (R91). -/
theorem BusAgrees.not_probing (connected : s.mbu.mode ≠ .isolated) (clash : s.mbu.mode ≠ .halted .addressClash) : s.bus.probing = false := by
  rw [← Bool.not_eq_true]
  intro probing
  rcases hs.2.2.2.2.2.1 probing with mode | mode
  exacts [connected mode, clash mode]

/-- The join completes: JOINING becomes ACTIVE, and the line goes on (R121). -/
theorem busAgrees_joinComplete (joining : s.mbu.mode = .joining) : BusAgrees (changeMode .active .joinComplete s) := by
  have quiet := hs.not_probing (by rw [joining]; simp) (by rw [joining]; simp)
  rw [busAgrees_iff] at hs ⊢
  have bus : (changeMode .active .joinComplete s).bus = s.bus := by simp
  refine ⟨hs.1.of_mode (by simp), ⟨by rw [bus]; exact hs.2.line, by rw [bus, quiet]; exact nofun, fun own => ?_⟩⟩
  rw [bus] at own
  have live := hs.2.live own
  unfold State.onLine State.runs at live ⊢
  rw [joining] at live
  simpa [Mode.runs] using live

theorem busAgrees_ownHeard (e : RxEntry) : BusAgrees (ownHeard e s) := by
  unfold ownHeard
  cases e.frame.body with
  | join mask => exact hs.of_same
  | snapshot es => dsimp only; split; exacts [busAgrees_joinComplete hs (by simp_all), hs]
  | replay t es => exact busAgrees_withdrawReplay hs t
  | _ => exact hs

theorem busAgrees_mbuStage (e : RxEntry) : BusAgrees (mbuStage e s) := by
  unfold mbuStage
  split
  · exact busAgrees_peerClassHandling (busAgrees_peerHeard hs e.frame) e
  · exact busAgrees_ownHeard hs e

theorem busAgrees_psqStage (passed : Bool) (f : Frame) : BusAgrees (psqStage passed f s) := by
  unfold psqStage
  cases f.body with
  | ack mask => exact busAgrees_takeRequest hs ..
  | reset mask => exact busAgrees_takeRequest hs ..
  | replay t es => dsimp only; split; exacts [busAgrees_adoptReplay hs es, hs]
  | _ => exact hs

theorem busAgrees_tmbStage (f : Frame) : BusAgrees (tmbStage f s) := by
  unfold tmbStage
  cases f.body with
  | timeMark t => exact busAgrees_withdrawMark (s := s.setTmb _) hs
  | _ => exact hs

theorem busAgrees_deliverStages (e : RxEntry) : BusAgrees (deliverStages e s) :=
  busAgrees_tmbStage (busAgrees_psqStage ((busAgrees_mbuStage hs e).of_same (t := gtuStage e.frame (mbuStage e s))) ..) _

theorem busAgrees_deliver (cls : FrameClass) {t : State} (h : deliver cls s = .next t) : BusAgrees t := by
  cases hd : s.deliverable cls with
  | none => rw [deliver_none hd] at h; cases h; exact hs
  | some e => rw [deliver_some hd] at h; cases h; exact (busAgrees_deliverStages hs e).of_same

/-! ## The panel, the timers and the start -/

theorem busAgrees_debounce (b : Button) : BusAgrees (debounce b s) := by
  have pressed : ∀ u, BusAgrees u → BusAgrees (press b u) := fun u hu => by
    unfold press
    cases b with
    | ack => dsimp only; split; exacts [busAgrees_claimAck hu, hu]
    | reset => dsimp only; split; exacts [busAgrees_claimReset hu, hu]
    | silence => exact hu.of_same
    | test => exact hu.of_same
  unfold debounce
  dsimp only
  split
  · exact hs.of_same
  · exact pressed _ hs

theorem busAgrees_resyncExpired (st : Addr) : BusAgrees (resyncExpired st s) := by
  unfold resyncExpired
  split
  · exact busAgrees_claimResync (hs.setMember ..) st
  · exact hs.of_same

theorem busAgrees_loadAccepted (loading : s.mbu.mode = .loading) (c : StationConfig) : BusAgrees (loadAccepted c s) := by
  have quiet := hs.not_probing (by rw [loading]; simp) (by rw [loading]; simp)
  rw [busAgrees_iff] at hs
  unfold loadAccepted
  refine busAgrees_claimJoin ((busAgrees_iff _).2 ⟨hs.1.of_mode (by simp), lineStands_of_idle (by simp [Line.own]) fun probing => ?_⟩) (by simp)
  rw [probing_congr (b := s.bus) (by simp), quiet] at probing
  cases probing

theorem busAgrees_finishRead (loading : s.mbu.mode = .loading) (image : List Byte) : BusAgrees (finishRead image s) := by
  have quiet := hs.not_probing (by rw [loading]; simp) (by rw [loading]; simp)
  unfold finishRead
  split
  · exact (busAgrees_loadAccepted hs loading _).settled
  · split
    · exact hs
    · unfold loadRefused
      refine busAgrees_enterHalted (by exact hs) fun probing => ?_
      rw [State.setLoader_bus, quiet] at probing
      cases probing

/-- The line is left, or taken up by another. -/
theorem busAgrees_setLine {l : Line} (idle : l.own = none) : BusAgrees (s.setLine l) := hs.of_line idle

theorem busAgrees_abandonFrame (reason : AbandonReason) : BusAgrees (abandonFrame reason s) := by
  rcases abandonFrame_spec reason s with e | e <;> rw [e]
  exacts [(busAgrees_setLine hs rfl).restarted, (busAgrees_setLine hs rfl).settled]

omit hs in
/-- The candidate that the idle-wait timer charges stands to be offered (R76, R78). -/
theorem headOffered_of_candidate {b : Bif} (h : b.candidate = some .queueHead) : b.headOffered = true := by
  by_contra unoffered
  unfold Bif.candidate at h
  rw [if_neg unoffered] at h
  split at h
  · cases h
  · split at h <;> cases h

/-- A frame begins with the line's candidate (R66, R76). -/
theorem busAgrees_begin {c : Candidate} (begins : s.beginsWith = some c) : BusAgrees (s.setLine (.contending c)) := by
  unfold State.beginsWith at begins
  split at begins
  · rename_i ready
    simp only [Bool.and_eq_true] at ready
    rw [busAgrees_iff] at hs ⊢
    refine ⟨hs.1.of_same, ?_, hs.2.probing, fun _ => ready.1.1⟩
    unfold Bif.lineAgrees
    unfold Bif.candidate at begins
    (repeat' split at begins) <;> cases begins <;> assumption
  · cases begins

theorem busAgrees_idleWaitExpiry {c : Candidate} (charges : s.idleWaitCharges = some c) : BusAgrees (chargeAttempt c s) := by
  unfold State.idleWaitCharges at charges
  split at charges
  · rename_i due
    simp only [State.idleWaitRuns, Bool.and_eq_true, Option.isNone_iff_eq_none] at due
    exact busAgrees_chargeAttempt hs due.1.2 fun head => headOffered_of_candidate (charges.trans (congrArg some head))
  · cases charges

theorem busAgrees_transmitError {c : Candidate} (own : s.bus.line.own = some c) : BusAgrees (failAttempt c s) := by
  unfold failAttempt
  refine (busAgrees_chargeAttempt (busAgrees_setLine hs rfl) rfl fun head => ?_).restarted
  exact (own_stands hs.2.2.2.2.1).2.2 (by rw [own, head])

theorem busAgrees_winner {c : Candidate} (contends : s.contender = some c) : BusAgrees (settleIdleWait (winContention c s)) :=
  (busAgrees_winContention hs ((contender_iff ..).1 contends)).settled

end

theorem busAgrees_coldState (low : Bool) (s : State) : BusAgrees (coldState low s) := by
  have none (e : TxEntry) (he : e ∈ (coldState low s).bus.queue) : False := List.not_mem_nil he
  exact ⟨fun e he => (none e he).elim, fun e he => (none e (List.mem_of_mem_tail he)).elim, nofun, rfl, rfl, nofun, nofun⟩

/-! ## The commands -/

theorem busAgrees_exec {c : Instr} {s t : State} (hs : BusAgrees s) (h : exec c s = .next t) : BusAgrees t := by
  have settles {cond : Bool} {f : State → State} (hf : cond = true → BusAgrees (f s)) :
      arise cond (fun s => settleIdleWait (f s)) s = .next t → BusAgrees t := arise_keeps hs fun happens => (hf happens).settled
  cases c with
  | coldStart cause =>
    cases cause with
    | resetLow => rw [exec_coldStart_resetLow] at h; cases h; exact busAgrees_coldState _ _
    | powerOn straps => rw [exec_coldStart_powerOn] at h; cases h; exact busAgrees_coldState false s
  | readStart => rw [exec_readStart] at h; exact arise_keeps hs (fun _ => hs) h
  | readComplete image =>
    rw [exec_readComplete] at h
    split at h
    · refine arise_keeps hs (fun reading => busAgrees_finishRead hs ?_ image) h
      simp only [State.reading, State.loadingRuns, Bool.and_eq_true, beq_iff_eq] at reading
      exact reading.1.2
    · cases h
  | tick points buttons => rw [exec_tick] at h; exact arise_keeps hs (fun _ => hs.of_same) h
  | countdownExpiry p => exact settles (fun _ => busAgrees_qualify hs p) h
  | drainTimerExpiry => exact settles (fun _ => busAgrees_drainStep hs) h
  | debounce b => exact settles (fun _ => busAgrees_debounce hs b) h
  | beginFrame =>
    rw [exec_beginFrame] at h
    unfold execBeginFrame at h
    split at h <;> cases h
    exacts [(busAgrees_begin hs ‹_›).settled, hs]
  | loseContention =>
    rw [exec_loseContention] at h
    unfold execLoseContention at h
    split at h <;> cases h
    exacts [(busAgrees_setLine hs rfl).settled, hs]
  | winContention =>
    rw [exec_winContention] at h
    unfold execWinContention at h
    split at h <;> cases h
    exacts [busAgrees_winner hs ‹_›, hs]
  | transmitError =>
    rw [exec_transmitError] at h
    unfold execTransmitError at h
    split at h <;> cases h
    exacts [busAgrees_transmitError hs ‹_›, hs]
  | idleWaitExpiry =>
    rw [exec_idleWaitExpiry] at h
    unfold execIdleWaitExpiry at h
    split at h <;> cases h
    exacts [(busAgrees_idleWaitExpiry hs ‹_›).restarted, hs]
  | frameCompletion =>
    rw [exec_frameCompletion] at h
    unfold execFrameCompletion at h
    split at h <;> cases h
    exacts [(busAgrees_completeFrame hs ‹_›).restarted, hs, hs, hs, hs]
  | frameReceived bytes =>
    rw [exec_frameReceived] at h
    split at h
    · exact settles (fun _ => busAgrees_receiveFrame hs bytes) h
    · cases h
  | frameAbandoned reason => rw [exec_frameAbandoned] at h; exact arise_keeps hs (fun _ => busAgrees_abandonFrame hs reason) h
  | addressClashHalt => rw [exec_addressClashHalt] at h; exact arise_keeps hs (fun _ => busAgrees_enterHalted hs fun _ => rfl) h
  | loopbackPassage => exact settles (fun _ => busAgrees_passLooped hs) h
  | deliverTimeMark => exact busAgrees_deliver hs _ h
  | deliverState => exact busAgrees_deliver hs _ h
  | deliverAck => exact busAgrees_deliver hs _ h
  | deliverReset => exact busAgrees_deliver hs _ h
  | deliverSnapshot => exact busAgrees_deliver hs _ h
  | deliverReplay => exact busAgrees_deliver hs _ h
  | deliverResyncRequest => exact busAgrees_deliver hs _ h
  | deliverJoin => exact busAgrees_deliver hs _ h
  | deliverHeartbeat => exact busAgrees_deliver hs _ h
  | heartbeatTimerExpiry => exact settles (fun _ => busAgrees_beatHeart hs) h
  | silenceTimerExpiry st => rw [exec_silenceTimerExpiry] at h; exact arise_keeps hs (fun _ => hs.of_same) h
  | resyncTimerExpiry st => exact settles (fun _ => busAgrees_resyncExpired hs st) h
  | replayTimerExpiry st => exact settles (fun _ => busAgrees_claimReplay hs st) h
  | joinWindowExpiry => exact settles (f := fun s => freshStart (closeJoin s)) (fun _ => busAgrees_freshStart hs.of_same) h
  | probeTimerExpiry =>
    refine settles (fun expires => busAgrees_placeProbe hs ?_) h
    simp only [State.probeExpires, State.isolated, Bool.and_eq_true, beq_iff_eq] at expires
    exact expires.1
  | markTimerExpiry => exact settles (fun _ => busAgrees_markExpired hs) h
  | stageTimerExpiry => rw [exec_stageTimerExpiry] at h; exact arise_keeps hs (fun _ => hs.of_same) h
  | chimeTimerExpiry => rw [exec_chimeTimerExpiry] at h; exact arise_keeps hs (fun _ => hs.of_same) h
  | logrdyChange high => rw [exec_logrdyChange] at h; cases h; exact hs.of_same
  | recordDeparture => rw [exec_recordDeparture] at h; exact arise_keeps hs (fun _ => hs.of_same) h
  | resetRelease straps => rw [exec_resetRelease] at h; exact arise_keeps hs (fun _ => hs) h
  | millisecond => rw [exec_millisecond] at h; exact arise_keeps hs (fun _ => hs) h
  | idleGap => rw [exec_idleGap] at h; exact arise_keeps hs (fun _ => busAgrees_abandonFrame hs .idleGapBeforeEnd) h

/-- Settles O54: entries, numbers, line and slots agree after every command, each operation through its own lemma. -/
theorem stepsKeepTheBusInterface : Obligations.StepsKeepTheBusInterface := by
  intro s s' hs h
  exact step_keeps (fun _ _ hs => hs) (fun _ _ _ hs he => busAgrees_exec hs he) hs h

end Sys2Proof.Machine
end

section
/-! The line of the Bus Interface command by command: gaps, beginnings, wins and failed attempts: O15, O16, O17, O19, O20 (R66 to
R69, R75 to R78, R81, R82). -/
namespace Sys2Proof.Machine
set_option Elab.async false

/-! ## O16: the line left -/

/-- What settling after a moved line changes is the line and the timer. -/
theorem settleIdleWait_setLine (s : State) (l : Line) :
    settleIdleWait (s.setLine l) = { s with bus := { s.bus with line := l, idleWait := (settleIdleWait (s.setLine l)).bus.idleWait } }
      ∧ IdleWaitSettled s (settleIdleWait (s.setLine l)) :=
  ⟨settleIdleWait_bus (s.setLine l), (settleIdleWait_spec (s.setLine l)).of_timer rfl⟩

/-- A completed gap is complete for both commands that can tell of it. -/
theorem arise_completeGap_idem (cond : Bool) (s : State) : arise cond completeGap (completeGap s) = .next (completeGap s) := by
  cases cond
  · rfl
  · exact congrArg Host.Outcome.next (completeGap_idem s)

/-- Settles O16: each command moves the line, and settles or restarts the timer. -/
theorem lineEventsMoveTheLine : Obligations.LineEventsMoveTheLine := by
  intro s
  have live (runs : s.runs = true) (clash : s.bus.clash = false) : s.onLine = true := by simp [State.onLine, runs, clash]
  have receives (runs : s.runs = true) (clash : s.bus.clash = false) (line : s.bus.line = .gap ∨ s.bus.line = .receiving) : s.receives = true := by
    rcases line with line | line <;> simp [State.receives, live runs clash, line]
  refine ⟨fun c line => ?_, fun reason other runs clash line => ?_, fun runs clash line => ?_, fun runs clash free => ?_⟩
  · obtain ⟨moved, settled⟩ := settleIdleWait_setLine s .receiving
    exact ⟨_, by rw [exec_loseContention, execLoseContention, State.contender, line], moved, settled⟩
  · obtain ⟨moved, settled⟩ := settleIdleWait_setLine s .seeking
    refine ⟨_, ?_, moved, settled⟩
    rw [exec_frameAbandoned, arise_true (receives runs clash line)]
    rcases other with rfl | rfl | rfl <;> rfl
  · obtain ⟨moved, restarted⟩ := completeGap_spec s
    refine ⟨_, ?_, moved, restarted, by rw [exec_idleGap]; exact arise_completeGap_idem ..⟩
    rw [exec_frameAbandoned, arise_true (receives runs clash line)]
    rfl
  · obtain ⟨moved, restarted⟩ := completeGap_spec s
    refine ⟨_, ?_, moved, restarted, by rw [exec_frameAbandoned]; exact arise_completeGap_idem ..⟩
    have complete : s.gapMayComplete = true := by simp [State.gapMayComplete, live runs clash, free]
    rw [exec_idleGap, arise_true complete]

/-! ## O15: the candidate of lowest class -/

theorem beginsWith_of_gap {s : State} (runs : s.runs = true) (clash : s.bus.clash = false) (gap : s.bus.line = .gap) :
    s.beginsWith = if s.bus.rx.length < 6 then s.bus.candidate else none := by
  have live : s.onLine = true := by simp [State.onLine, runs, clash]
  have free : (!s.bus.heldOff) = decide (s.bus.rx.length < 6) := by unfold Bif.heldOff; rw [Bool.not_not]; rfl
  unfold State.beginsWith
  rw [live, gap, free]
  by_cases h : s.bus.rx.length < 6 <;> simp [h]

/-- The candidates in the order of their classes (R76). -/
theorem candidate_eq_some {b : Bif} {c : Candidate}
    (h : (c = .markSlot ∧ b.markSlot ≠ none) ∨ (c = .queueHead ∧ b.markSlot = none ∧ b.headOffered = true)
      ∨ (c = .heartbeatSlot ∧ b.markSlot = none ∧ ¬ b.headOffered = true ∧ b.heartbeatSlot ≠ none)) : b.candidate = some c := by
  unfold Bif.candidate
  rcases h with ⟨rfl, mark⟩ | ⟨rfl, mark, head⟩ | ⟨rfl, mark, head, beat⟩
  · rw [if_pos (Option.isSome_iff_ne_none.2 mark)]
  · rw [mark, head]; rfl
  · rw [mark, if_neg (by simp), if_neg head, if_pos (Option.isSome_iff_ne_none.2 beat)]

/-- Settles O15: the station begins with its candidate, which the slots and the head determine. -/
theorem frameOfLowestClassBegins : Obligations.FrameOfLowestClassBegins := by
  intro s c runs clash gap head
  have begins := beginsWith_of_gap runs clash gap
  have offered : s.bus.headOffered = true ↔ head := headOffered_iff s.bus
  refine ⟨fun free chosen => ?_, fun idle => ?_⟩
  · rw [← offered] at chosen
    rw [exec_beginFrame, execBeginFrame, begins, if_pos free, candidate_eq_some chosen]
    exact congrArg _ (settleIdleWait_of_own rfl)
  · have none : s.beginsWith = none := by
      rw [begins]
      rcases idle with full | ⟨mark, unoffered, beat⟩
      · exact if_neg (by omega)
      · rw [← offered] at unoffered
        simp [Bif.candidate, mark, unoffered, beat]
    rw [exec_beginFrame, execBeginFrame, none]

/-! ## O17, O19: contention won -/

/-- A win with the begun candidate's frame given: the frame is on the line, and the timer stops for the attempt (R67, R78). -/
theorem exec_winContention_of {s u : State} {c : Candidate} {f : Frame} (line : s.bus.line = .contending c) (begun : beginCandidate c s = u)
    (frame : candidateFrame c u = some f) :
    exec .winContention s = .next { u with bus := { u.bus with line := .sending c f, idleWait := .stopped } } := by
  have wins : winContention c s = u.setLine (.sending c f) := by
    unfold winContention; dsimp only; rw [begun, frame]
  rw [exec_winContention, execWinContention, State.contender, line]
  dsimp only
  rw [wins]
  exact congrArg _ (settleIdleWait_of_own rfl)

theorem beginCandidate_head_of_unsent {s : State} {e : TxEntry} {rest : List TxEntry} (queue : s.bus.queue = e :: rest) (unsent : e.disposition = .unsent) :
    beginCandidate .queueHead s = beginHead e rest s := by
  unfold beginCandidate; dsimp only; rw [queue]; exact if_pos unsent

theorem beginCandidate_head_of_sent {s : State} {e : TxEntry} {rest : List TxEntry} (queue : s.bus.queue = e :: rest) (sent : e.disposition ≠ .unsent) :
    beginCandidate .queueHead s = s := by
  unfold beginCandidate; dsimp only; rw [queue]; exact if_neg sent

theorem candidateFrame_head {s : State} {e : TxEntry} {rest : List TxEntry} {body : Body} (queue : s.bus.queue = e :: rest) (contents : e.body.toBody = some body) :
    candidateFrame .queueHead s = some { src := s.own, seq := e.seq.getD s.bus.lastEnded, body := body } := by
  unfold candidateFrame; dsimp only; rw [queue]; dsimp only; rw [contents]; rfl

/-- Settles O17: the STATE begins under counter + 1, and the frame has the entry's number. -/
theorem wonStateTakesItsNumber : Obligations.WonStateTakesItsNumber := by
  intro s e rest b line queue body unsent n
  obtain ⟨contents, disposition, attempts, seq⟩ := e
  obtain rfl : contents = .state b := body
  exact exec_winContention_of line (beginCandidate_head_of_unsent queue unsent) rfl

theorem beginCandidate_markSlot_of_untaken {s : State} {m : MarkSlot} (slot : s.bus.markSlot = some m) (untaken : m.time = none) :
    beginCandidate .markSlot s = s.setBif { s.bus with markSlot := some { m with time := some s.tmb.groupTime } } := by
  unfold beginCandidate; dsimp only; rw [slot]; dsimp only; rw [untaken]

theorem beginCandidate_markSlot_of_taken {s : State} {m : MarkSlot} {time : Millis} (slot : s.bus.markSlot = some m) (taken : m.time = some time) :
    beginCandidate .markSlot s = s := by
  unfold beginCandidate; dsimp only; rw [slot]; dsimp only; rw [taken]

theorem beginCandidate_heartbeatSlot_of_untold {s : State} {h : HeartbeatSlot} (slot : s.bus.heartbeatSlot = some h) (untold : h.mode = none) :
    beginCandidate .heartbeatSlot s = s.setBif { s.bus with heartbeatSlot := some { h with mode := s.mbu.mode.bus } } := by
  unfold beginCandidate; dsimp only; rw [slot]; dsimp only; rw [untold]

theorem beginCandidate_heartbeatSlot_of_told {s : State} {h : HeartbeatSlot} {mode : BusMode} (slot : s.bus.heartbeatSlot = some h) (told : h.mode = some mode) :
    beginCandidate .heartbeatSlot s = s := by
  unfold beginCandidate; dsimp only; rw [slot]; dsimp only; rw [told]

theorem candidateFrame_markSlot {s : State} {m : MarkSlot} {time : Millis} (slot : s.bus.markSlot = some m) (taken : m.time = some time) :
    candidateFrame .markSlot s = some { src := s.own, seq := s.bus.lastEnded, body := .timeMark time } := by
  unfold candidateFrame; dsimp only; rw [slot]; dsimp only; rw [taken]; rfl

theorem candidateFrame_heartbeatSlot {s : State} {h : HeartbeatSlot} {mode : BusMode} (slot : s.bus.heartbeatSlot = some h) (told : h.mode = some mode) :
    candidateFrame .heartbeatSlot s = some { src := s.own, seq := s.bus.lastEnded, body := .heartbeat mode } := by
  unfold candidateFrame; dsimp only; rw [slot]; dsimp only; rw [told]; rfl

/-- The classes without contents to fix begin by their disposition alone (R75). -/
theorem beginHead_of_plain {s : State} {e : TxEntry} (rest : List TxEntry)
    (plain : (∃ mask, e.body = .ack mask) ∨ (∃ mask, e.body = .reset mask) ∨ (∃ target, e.body = .resyncRequest target) ∨ (∃ mask, e.body = .join mask)) :
    beginHead e rest s = s.setQueue ({ e with disposition := .begun } :: rest) := by
  unfold beginHead
  rcases plain with ⟨x, body⟩ | ⟨x, body⟩ | ⟨x, body⟩ | ⟨x, body⟩ <;> rw [body]

/-- Settles O19: the contents that a first win fixes, class by class, and those a later one keeps. -/
theorem wonFrameFixesItsContents : Obligations.WonFrameFixesItsContents := by
  intro s
  refine ⟨fun m line slot untaken => ?_, fun h mode line slot untold modes => ?_, fun e rest target line queue body unsent seq => ?_,
    fun e rest body line queue unsent seq plain => ?_, fun m time line slot taken => ?_, fun h mode line slot told => ?_,
    fun e rest body line queue begun contents => ?_⟩
  · exact exec_winContention_of line (beginCandidate_markSlot_of_untaken slot untaken) (candidateFrame_markSlot rfl rfl)
  · have begins := beginCandidate_heartbeatSlot_of_untold slot untold
    have reported : s.mbu.mode.bus = some mode := by
      rcases modes with ⟨station, rfl⟩ | ⟨station, rfl⟩ | ⟨station, rfl⟩ <;> rw [station] <;> rfl
    rw [reported] at begins
    exact exec_winContention_of line begins (candidateFrame_heartbeatSlot rfl rfl)
  · refine ⟨replayEntries s target, ?_, fun p => Tab.get_ofFn ..⟩
    obtain ⟨contents, disposition, attempts, byte⟩ := e
    obtain rfl : contents = .replay target none := body
    obtain rfl : byte = none := seq
    exact exec_winContention_of line (beginCandidate_head_of_unsent queue unsent) rfl
  · have contents : e.body.toBody = some body := by
      rcases plain with ⟨x, told, rfl⟩ | ⟨x, told, rfl⟩ | ⟨x, told, rfl⟩ | ⟨x, told, rfl⟩ <;> rw [told] <;> rfl
    have begins := beginHead_of_plain (s := s) (e := e) rest (by
      rcases plain with ⟨x, told, -⟩ | ⟨x, told, -⟩ | ⟨x, told, -⟩ | ⟨x, told, -⟩ <;> simp [told])
    obtain ⟨held, disposition, attempts, byte⟩ := e
    obtain rfl : byte = none := seq
    exact exec_winContention_of line ((beginCandidate_head_of_unsent queue unsent).trans begins)
      (candidateFrame_head (e := { body := held, disposition := .begun, attempts := attempts, seq := none }) rfl contents)
  · exact exec_winContention_of line (beginCandidate_markSlot_of_taken slot taken) (candidateFrame_markSlot slot taken)
  · exact exec_winContention_of line (beginCandidate_heartbeatSlot_of_told slot told) (candidateFrame_heartbeatSlot slot told)
  · exact exec_winContention_of line (beginCandidate_head_of_sent queue (by rw [begun]; simp)) (candidateFrame_head queue contents)

/-! ## O20: a failed attempt -/

/-- A failed attempt before the eighth is counted, and a probe goes at its first (R77, R91). -/
theorem chargeAttempt_counts {s : State} {c : Candidate} {charged : Bif}
    (h : (∃ k, s.bus.attemptsOf c = some k ∧ k < 7 ∧ charged = s.bus.withOneMore c)
      ∨ (c = .heartbeatSlot ∧ (∃ h, s.bus.heartbeatSlot = some h ∧ h.probe = true) ∧ charged = s.bus.without c)) (line : Line) :
    chargeAttempt c (s.setLine line) = s.setBif { charged with line := line } := by
  rcases h with ⟨k, attempts, few, rfl⟩ | ⟨rfl, ⟨h, slot, probe⟩, rfl⟩
  · unfold chargeAttempt
    have low : k + 1 < Config.attemptLimit := by unfold Config.attemptLimit; omega
    cases c with
    | markSlot =>
      obtain ⟨m, slot, rfl⟩ : ∃ m, s.bus.markSlot = some m ∧ m.attempts = k := by simpa [Bif.attemptsOf] using attempts
      simp [slot, low, Bif.withOneMore, State.setLine, State.setBif]
    | heartbeatSlot =>
      obtain ⟨h, slot, probe, rfl⟩ : ∃ h, s.bus.heartbeatSlot = some h ∧ h.probe = false ∧ h.attempts = k := by
        simpa [Bif.attemptsOf, Option.bind_eq_some_iff] using attempts
      simp [slot, probe, low, Bif.withOneMore, State.setLine, State.setBif]
    | queueHead =>
      obtain ⟨e, first, rfl⟩ : ∃ e, s.bus.queue.head? = some e ∧ e.attempts = k := by simpa [Bif.attemptsOf] using attempts
      obtain ⟨rest, queue⟩ : ∃ rest, s.bus.queue = e :: rest := List.head?_eq_some_iff.1 first
      simp [queue, low, Bif.withOneMore, State.setLine, State.setBif, State.setQueue]
  · unfold chargeAttempt
    simp [slot, probe, Bif.without, State.setLine, State.setBif]

/-- Settles O20: both commands charge the candidate's frame, which counts the attempt or removes the probe. -/
theorem failedAttemptIsCharged : Obligations.FailedAttemptIsCharged := by
  intro s c command line charged charges counted
  have outcome := exec_charges charges
  rw [chargeAttempt_counts counted line] at outcome
  exact ⟨_, outcome, restartIdleWait_bus _, restartIdleWait_spec _⟩

end Sys2Proof.Machine
end

section
/-! A frame received, and the halt on an address clash: O25, O26 (R83, R84, R87, R124). -/
namespace Sys2Proof.Machine
set_option Elab.async false

theorem exec_frameReceived_of {s : State} {bytes : List Byte} (complete : frameComplete bytes = true) (runs : s.runs = true) (clash : s.bus.clash = false)
    (line : s.bus.line = .gap ∨ s.bus.line = .receiving) : exec (.frameReceived bytes) s = .next (settleIdleWait (receiveFrame bytes s)) := by
  have receives : s.receives = true := by
    rcases line with line | line <;> simp [State.receives, State.onLine, runs, clash, line]
  rw [exec_frameReceived, if_pos complete, arise_true receives]

/-! ## The cases of a frame received -/

theorem receiveFrame_of_invalid {bytes : List Byte} (s : State) (invalid : decodeFrame bytes = none) : receiveFrame bytes s = s.setLine .seeking := by
  unfold receiveFrame; dsimp only; rw [invalid]

theorem receiveFrame_of_own {bytes : List Byte} {s : State} {f : Frame} (decoded : decodeFrame bytes = some f) (own : f.src = s.own) :
    receiveFrame bytes s = clashFound (s.setLine .seeking) := by
  unfold receiveFrame; dsimp only; rw [decoded]; exact if_pos own

theorem receiveFrame_of_other {bytes : List Byte} {s : State} {f : Frame} (decoded : decodeFrame bytes = some f) (other : f.src ≠ s.own) :
    receiveFrame bytes s = if s.bus.heldOff then s.setLine .seeking else receive f .peer (s.setLine .seeking) := by
  unfold receiveFrame; dsimp only; rw [decoded]; exact if_neg other

theorem heldOff_iff (b : Bif) : b.heldOff = true ↔ 6 ≤ b.rx.length := by
  unfold Bif.heldOff
  rw [Bool.not_eq_true', decide_eq_false_iff_not, not_lt]
  rfl

/-- Settles O25: a valid frame of another station finds a place or not, and an invalid one is not looked at. -/
theorem validFrameIsQueued : Obligations.ValidFrameIsQueued := by
  intro s bytes complete runs clash line
  have outcome := exec_frameReceived_of complete runs clash line
  refine ⟨fun f decoded other free => ?_, fun discarded => ?_⟩
  · have taken : receiveFrame bytes s = receive f .peer (s.setLine .seeking) := by
      rw [receiveFrame_of_other decoded other, if_neg (by rw [heldOff_iff]; omega)]
    rw [taken] at outcome
    exact ⟨_, outcome, settleIdleWait_bus (receive f .peer (s.setLine .seeking)), (settleIdleWait_spec _).of_timer (by simp)⟩
  · have left : receiveFrame bytes s = s.setLine .seeking := by
      rcases discarded with invalid | ⟨f, decoded, other, full⟩
      · exact receiveFrame_of_invalid s invalid
      · rw [receiveFrame_of_other decoded other, if_pos ((heldOff_iff _).2 full)]
    rw [left] at outcome
    obtain ⟨moved, settled⟩ := settleIdleWait_setLine s .seeking
    exact ⟨_, outcome, moved, settled⟩

/-! ## The halt -/

theorem changeMode_mbu (m : Mode) (cause : ModeCause) (s : State) : (changeMode m cause s).mbu = { s.mbu with mode := m } := by
  unfold changeMode; simp

/-- A mode change tells the logger once (R96). -/
theorem offered_changeMode {s u : State} {m : Mode} (logs : m.loggerRuns = true) (cause : ModeCause) (jnl : u.jnl = s.jnl := by simp)
    (pins : u.pins = s.pins := by simp) (loader : u.loader = s.loader := by simp) (time : u.tmb.groupTime = s.tmb.groupTime := by simp) :
    Offered s (changeMode m cause u) [.mode s.own m.recorded cause s.tmb.groupTime] := by
  have changed : changeMode m cause u = offerRecord (.mode s.own m.recorded cause s.tmb.groupTime) (u.setMode m) := by
    unfold changeMode State.own; rw [loader, time]
  have offered := offerRecord_spec (.mode s.own m.recorded cause s.tmb.groupTime) (u.setMode m) logs
  unfold Offered at offered ⊢
  rw [State.setMode_jnl, State.setMode_pins, jnl, pins] at offered
  rw [changed]
  exact offered

/-- Wherever a clash has been found, the entry to HALTED leaves what R87 and R124 say. -/
theorem haltedByClash_enterHalted {s : State} {b : Bif}
    (found : { b with line := .seeking, idleWait := .stopped, probe := .stopped } = { s.bus with line := .seeking, clash := true, idleWait := .stopped, probe := .stopped }) :
    HaltedByClash s (enterHalted .addressClash (s.setBif b)) := by
  have held (a : Addr) : (enterHalted .addressClash (s.setBif b)).member a = (s.member a).holdTimers s.tmb.localCount := by
    simp [enterHalted, Mbu.holdTimers, State.member, Tab.get_map]
  refine ⟨?_, fun a => ?_, ?_, ?_, ?_⟩
  · have bus : (enterHalted .addressClash (s.setBif b)).bus = { s.bus with line := .seeking, clash := true, idleWait := .stopped, probe := .stopped } := by
      rw [← found]; simp [enterHalted]
    refine State.eq_of_units ?_ ?_ ?_ ?_ ?_ ?_ ?_ ?_ bus ?_ ?_ ?_ rfl <;> simp [enterHalted, Mbu.holdTimers, haltHorn, changeMode_mbu]
  · rw [held]
    exact ⟨rfl, hold_spec .., hold_spec .., hold_spec ..⟩
  · simpa [enterHalted, Mbu.holdTimers] using hold_spec s.tmb.localCount s.mbu.heartbeat
  · simpa [enterHalted, Mbu.holdTimers] using hold_spec s.tmb.localCount s.mbu.joinWindow
  · exact offered_changeMode rfl _

/-- Where the idle-wait timer may not run, a stopped one is settled (R78). -/
theorem settleIdleWait_of_stopped {s : State} (idle : s.idleWaitRuns = false) (timer : s.bus.idleWait = .stopped) : settleIdleWait s = s := by
  unfold settleIdleWait
  rw [idle, if_neg Bool.false_ne_true, ← timer]
  rfl

/-- Settles O26: the clash stops the line at once, and the halt follows where no frame waits. -/
theorem addressClashHalts : Obligations.AddressClashHalts := by
  intro s runs
  refine ⟨fun clash empty => ?_, fun bytes f complete clash line decoded own => ?_⟩
  · have halts : s.clashHalts = true := by simp [State.clashHalts, runs, clash, empty]
    exact ⟨_, by rw [exec_addressClashHalt, arise_true halts]; rfl, haltedByClash_enterHalted (b := s.bus) (by rw [← clash])⟩
  · have outcome := exec_frameReceived_of complete runs clash line
    rw [receiveFrame_of_own decoded own] at outcome
    refine ⟨fun e rest waits => ?_, fun empty => ?_⟩
    · have stays : clashFound (s.setLine .seeking) = s.setBif { s.bus with line := .seeking, clash := true, idleWait := .stopped, probe := .stopped } := by
        have occupied : (s.setLine .seeking).bus.rx.isEmpty = false := by simp [waits]
        unfold clashFound; dsimp only; rw [occupied]; rfl
      rw [outcome, stays]
      exact congrArg Host.Outcome.next (settleIdleWait_of_stopped (by simp [State.idleWaitRuns, State.onLine]) rfl)
    · have halts : clashFound (s.setLine .seeking) = enterHalted .addressClash (s.setBif { s.bus with line := .seeking, clash := true, idleWait := .stopped, probe := .stopped }) := by
        have vacant : (s.setLine .seeking).bus.rx.isEmpty = true := by simp [empty]
        unfold clashFound; dsimp only; rw [vacant]; rfl
      have halted := haltedByClash_enterHalted (s := s) (b := { s.bus with line := .seeking, clash := true, idleWait := .stopped, probe := .stopped }) rfl
      have timer : (enterHalted .addressClash (s.setBif { s.bus with line := .seeking, clash := true, idleWait := .stopped, probe := .stopped })).bus.idleWait = .stopped := by
        rw [halted.1]
      rw [halts, settleIdleWait_of_stopped (by simp [State.idleWaitRuns, State.onLine, State.runs, Mode.runs]) timer] at outcome
      exact ⟨_, outcome, halted⟩

end Sys2Proof.Machine
end

section
/-! A delivered TIME MARK, and the timers that fill slots and make claims: O29, O38, O40 (R72, R91, R97, R105, R106, R112, R129
to R131). -/
namespace Sys2Proof.Machine
set_option Elab.async false

/-! ## O29: the mark -/

/-- The Membership Unit hears a TIME MARK in the stream of its source (R98, R102). -/
theorem mbuStage_timeMark {e : RxEntry} {t : Millis} (body : e.frame.body = .timeMark t) (s : State) : StreamHeard s (mbuStage e s) e := by
  unfold mbuStage
  by_cases peer : e.origin = .peer
  · have heard : peerClassHandling e (peerHeard e.frame s) = peerHeard e.frame s := by unfold peerClassHandling; rw [body]
    rw [if_pos peer, heard]
    unfold peerHeard
    by_cases other : (s.member e.frame.src).presence = .self
    · rw [if_pos other]
      exact .refl fun h => h.2.1 other
    · rw [if_neg other, body]
      dsimp only
      rw [← body]
      exact streamHeard_spec peer other fun x => by rw [body]; rfl
  · have unheard : ownHeard e s = s := by unfold ownHeard; rw [body]
    rw [if_neg peer, unheard]
    exact .refl fun h => peer h.1

/-- An unsent mark leaves its slot, and its contention with it (R72, R131). -/
theorem withdrawMark_eq (s : State) :
    withdrawMark s =
      { s with bus := { s.bus with markSlot := s.bus.markSlot.filter fun m => m.time.isSome
                                   line := if s.bus.line = .contending .markSlot ∧ s.bus.markSlot.any (fun m => m.time.isNone) = true then .receiving else s.bus.line } } := by
  unfold withdrawMark
  cases slot : s.bus.markSlot with
  | none =>
    dsimp only
    rw [if_neg (by simp), Option.filter_none, ← slot]
  | some m =>
    cases time : m.time with
    | some t =>
      dsimp only
      rw [time, if_neg (by simp [time]), Option.filter_some_pos (by simp [time]), ← slot]
    | none =>
      have line : s.bus.line.withdrawn .markSlot = if s.bus.line = .contending .markSlot ∧ (some m).any (fun m => m.time.isNone) = true then .receiving else s.bus.line := by
        cases s.bus.line <;> simp [time, Line.withdrawn]
      rw [← line, Option.filter_some_neg (by simp [time])]
      dsimp only
      rw [time]
      rfl

theorem MarkTimer.restart_eq (now : Millis) (m : MarkTimer) : m.restart now = if m = .stopped then .stopped else .running now := by
  cases m <;> rfl

/-- The Time Base stage of a mark: group time where that is forward, the mark timer, and the unsent mark (R127, R131). -/
theorem applyMark_eq (carried : Millis) (s : State) :
    applyMark carried s =
      (let received := carried + s.conf.bitRate.allowance
       let d := (received - s.tmb.groupTime).toNat
       { s with tmb := { s.tmb with groupTime := if 1 ≤ d ∧ d < 2 ^ 31 then received else s.tmb.groupTime
                                    markTimer := if s.tmb.markTimer = .stopped then .stopped else .running s.tmb.localCount }
                bus := { s.bus with markSlot := s.bus.markSlot.filter fun m => m.time.isSome
                                    line := if s.bus.line = .contending .markSlot ∧ s.bus.markSlot.any (fun m => m.time.isNone) = true then .receiving else s.bus.line } }) := by
  unfold applyMark
  dsimp only
  rw [withdrawMark_eq, MarkTimer.restart_eq]
  simp only [forward, decide_eq_true_eq]
  rfl

/-- Settles O29: the mark is heard as a frame of its stream, and the Time Base stage then takes it. -/
theorem deliveredMarkMovesGroupTime : Obligations.DeliveredMarkMovesGroupTime := by
  intro s e rest carried runs rx body received d
  have outcome := exec_delivery_head runs rx
  rw [body] at outcome
  have heard := mbuStage_timeMark body s
  have still := heard.still
  have stages : deliverStages e s = applyMark carried (mbuStage e s) := by
    simp [deliverStages, gtuStage, psqStage, tmbStage, body]
  rw [stages] at outcome
  rw [heard.units] at outcome still
  generalize (mbuStage e s).gat = gat, (mbuStage e s).hrn = hrn, (mbuStage e s).jnl = jnl, (mbuStage e s).mbu.members = members,
    (mbuStage e s).bus.queue = queue at outcome still
  rw [applyMark_eq] at outcome
  refine ⟨_, outcome, endDelivery_settled rfl, ?_⟩
  rw [endDelivery_eq]
  dsimp only
  rw [rx]
  exact ⟨rfl, fun own => ⟨congrArg State.mbu (still (Or.inl own)), congrArg State.gat (still (Or.inl own)), congrArg State.hrn (still (Or.inl own)),
    congrArg State.jnl (still (Or.inl own)), congrArg (fun u : State => u.bus.queue) (still (Or.inl own))⟩⟩

/-! ## O38: the slots filled -/

theorem onBus_of_runs {s : State} (runs : s.runs = true) : s.mbu.mode.onBus = true ↔ s.mbu.mode ≠ .isolated := by
  unfold State.runs at runs
  cases mode : s.mbu.mode <;> simp_all [Mode.runs, Mode.onBus]

theorem fillHeartbeat_eq (probe : Bool) (s : State) :
    fillHeartbeat probe s =
      s.setBif { s.bus with heartbeatSlot := if s.bus.heartbeatSlot = none then some { attempts := 0, mode := none, probe := probe } else s.bus.heartbeatSlot } := by
  unfold fillHeartbeat
  cases slot : s.bus.heartbeatSlot with
  | none => rfl
  | some h =>
    dsimp only
    rw [if_neg (by simp), ← slot]
    rfl

theorem fillMark_eq (s : State) :
    fillMark s = s.setBif { s.bus with markSlot := if s.bus.markSlot = none then some { attempts := 0, time := none } else s.bus.markSlot } := by
  unfold fillMark
  cases slot : s.bus.markSlot with
  | none => rfl
  | some h =>
    dsimp only
    rw [if_neg (by simp), ← slot]
    rfl

theorem timerH_one (s : State) : s.timerH 1 = .running s.tmb.localCount s.heartbeatMs := by
  unfold State.timerH; rw [Nat.one_mul]; rfl

/-- Settles O38: each expiry by its mode, and the slot by whether it is empty. -/
theorem beaconTimersFillTheirSlots : Obligations.BeaconTimersFillTheirSlots := by
  intro s start now
  refine ⟨fun runs timer reached => ?_, fun isolated timer reached => ?_, fun runs timer reached => ?_⟩
  · have expires : s.heartbeatExpires = true := by
      unfold State.heartbeatExpires State.expired
      rw [runs, timer]
      exact decide_eq_true reached
    have beat : beatHeart s =
        { s with mbu := { s.mbu with heartbeat := .running now s.heartbeatMs }
                 bus := { s.bus with heartbeatSlot := if s.mbu.mode ≠ .isolated ∧ s.bus.heartbeatSlot = none then some { attempts := 0, mode := none, probe := false } else s.bus.heartbeatSlot } } := by
      unfold beatHeart
      rw [timerH_one, if_congr (onBus_of_runs runs) rfl rfl]
      dsimp only
      rw [fillHeartbeat_eq]
      by_cases connected : s.mbu.mode = .isolated
      · rw [if_neg (not_not.2 connected), if_neg fun h => h.1 connected]
        rfl
      · rw [if_pos connected]
        simp only [connected, ne_eq, not_false_eq_true, true_and]
        rfl
    have outcome : exec .heartbeatTimerExpiry s = .next (settleIdleWait (beatHeart s)) := by rw [exec_heartbeatTimerExpiry, arise_true expires]
    rw [beat] at outcome
    exact ⟨_, outcome, (settleIdleWait_spec _).of_timer rfl, settleIdleWait_bus _⟩
  · have expires : s.probeExpires = true := by
      unfold State.probeExpires State.isolated State.expired
      rw [isolated, timer]
      exact decide_eq_true reached
    have outcome : exec .probeTimerExpiry s = .next (settleIdleWait (placeProbe s)) := by rw [exec_probeTimerExpiry, arise_true expires]
    rw [placeProbe, timerH_one, fillHeartbeat_eq] at outcome
    exact ⟨_, outcome, (settleIdleWait_spec _).of_timer rfl, settleIdleWait_bus _⟩
  · have expires : s.markExpires = true := by
      unfold State.markExpires State.markMs
      rw [runs, timer]
      exact decide_eq_true reached
    have filled : markExpired s =
        { s with tmb := { s.tmb with markTimer := if s.mbu.mode = .isolated then .running now else .waiting }
                 bus := { s.bus with markSlot := if s.mbu.mode ≠ .isolated ∧ s.bus.markSlot = none then some { attempts := 0, time := none } else s.bus.markSlot } } := by
      unfold markExpired
      rw [if_congr (onBus_of_runs runs) rfl rfl, fillMark_eq]
      by_cases connected : s.mbu.mode = .isolated
      · rw [if_neg (not_not.2 connected), if_pos connected, if_neg fun h => h.1 connected]
        rfl
      · rw [if_pos connected, if_neg connected]
        simp only [connected, ne_eq, not_false_eq_true, true_and]
        rfl
    have outcome : exec .markTimerExpiry s = .next (settleIdleWait (markExpired s)) := by rw [exec_markTimerExpiry, arise_true expires]
    rw [filled] at outcome
    exact ⟨_, outcome, (settleIdleWait_spec _).of_timer rfl, settleIdleWait_bus _⟩

/-! ## O40: the timed claims -/

/-- A REPLAY that becomes due: placed at the tail where an entry is free outside ISOLATED, or DUE (R112). -/
theorem claimReplay_spec (a : Addr) (s : State) :
    let placed := s.bus.queue.length < 24 ∧ s.mbu.mode ≠ .isolated
    claimReplay a s =
      s.withHeard (s.mbu.members.set a { s.member a with replay := if placed then .none else .due, replayTimer := .stopped })
        (if placed then s.bus.queue ++ [{ body := .replay a none, disposition := .unsent, attempts := 0, seq := none }] else s.bus.queue) := by
  intro placed
  have room : (s.bus.hasFree && !s.isolated) = true ↔ placed := by
    simp [placed, hasFree_iff, State.isolated]
  unfold claimReplay
  by_cases h : placed
  · rw [if_pos (room.2 h), if_pos h, if_pos h]
    unfold placeTail
    rw [entryFor_eq]
    simp [State.entryOf, h.2, State.withHeard, State.setMember]
  · rw [if_neg fun h' => h (room.1 h'), if_neg h, if_neg h]
    rfl

/-- A wait renewed, before its claim is made (R106). -/
def State.renewing (s : State) (st : Addr) : State :=
  s.setMember st { s.member st with attempts := (s.member st).attempts + 1, resync := s.timerH 2 }

/-- Settles O40: the claims by `claimResync_spec` and `claimReplay_spec`. -/
theorem timedClaimsAreQueuedOrWait : Obligations.TimedClaimsAreQueuedOrWait := by
  intro s st start toward runs reached placed
  have expired : s.expired (.running start toward) = true := decide_eq_true reached
  refine ⟨fun sync timer attempts => ?_, fun scheduled timer => ?_⟩
  · have expires : s.resyncExpires st = true := by simp [State.resyncExpires, runs, sync, timer, expired]
    have renewed : resyncExpired st s = renewWait st s := by simp [resyncExpired, attempts, Config.resyncLimit]
    have outcome : exec (.resyncTimerExpiry st) s = .next (settleIdleWait (renewWait st s)) := by rw [exec_resyncTimerExpiry, arise_true expires, renewed]
    obtain ⟨queue, member⟩ := claimResync_spec st (s.renewing st)
    have units := claimResync_eq st (s.renewing st)
    rw [show renewWait st s = claimResync st (s.renewing st) from rfl] at outcome
    generalize claimResync st (s.renewing st) = u at outcome queue member units
    have timer : u.bus.idleWait = s.bus.idleWait := by rw [units]; rfl
    refine ⟨_, outcome, (settleIdleWait_spec _).of_timer timer, ?_⟩
    rw [settleIdleWait_bus]
    have owes : (!decide (s.mbu.mode ≠ .isolated ∧ s.bus.queue.length < 24)) = !decide placed := congrArg (!·) (decide_eq_decide.2 and_comm)
    have own : u.member st = { s.member st with attempts := (s.member st).attempts + 1, resync := s.timerH 2, resyncOwed := !decide (s.mbu.mode ≠ .isolated ∧ s.bus.queue.length < 24) } := by
      rw [member, if_pos rfl, State.renewing, State.member_setMember, if_pos rfl]; rfl
    refine ⟨by rw [units]; rfl, fun a other => ?_, ?_, fun room => ?_, fun full => ?_⟩
    · exact (member a).trans (by rw [if_neg other, State.renewing, State.member_setMember, if_neg other])
    · show u.member st = { s.member st with attempts := (s.member st).attempts + 1, resync := .running s.tmb.localCount (2 * s.heartbeatMs), resyncOwed := (u.member st).resyncOwed }
      rw [own]
      rfl
    · exact ⟨(congrArg Member.resyncOwed own).trans (owes.trans (by rw [decide_eq_true room]; rfl)), queue.trans (if_pos room.symm)⟩
    · exact ⟨(congrArg Member.resyncOwed own).trans (owes.trans (by rw [decide_eq_false full]; rfl)), queue.trans (if_neg fun h => full h.symm)⟩
  · have expires : s.replayExpires st = true := by simp [State.replayExpires, runs, scheduled, timer, expired]
    have outcome : exec (.replayTimerExpiry st) s = .next (settleIdleWait (claimReplay st s)) := by rw [exec_replayTimerExpiry, arise_true expires]
    rw [claimReplay_spec] at outcome
    refine ⟨_, outcome, (settleIdleWait_spec _).of_timer rfl, ?_⟩
    rw [settleIdleWait_bus]
    refine ⟨rfl, fun a other => Tab.get_set_of_ne _ _ _ _ other, fun room => ?_, fun full => ?_⟩
    · exact ⟨(Tab.get_set_self ..).trans (by rw [if_pos room]), if_pos room⟩
    · exact ⟨(Tab.get_set_self ..).trans (by rw [if_neg full]), if_neg full⟩

end Sys2Proof.Machine
end

section
/-! A completed probe ends the isolation: O24 (R74, R92, R116). -/
namespace Sys2Proof.Machine
set_option Elab.async false

/-! ## The claims of the exit -/

/-- The bus state after a JOIN claim outside ISOLATED: absorbed, placed or owed (R73, R117). -/
def Bif.joinClaimed (mask : BitVec 16) (b : Bif) : Bif :=
  if b.owedJoin = true ∨ b.queue.any TxEntry.unsentJoin = true then b
  else if b.queue.length < 24 then
    { b with owedJoin := false, queue := b.queue ++ [{ body := .join mask, disposition := .unsent, attempts := 0, seq := none }] }
  else { b with owedJoin := true }

theorem joinClaimed_eq {s : State} (mode : s.mbu.mode ≠ .isolated) : s.joinClaimed = s.setBif (s.bus.joinClaimed s.inUseMask) := by
  unfold State.joinClaimed Bif.joinClaimed
  simp only [Claim.placed, State.entryOf, mode, if_false]
  split_ifs <;> rfl

/-- After a claim the JOIN is owed or stands unsent in the queue. -/
theorem joinClaimed_stands (mask : BitVec 16) (b : Bif) :
    (b.joinClaimed mask).owedJoin = true ∨ (b.joinClaimed mask).queue.any TxEntry.unsentJoin = true := by
  unfold Bif.joinClaimed
  split_ifs with absorbed
  · exact absorbed
  · simp [TxEntry.unsentJoin]
  · exact Or.inl rfl

/-- The queue of a bus state stands before another's, with unsent entries behind it. -/
abbrev UnsentBehind (b b' : Bif) : Prop := ∃ more, b'.queue = b.queue ++ more ∧ ∀ e ∈ more, e.disposition = .unsent

theorem unsentBehind_self {b b' : Bif} (queue : b'.queue = b.queue) : UnsentBehind b b' := ⟨[], by rw [queue, List.append_nil], by simp⟩

theorem unsentBehind_joinClaimed (mask : BitVec 16) (b : Bif) : UnsentBehind b (b.joinClaimed mask) := by
  unfold Bif.joinClaimed
  split_ifs
  exacts [unsentBehind_self rfl, ⟨_, rfl, by simp⟩, unsentBehind_self rfl]

theorem unsentBehind_snapshotClaimed (b : Bif) : UnsentBehind b b.snapshotClaimed := by
  unfold Bif.snapshotClaimed
  split_ifs
  exacts [unsentBehind_self rfl, ⟨_, rfl, by simp⟩, unsentBehind_self rfl]

/-- A SNAPSHOT or JOIN claim stands: it is owed, or its entry is unsent in the queue. -/
abbrev SnapshotStands (b : Bif) : Prop := b.owedSnapshot = true ∨ b.queue.any TxEntry.unsentSnapshot = true
abbrev JoinStands (b : Bif) : Prop := b.owedJoin = true ∨ b.queue.any TxEntry.unsentJoin = true

theorem snapshotStands_of_append {b b' : Bif} (h : SnapshotStands b) (owed : b'.owedSnapshot = b.owedSnapshot) (queue : ∃ more, b'.queue = b.queue ++ more) :
    SnapshotStands b' := by
  obtain ⟨more, queue⟩ := queue
  unfold SnapshotStands at h ⊢
  rw [owed, queue, List.any_append, Bool.or_eq_true]
  tauto

theorem joinStands_of_append {b b' : Bif} (h : JoinStands b) (owed : b'.owedJoin = b.owedJoin) (queue : ∃ more, b'.queue = b.queue ++ more) :
    JoinStands b' := by
  obtain ⟨more, queue⟩ := queue
  unfold JoinStands at h ⊢
  rw [owed, queue, List.any_append, Bool.or_eq_true]
  tauto

/-- What stands of the two claims still does when another is served outside ISOLATED, and a served one stands unsent. -/
theorem placed_claimStands {s : State} (connected : s.mbu.mode ≠ .isolated) (c : Claim) :
    (SnapshotStands s.bus → SnapshotStands (Claim.placed s c).bus) ∧ (JoinStands s.bus → JoinStands (Claim.placed s c).bus) := by
  obtain ⟨e, queue, -⟩ := placed_appends s c connected
  have more : ∃ more, (Claim.placed s c).bus.queue = s.bus.queue ++ more := ⟨_, queue⟩
  have owedJoin (h : c ≠ .join) : (Claim.placed s c).bus.owedJoin = s.bus.owedJoin := by
    cases c with
    | join => exact absurd rfl h
    | snapshot => unfold Claim.placed; rw [if_neg connected]
    | _ => rfl
  cases c with
  | snapshot =>
    refine ⟨fun _ => Or.inr ?_, fun h => joinStands_of_append h (owedJoin (by simp)) more⟩
    unfold Claim.placed
    rw [if_neg connected]
    simp [State.entryOf, connected, TxEntry.unsentSnapshot]
  | join =>
    refine ⟨fun h => snapshotStands_of_append h rfl more, fun _ => Or.inr ?_⟩
    simp [Claim.placed, State.entryOf, connected, TxEntry.unsentJoin]
  | _ => exact ⟨fun h => snapshotStands_of_append h rfl more, fun h => joinStands_of_append h (owedJoin (by simp)) more⟩

theorem served_claimStands {s : State} (connected : s.mbu.mode ≠ .isolated) :
    (SnapshotStands s.bus → SnapshotStands s.served.bus) ∧ (JoinStands s.bus → JoinStands s.served.bus) := by
  refine (served_keeps (P := fun t => t.mbu.mode ≠ .isolated ∧ (SnapshotStands s.bus → SnapshotStands t.bus) ∧ (JoinStands s.bus → JoinStands t.bus)) ?_
    ⟨connected, id, id⟩).2
  rintro t c - - ⟨mode, snapshot, join⟩
  obtain ⟨snapshot', join'⟩ := placed_claimStands mode c
  exact ⟨by rw [placed_frame]; exact mode, snapshot' ∘ snapshot, join' ∘ join⟩

/-! ## The exit -/

/-- A JOIN claim in HOLDING, a SNAPSHOT claim in SETTLING and RUNNING (R92). -/
def State.exitClaimed (s : State) : State := if s.psq.phase = .holding then s.joinClaimed else s.snapshotClaimed

/-- The station back on the bus, before the claim of the exit (R92, R116). -/
def State.reconnected (s : State) (jnl : Jnl) : State :=
  let reopens := decide (s.psq.phase = .holding ∧ s.mbu.joinState = .opened)
  { s with jnl := jnl
           mbu := { s.mbu with mode := if s.psq.phase = .holding then .joining else .active
                               joinState := if reopens then .pending else s.mbu.joinState, joinWindow := if reopens then .stopped else s.mbu.joinWindow }
           bus := { s.bus with streak := 0, probe := .stopped } }

theorem changeMode_eq (m : Mode) (cause : ModeCause) (s : State) :
    changeMode m cause s = { s with mbu := { s.mbu with mode := m }, jnl := (changeMode m cause s).jnl } := by
  refine State.eq_of_units ?_ ?_ ?_ ?_ ?_ ?_ ?_ ?_ ?_ (changeMode_mbu ..) ?_ ?_ rfl <;> simp

/-- The journal once the mode change of the exit has been told. -/
def State.exitJournal (s : State) : Jnl :=
  (changeMode (if s.psq.phase = .holding then .joining else .active) .probeComplete (s.setBif { s.bus with streak := 0, probe := .stopped })).jnl

theorem offered_exitJournal {s t : State} (jnl : t.jnl = s.exitJournal) :
    Offered s t [.mode s.own (if s.psq.phase = .holding then .joining else .active) .probeComplete s.tmb.groupTime] := by
  have offered (m : Mode) (logs : m.loggerRuns = true) :=
    offered_changeMode (s := s) (u := s.setBif { s.bus with streak := 0, probe := .stopped }) logs .probeComplete rfl rfl rfl rfl
  unfold State.exitJournal at jnl
  unfold Offered at offered ⊢
  rw [jnl]
  by_cases holding : s.psq.phase = .holding
  · rw [if_pos holding, if_pos holding]; exact offered .joining rfl
  · rw [if_neg holding, if_neg holding]; exact offered .active rfl

/-- The exit from ISOLATED is the mode change, the claim and the offers. -/
theorem exitIsolated_eq (s : State) : exitIsolated s = (s.reconnected s.exitJournal).exitClaimed.served := by
  have same : (s.reconnected s.exitJournal).psq.phase = s.psq.phase := rfl
  unfold State.exitClaimed
  rw [same]
  unfold exitIsolated State.exitJournal State.reconnected
  cases phase : s.psq.phase with
  | holding =>
    dsimp only
    rw [offers_eq_served, claimJoin_eq, if_pos rfl, if_pos rfl, changeMode_eq]
    cases join : s.mbu.joinState <;> simp [join, State.setMbu]
  | _ =>
    dsimp only
    rw [offers_eq_served, claimSnapshot_eq, if_neg (by decide), if_neg (by decide), changeMode_eq]
    simp

/-- Outside ISOLATED the claim of the exit goes behind the entries that stand, and stands owed or unsent. -/
theorem exitClaimed_spec {s : State} (connected : s.mbu.mode ≠ .isolated) :
    ∃ b, s.exitClaimed = s.setBif b ∧ UnsentBehind s.bus b ∧ (s.psq.phase ≠ .holding → SnapshotStands b) ∧ (s.psq.phase = .holding → JoinStands b) := by
  unfold State.exitClaimed
  split
  · rename_i holding
    exact ⟨_, joinClaimed_eq connected, unsentBehind_joinClaimed .., fun h => absurd holding h, fun _ => joinClaimed_stands ..⟩
  · rename_i holding
    exact ⟨_, snapshotClaimed_eq connected, unsentBehind_snapshotClaimed _, fun _ => snapshotClaimed_stands _, fun h => absurd h holding⟩

/-- Where nothing waits and only looped-back entries stand, the claim of the exit takes a free entry. -/
theorem exitClaimed_of_nothingWaits {s : State} (connected : s.mbu.mode ≠ .isolated) (nothing : NothingWaits s) (free : s.bus.queue.length < 24)
    (looped : ∀ x ∈ s.bus.queue, x.disposition = .loopedBack) :
    s.exitClaimed = s.setQueue (s.bus.queue ++ [{ body := if s.psq.phase = .holding then .join s.inUseMask else .snapshot none, disposition := .unsent, attempts := 0, seq := none }]) := by
  have none (c : Claim) := (nothingWaits_iff s).1 nothing c
  have owedJoin : s.bus.owedJoin = false := none .join
  have owedSnapshot : s.bus.owedSnapshot = false := none .snapshot
  unfold State.exitClaimed
  by_cases holding : s.psq.phase = .holding
  · have absent : s.bus.queue.any TxEntry.unsentJoin = false := List.any_eq_false.2 fun x hx => by
      unfold TxEntry.unsentJoin; cases x.body <;> simp [looped x hx]
    rw [if_pos holding, if_pos holding, joinClaimed_eq connected, Bif.joinClaimed, if_neg (by simp [owedJoin, absent]), if_pos free, ← owedJoin]
    rfl
  · have absent : s.bus.queue.any TxEntry.unsentSnapshot = false := List.any_eq_false.2 fun x hx => by
      rw [unsentSnapshot_iff, looped x hx]; simp
    rw [if_neg holding, if_neg holding, snapshotClaimed_eq connected, Bif.snapshotClaimed, if_neg (by simp [owedSnapshot, absent]), if_pos free, ← owedSnapshot]
    rfl

/-- Settles O24: the probe is taken like any completed frame, and `exitIsolated_eq` says what follows. -/
theorem completedProbeEndsIsolation : Obligations.CompletedProbeEndsIsolation := by
  intro s h f line slot probe reopens
  let v : State := { s with bus := { s.bus with line := .seeking, heartbeatSlot := none, streak := 0, rx := s.bus.rx ++ [{ frame := f, origin := .line }] } }
  let ended := v.reconnected v.exitJournal
  have connected : ended.mbu.mode ≠ .isolated := by
    show (if s.psq.phase = .holding then Mode.joining else .active) ≠ .isolated
    split <;> simp
  have completed : completeFrame .heartbeatSlot f s = ended.exitClaimed.served := by
    rw [← exitIsolated_eq v]
    have probing : ((Candidate.heartbeatSlot == .heartbeatSlot) && s.bus.probing) = true := by simp [Bif.probing, slot, probe]
    unfold completeFrame
    dsimp only
    rw [if_pos probing]
    rfl
  have outcome : exec .frameCompletion s = .next (restartIdleWait ended.exitClaimed.served) := by
    rw [exec_frameCompletion, execFrameCompletion, line, ← completed]
  have restarted := restartIdleWait_bus ended.exitClaimed.served
  have timer := restartIdleWait_spec ended.exitClaimed.served
  generalize restartIdleWait ended.exitClaimed.served = t at outcome restarted timer
  obtain ⟨b, claimed, ⟨more, behind, unsent⟩, snapshot, join⟩ := exitClaimed_spec connected
  have mode : ended.exitClaimed.mbu.mode ≠ .isolated := by rw [claimed]; exact connected
  obtain ⟨served, queue, unsentServed⟩ := served_appends _ mode
  obtain ⟨snapshotKept, joinKept⟩ := served_claimStands mode
  have jnl : t.jnl = v.exitJournal := by rw [restarted, served_frame, claimed]; rfl
  refine ⟨t, outcome, timer, ?_, ⟨more ++ served, ?_, fun x hx => ?_⟩, fun a => ?_, fun settling => ?_, fun holding => ?_, fun nothing free looped => ?_, offered_exitJournal (s := v) jnl⟩
  · show t = { ((v.reconnected t.jnl).exitClaimed).served with bus := { ((v.reconnected t.jnl).exitClaimed).served.bus with idleWait := t.bus.idleWait } }
    rw [jnl]
    exact restarted
  · rw [restarted]
    show ended.exitClaimed.served.bus.queue = _
    rw [queue, claimed]
    show b.queue ++ served = _
    rw [behind, List.append_assoc]
    rfl
  · rcases List.mem_append.1 hx with hx | hx
    exacts [unsent x hx, unsentServed x hx]
  · rw [restarted]
    refine (served_member _ a).trans ?_
    rw [claimed]
    rfl
  · rw [restarted]
    exact snapshotKept (by rw [claimed]; exact snapshot settling)
  · rw [restarted]
    exact joinKept (by rw [claimed]; exact join holding)
  · have taken := exitClaimed_of_nothingWaits (s := ended) connected nothing free looped
    rw [taken, served_of_nothingWaits (ended.setQueue _) (by exact nothing)] at restarted
    rw [restarted]
    exact ⟨rfl, rfl, rfl, (nothingWaits_iff s).1 nothing .snapshot, (nothingWaits_iff s).1 nothing .join, rfl⟩

end Sys2Proof.Machine
end

section
/-! The bytes of the frame fields, and the fields of the bytes (sections 4.2, R83). -/
namespace Sys2Proof.Machine
set_option Elab.async false

/-! ## Fields packed into a byte, and read from one -/

theorem packNibbles_nibbles (b : Byte) : packNibbles (highNibble b) (lowNibble b) = b := by revert b; decide +kernel

/-- P0 of a STATE: point, in use, cause. -/
theorem fields_firstByte (p : Fin 16) (inUse : Bool) (c : Fin 8) :
    highNibble (BitVec.ofNat 8 (p.val * 16 + flag inUse 8 + c.val)) = p ∧ (BitVec.ofNat 8 (p.val * 16 + flag inUse 8 + c.val)).getLsbD 3 = inUse
      ∧ lowThree (BitVec.ofNat 8 (p.val * 16 + flag inUse 8 + c.val)) = c := by
  revert p inUse c; decide +kernel

theorem firstByte_fields (b : Byte) : b = BitVec.ofNat 8 ((highNibble b).val * 16 + flag (b.getLsbD 3) 8 + (lowThree b).val) := by
  revert b; decide +kernel

/-- P1 of a STATE and E1 of an entry: state, condition, priority, and two zero bits. -/
theorem fields_positionByte (st : Fin 8) (high : Bool) (pr : Fin 4) :
    topThree (BitVec.ofNat 8 (st.val * 32 + flag high 16 + pr.val * 4)) = st ∧ (BitVec.ofNat 8 (st.val * 32 + flag high 16 + pr.val * 4)).getLsbD 4 = high
      ∧ bitsThreeTwo (BitVec.ofNat 8 (st.val * 32 + flag high 16 + pr.val * 4)) = pr
      ∧ (bitsOneZero (BitVec.ofNat 8 (st.val * 32 + flag high 16 + pr.val * 4))).val = 0 := by
  revert st high pr; decide +kernel

theorem positionByte_fields (b : Byte) (zero : (bitsOneZero b).val = 0) :
    b = BitVec.ofNat 8 ((topThree b).val * 32 + flag (b.getLsbD 4) 16 + (bitsThreeTwo b).val * 4) := by
  revert b; decide +kernel

/-- P2 of a STATE: zone, a zero bit, count. -/
theorem fields_countByte (z : Fin 8) (n : Fin 16) :
    topThree (BitVec.ofNat 8 (z.val * 32 + n.val)) = z ∧ lowNibble (BitVec.ofNat 8 (z.val * 32 + n.val)) = n
      ∧ (BitVec.ofNat 8 (z.val * 32 + n.val)).getLsbD 4 = false := by
  revert z n; decide +kernel

theorem countByte_fields (b : Byte) (zero : b.getLsbD 4 = false) : b = BitVec.ofNat 8 ((topThree b).val * 32 + (lowNibble b).val) := by
  revert b; decide +kernel

/-- E0 of an entry: point, in use, first-out mark, copy status. -/
theorem fields_entryByte (p : Fin 16) (inUse firstOut : Bool) (c : Fin 4) :
    highNibble (BitVec.ofNat 8 (p.val * 16 + flag inUse 8 + flag firstOut 4 + c.val)) = p
      ∧ (BitVec.ofNat 8 (p.val * 16 + flag inUse 8 + flag firstOut 4 + c.val)).getLsbD 3 = inUse
      ∧ (BitVec.ofNat 8 (p.val * 16 + flag inUse 8 + flag firstOut 4 + c.val)).getLsbD 2 = firstOut
      ∧ bitsOneZero (BitVec.ofNat 8 (p.val * 16 + flag inUse 8 + flag firstOut 4 + c.val)) = c := by
  revert p inUse firstOut c; decide +kernel

theorem entryByte_fields (b : Byte) :
    b = BitVec.ofNat 8 ((highNibble b).val * 16 + flag (b.getLsbD 3) 8 + flag (b.getLsbD 2) 4 + (bitsOneZero b).val) := by
  revert b; decide +kernel

/-- E2 of an entry: zone and five zero bits. -/
theorem fields_zoneByte (z : Fin 8) : topThree (BitVec.ofNat 8 (z.val * 32)) = z ∧ (BitVec.ofNat 8 (z.val * 32)).extractLsb' 0 5 = 0 := by
  revert z; decide +kernel

theorem zoneByte_fields (b : Byte) (zero : b.extractLsb' 0 5 = 0) : b = BitVec.ofNat 8 ((topThree b).val * 32) := by
  revert b; decide +kernel

/-! ## Codes -/

theorem SeqState.ofCode_eq_some (c : Fin 8) (st : SeqState) : SeqState.ofCode c = some st ↔ c.val = st.code := by
  revert c; cases st <;> decide

theorem Cause.ofCode_eq_some (c : Fin 8) (x : Cause) : Cause.ofCode c = some x ↔ c.val = x.code := by
  revert c; cases x <;> decide

theorem CopyStatus.ofCode_eq_iff (c : Fin 4) (st : CopyStatus) : CopyStatus.ofCode c = st ↔ c.val = st.code := by
  revert c; cases st <;> decide

theorem BusMode.ofCode_eq_some (b : Byte) (m : BusMode) : BusMode.ofCode b = some m ↔ b = m.code := by
  revert b; cases m <;> decide +kernel

theorem FrameClass.ofCode_eq_some (c : Fin 16) (cls : FrameClass) : FrameClass.ofCode c = some cls ↔ c = cls.code := by
  revert c; cases cls <;> decide

theorem Condition.toBit_ofBit (b : Bool) : (Condition.ofBit b).toBit = b := by cases b <;> rfl

theorem SeqState.code_lt (st : SeqState) : st.code < 8 := by cases st <;> decide

theorem Cause.code_lt (c : Cause) : c.code < 8 := by cases c <;> decide

theorem CopyStatus.code_lt (st : CopyStatus) : st.code < 4 := by cases st <;> decide

theorem bytes16_word16 (a b : Byte) : bytes16 (word16 a b) = [a, b] := by
  have value : (word16 a b).toNat = a.toNat * 256 + b.toNat := by
    rw [word16, BitVec.toNat_append, Nat.shiftLeft_eq, shift_or_low _ _ b.isLt]
  have := a.isLt
  have := b.isLt
  unfold bytes16
  simp only [List.cons.injEq, and_true]
  refine ⟨?_, ?_⟩ <;> apply BitVec.eq_of_toNat_eq <;>
    simp only [BitVec.extractLsb'_toNat, Nat.shiftRight_eq_div_pow, value] <;> omega

theorem bytes32_word32 (a b c d : Byte) : bytes32 (word32 a b c d) = [a, b, c, d] := by
  have value : (word32 a b c d).toNat = ((a.toNat * 256 + b.toNat) * 256 + c.toNat) * 256 + d.toNat := by
    simp only [word32, BitVec.toNat_append, Nat.shiftLeft_eq]
    rw [shift_or_low _ _ b.isLt, shift_or_low _ _ c.isLt, shift_or_low _ _ d.isLt]
  have := a.isLt
  have := b.isLt
  have := c.isLt
  have := d.isLt
  unfold bytes32
  simp only [List.cons.injEq, and_true]
  refine ⟨?_, ?_, ?_, ?_⟩ <;> apply BitVec.eq_of_toNat_eq <;>
    simp only [BitVec.extractLsb'_toNat, Nat.shiftRight_eq_div_pow, value] <;> omega

end Sys2Proof.Machine
end

section
/-! Payloads read back, class by class, and nothing else does (section 4.2, R83). -/
namespace Sys2Proof.Machine
set_option Elab.async false

/-! ## A STATE -/

theorem decodeState_bytes {x : StateBody} (valid : priorityValid x.inUse x.priority = true) : decodeState x.bytes = some x := by
  obtain ⟨point, inUse, cause⟩ := fields_firstByte x.point x.inUse ⟨x.cause.code, x.cause.code_lt⟩
  obtain ⟨state, condition, priority, zero⟩ := fields_positionByte ⟨x.state.code, x.state.code_lt⟩ x.condition.toBit x.priority
  obtain ⟨zone, count, gap⟩ := fields_countByte x.zone x.count
  dsimp only at point inUse cause state condition priority zero
  unfold StateBody.bytes bytes32
  simp only [List.cons_append, List.nil_append, decodeState]
  rw [cause, state, Cause.ofCode_code, SeqState.ofCode_code]
  dsimp only
  rw [point, inUse, condition, priority, zone, count, gap, Condition.ofBit_toBit, word32_bytes32, if_pos ⟨zero, rfl, valid⟩]

theorem decodeState_eq_some {bytes : List Byte} {x : StateBody} (h : decodeState bytes = some x) :
    bytes = x.bytes ∧ priorityValid x.inUse x.priority = true := by
  unfold decodeState at h
  split at h
  · rename_i p0 p1 p2 s0 s1 s2 s3
    split at h
    · rename_i cause state causeCode stateCode
      split at h
      · rename_i valid
        obtain ⟨zero, gap, valid⟩ := valid
        cases h
        refine ⟨?_, valid⟩
        rw [Cause.ofCode_eq_some] at causeCode
        rw [SeqState.ofCode_eq_some] at stateCode
        unfold StateBody.bytes
        dsimp only
        rw [bytes32_word32, Condition.toBit_ofBit, ← causeCode, ← stateCode, ← firstByte_fields, ← positionByte_fields p1 zero, ← countByte_fields p2 gap]
        rfl
      · cases h
    · cases h
  · cases h

/-! ## The entries of a SNAPSHOT or REPLAY -/

/-- What the tests of R83 ask of an entry: a priority above 0 in use, and in a SNAPSHOT the status CURRENT. -/
def Entry.valid (snapshot : Bool) (e : Entry) : Prop := priorityValid e.inUse e.priority = true ∧ (snapshot = false ∨ e.status = .current)

theorem decodeEntry_eq_some {snapshot : Bool} {p : Nat} {e0 e1 e2 s0 s1 s2 s3 : Byte} {e : Entry} :
    decodeEntry snapshot p e0 e1 e2 s0 s1 s2 s3 = some e ↔ ∃ q : Point, q.val = p ∧ [e0, e1, e2, s0, s1, s2, s3] = e.bytes q ∧ e.valid snapshot := by
  constructor
  · intro h
    unfold decodeEntry at h
    split at h
    · rename_i state stateCode
      split at h
      · rename_i tests
        obtain ⟨place, zero, gap, valid, status⟩ := tests
        cases h
        refine ⟨highNibble e0, place, ?_, valid, status⟩
        rw [SeqState.ofCode_eq_some] at stateCode
        have statusCode := (CopyStatus.ofCode_eq_iff (bitsOneZero e0) _).1 rfl
        unfold Entry.bytes
        dsimp only
        rw [bytes32_word32, Condition.toBit_ofBit, ← statusCode, ← stateCode, ← entryByte_fields, ← positionByte_fields e1 zero, ← zoneByte_fields e2 gap]
        rfl
      · cases h
    · cases h
  · rintro ⟨q, rfl, bytes, valid, status⟩
    obtain ⟨place, inUse, firstOut, copy⟩ := fields_entryByte q e.inUse e.firstOut ⟨e.status.code, e.status.code_lt⟩
    obtain ⟨state, condition, priority, zero⟩ := fields_positionByte ⟨e.state.code, e.state.code_lt⟩ e.condition.toBit e.priority
    obtain ⟨zone, gap⟩ := fields_zoneByte e.zone
    dsimp only at place inUse firstOut copy state condition priority zero
    unfold Entry.bytes bytes32 at bytes
    simp only [List.cons_append, List.nil_append, List.cons.injEq, and_true] at bytes
    obtain ⟨rfl, rfl, rfl, rfl, rfl, rfl, rfl⟩ := bytes
    unfold decodeEntry
    rw [state, SeqState.ofCode_code]
    dsimp only
    rw [place, inUse, firstOut, copy, condition, priority, zone, Condition.ofBit_toBit, CopyStatus.ofCode_code, word32_bytes32, if_pos ⟨rfl, zero, gap, valid, status⟩]

/-- The bytes of entries at the points of a list, in order. -/
def entriesBytesAt (points : List Point) (es : List Entry) : List Byte := (points.zip es).flatMap fun x => x.2.bytes x.1

theorem entriesBytesAt_cons (q : Point) (qs : List Point) (e : Entry) (es : List Entry) :
    entriesBytesAt (q :: qs) (e :: es) = e.bytes q ++ entriesBytesAt qs es := rfl

theorem decodeEntriesFrom_bytes {snapshot : Bool} {es : List Entry} (valid : ∀ e ∈ es, e.valid snapshot) :
    ∀ (p : Nat) (points : List Point), points.map Fin.val = List.range' p es.length → decodeEntriesFrom snapshot p (entriesBytesAt points es) = some es := by
  induction es with
  | nil => intro p points places; obtain rfl := List.map_eq_nil_iff.1 places; rfl
  | cons e es ih =>
    intro p points places
    obtain ⟨q, qs, rfl, rfl, rest⟩ := List.map_eq_cons_iff.1 places
    have others := ih (fun x hx => valid x (by simp [hx])) (q.val + 1) qs rest
    rw [entriesBytesAt_cons]
    unfold Entry.bytes bytes32
    simp only [List.cons_append, List.nil_append]
    rw [decodeEntriesFrom, decodeEntry_eq_some.2 ⟨q, rfl, rfl, valid e (by simp)⟩, others]

theorem decodeEntriesFrom_eq_some {snapshot : Bool} {p : Nat} {bytes : List Byte} {es : List Entry} (h : decodeEntriesFrom snapshot p bytes = some es) :
    (∃ points : List Point, points.map Fin.val = List.range' p es.length ∧ bytes = entriesBytesAt points es) ∧ ∀ e ∈ es, e.valid snapshot := by
  fun_induction decodeEntriesFrom snapshot p bytes generalizing es with
  | case1 p => cases h; exact ⟨⟨[], rfl, rfl⟩, by simp⟩
  | case2 p e0 e1 e2 s0 s1 s2 s3 rest e es' rests first ih =>
    cases h
    obtain ⟨q, rfl, bytes, valid⟩ := decodeEntry_eq_some.1 first
    obtain ⟨⟨qs, places, rfl⟩, valids⟩ := ih rests
    refine ⟨⟨q :: qs, by simp [places, List.range'_succ], ?_⟩, by simpa using ⟨valid, valids⟩⟩
    rw [entriesBytesAt_cons, ← bytes]
    rfl
  | case3 => cases h
  | case4 => cases h

theorem Tab.cells_eq {α : Type} (t : Tab α) : t.cells = indices.map t.get :=
  congrArg Tab.cells (Tab.ext_get fun i => (Tab.get_ofFn t.get i).symm : t = Tab.ofFn t.get)

/-- Sixteen entries at the sixteen points are the entries of a table. -/
theorem entriesBytesAt_indices (es : Tab Entry) : entriesBytesAt indices es.cells = entriesBytes es := by
  unfold entriesBytesAt entriesBytes
  rw [Tab.cells_eq, ← List.map_prod_left_eq_zip, List.flatMap_map]

theorem forall_cells {α : Type} {P : α → Prop} (t : Tab α) : (∀ x ∈ t.cells, P x) ↔ ∀ i, P (t.get i) := by
  rw [Tab.cells_eq, List.forall_mem_map]
  exact ⟨fun h i => h i (mem_indices i), fun h i _ => h i⟩

theorem decodeEntries_eq_some {snapshot : Bool} {payload : List Byte} {es : Tab Entry} :
    decodeEntries snapshot payload = some es ↔ payload = entriesBytes es ∧ ∀ p, (es.get p).valid snapshot := by
  rw [← forall_cells, ← entriesBytesAt_indices]
  unfold decodeEntries
  constructor
  · intro h
    split at h
    · rename_i l decoded
      unfold Tab.ofList at h
      split at h
      · rename_i length
        cases h
        obtain ⟨⟨points, places, rfl⟩, valid⟩ := decodeEntriesFrom_eq_some decoded
        have all : points = indices := List.map_injective_iff.2 Fin.val_injective (places.trans (by rw [length]; decide))
        rw [all]
        exact ⟨rfl, valid⟩
      · cases h
    · cases h
  · rintro ⟨rfl, valid⟩
    rw [decodeEntriesFrom_bytes valid 0 indices (by rw [es.size]; decide)]
    exact dif_pos es.size

end Sys2Proof.Machine
end

section
/-! Frames read back as sent, their layout, and the levels of BTX: O48 (R65, R66, R70, R76, R83). -/
namespace Sys2Proof.Machine
set_option Elab.async false

/-! ## Validity -/

theorem priorityValid_iff (inUse : Bool) (p : Priority) : priorityValid inUse p = true ↔ (inUse = true → p.val ≠ 0) := by
  unfold priorityValid
  cases inUse <;> simp [Nat.pos_iff_ne_zero]

theorem Body.valid_snapshot (es : Tab Entry) : (Body.snapshot es).valid = true ↔ ∀ p, (es.get p).valid true := by
  unfold Body.valid Entry.valid
  dsimp only
  rw [Bool.not_eq_true', Tab.any_false]
  simp

theorem Body.valid_replay (t : Addr) (es : Tab Entry) : (Body.replay t es).valid = true ↔ ∀ p, (es.get p).valid false := by
  unfold Body.valid Entry.valid
  dsimp only
  rw [Bool.not_eq_true', Tab.any_false]
  simp

/-! ## Contents read back -/

theorem targetOf_eq_some (b2 : Byte) (t : Addr) : targetOf b2 = some t ↔ b2 = BitVec.ofNat 8 t.val := by
  revert b2 t; decide +kernel

theorem decodeBody_payload {body : Body} (valid : body.valid = true) : decodeBody body.cls body.targetByte body.payload = some body := by
  unfold decodeBody
  cases body with
  | replay t es =>
    rw [Body.valid_replay] at valid
    simp only [Body.cls, Body.targetByte, Body.payload, (targetOf_eq_some _ t).2 rfl, decodeEntries_eq_some.2 ⟨rfl, valid⟩]
  | snapshot es =>
    rw [Body.valid_snapshot] at valid
    simp only [Body.cls, Body.targetByte, Body.payload, decodeEntries_eq_some.2 ⟨rfl, valid⟩]
    rfl
  | state x =>
    simp only [Body.cls, Body.targetByte, Body.payload, decodeState_bytes valid]
    rfl
  | resyncRequest t => simp only [Body.cls, Body.targetByte, (targetOf_eq_some _ t).2 rfl, Option.map_some]
  | timeMark t => simp [Body.cls, Body.targetByte, Body.payload, bytes32]
  | join m => simp [Body.cls, Body.targetByte, Body.payload, bytes16]
  | heartbeat m => simp [Body.cls, Body.targetByte, Body.payload]
  | _ => rfl

theorem decodeBody_eq_some {c : FrameClass} {b2 : Byte} {payload : List Byte} {body : Body} (length : payload.length = c.payloadLength)
    (h : decodeBody c b2 payload = some body) :
    body.cls = c ∧ b2 = body.targetByte ∧ payload = body.payload ∧ body.valid = true := by
  unfold decodeBody at h
  cases c with
  | replay =>
    dsimp only at h
    split at h
    · rename_i t es target entries
      cases h
      obtain ⟨payload, valid⟩ := decodeEntries_eq_some.1 entries
      exact ⟨rfl, (targetOf_eq_some ..).1 target, payload, (Body.valid_replay ..).2 valid⟩
    · cases h
  | resyncRequest =>
    simp only [Option.map_eq_some_iff] at h
    obtain ⟨t, target, rfl⟩ := h
    exact ⟨rfl, (targetOf_eq_some ..).1 target, List.length_eq_zero_iff.1 length, rfl⟩
  | snapshot =>
    simp only [Option.ite_none_right_eq_some, Option.map_eq_some_iff] at h
    obtain ⟨rfl, es, entries, rfl⟩ := h
    obtain ⟨payload, valid⟩ := decodeEntries_eq_some.1 entries
    exact ⟨rfl, rfl, payload, (Body.valid_snapshot ..).2 valid⟩
  | state =>
    simp only [Option.ite_none_right_eq_some, Option.map_eq_some_iff] at h
    obtain ⟨rfl, x, decoded, rfl⟩ := h
    obtain ⟨payload, valid⟩ := decodeState_eq_some decoded
    exact ⟨rfl, rfl, payload, valid⟩
  | timeMark =>
    dsimp only at h
    split at h
    · simp only [Option.ite_none_right_eq_some, Option.some.injEq] at h
      obtain ⟨rfl, rfl⟩ := h
      exact ⟨rfl, rfl, (bytes32_word32 ..).symm, rfl⟩
    · cases h
  | join =>
    dsimp only at h
    split at h
    · simp only [Option.ite_none_right_eq_some, Option.some.injEq] at h
      obtain ⟨rfl, rfl⟩ := h
      exact ⟨rfl, rfl, (bytes16_word16 ..).symm, rfl⟩
    · cases h
  | heartbeat =>
    dsimp only at h
    split at h
    · simp only [Option.ite_none_right_eq_some, Option.map_eq_some_iff] at h
      obtain ⟨rfl, m, code, rfl⟩ := h
      exact ⟨rfl, rfl, congrArg (fun b => [b]) ((BusMode.ofCode_eq_some ..).1 code), rfl⟩
    · cases h
  | ack | reset =>
    dsimp only at h
    split at h
    · simp only [Option.ite_none_right_eq_some, Option.some.injEq] at h
      obtain ⟨rfl, rfl⟩ := h
      exact ⟨rfl, rfl, rfl, rfl⟩
    · cases h

/-! ## Frames read back -/

theorem payloadLength_le (c : FrameClass) : c.payloadLength ≤ Config.maxPayload := by cases c <;> decide

/-- The bytes of a frame one by one: four of the header, then payload and check. -/
theorem encodeFrame_eq (f : Frame) :
    encodeFrame f = contentionByte f.body.cls f.src :: f.seq :: f.body.targetByte :: BitVec.ofNat 8 f.body.cls.payloadLength
      :: (f.body.payload ++ bytes16 (crc16 f.headed)) := rfl

theorem toNat_payloadLength (c : FrameClass) : (BitVec.ofNat 8 c.payloadLength).toNat = c.payloadLength := by cases c <;> rfl

theorem length_frame (f : Frame) : (f.body.payload ++ bytes16 (crc16 f.headed)).length = f.body.cls.payloadLength + 2 := by
  rw [List.length_append, Body.length_payload]; rfl

theorem frameComplete_encodeFrame (f : Frame) : frameComplete (encodeFrame f) = true := by
  rw [encodeFrame_eq]
  unfold frameComplete
  dsimp only
  rw [toNat_payloadLength, length_frame, decide_eq_true (payloadLength_le _)]
  exact beq_self_eq_true _

theorem decodeFrame_encodeFrame {f : Frame} (valid : f.body.valid = true) : decodeFrame (encodeFrame f) = some f := by
  have payload : (f.body.payload ++ bytes16 (crc16 f.headed)).take f.body.cls.payloadLength = f.body.payload := List.take_left' f.body.length_payload
  have check : (f.body.payload ++ bytes16 (crc16 f.headed)).drop f.body.cls.payloadLength = bytes16 (crc16 f.headed) := List.drop_left' f.body.length_payload
  rw [encodeFrame_eq]
  unfold decodeFrame contentionByte
  dsimp only
  rw [highNibble_packNibbles, FrameClass.ofCode_code]
  dsimp only
  rw [payload, check, lowNibble_packNibbles, decodeBody_payload valid, if_pos ⟨toNat_payloadLength _, length_frame f, rfl⟩]
  rfl

theorem decodeFrame_eq_some {bytes : List Byte} {f : Frame} (h : decodeFrame bytes = some f) : bytes = encodeFrame f ∧ f.body.valid = true := by
  unfold decodeFrame at h
  split at h
  · rename_i b0 b1 b2 b3 rest
    split at h
    · rename_i c code
      dsimp only at h
      simp only [Option.ite_none_right_eq_some, Option.map_eq_some_iff] at h
      obtain ⟨⟨length, whole, check⟩, body, decoded, rfl⟩ := h
      have taken : (rest.take c.payloadLength).length = c.payloadLength := by rw [List.length_take]; omega
      obtain ⟨rfl, rfl, payload, valid⟩ := decodeBody_eq_some taken decoded
      refine ⟨?_, valid⟩
      rw [FrameClass.ofCode_eq_some] at code
      have first : b0 = contentionByte body.cls (lowNibble b0) := by
        unfold contentionByte; rw [← code, packNibbles_nibbles]
      have fourth : b3 = BitVec.ofNat 8 body.cls.payloadLength := by rw [← length, BitVec.ofNat_toNat, BitVec.setWidth_eq]
      rw [encodeFrame_eq]
      dsimp only
      rw [← first, ← fourth, ← payload]
      have headed : ({ src := lowNibble b0, seq := b1, body := body } : Frame).headed = b0 :: b1 :: body.targetByte :: b3 :: rest.take body.cls.payloadLength := by
        unfold Frame.headed
        dsimp only
        rw [← first, ← fourth, ← payload]
        rfl
      rw [headed, ← check, List.take_append_drop]
    · cases h
  · cases h

/-! ## The layout (section 4.2, R70) -/

/-- P1 and E1 with the codes of the sequence states written out. -/
def positionByte (st : SeqState) (c : Condition) (pr : Priority) : Byte :=
  BitVec.ofNat 8 (32 * (match st with
                        | .normal => 0
                        | .alert => 1
                        | .held => 2
                        | .returned => 3
                        | .shelved => 4) + (if c == .active then 16 else 0) + 4 * pr.val)

theorem positionByte_eq (st : SeqState) (c : Condition) (pr : Priority) :
    positionByte st c pr = BitVec.ofNat 8 (st.code * 32 + flag c.toBit 16 + pr.val * 4) := by
  unfold positionByte
  rw [Nat.mul_comm 4]
  cases st <;> cases c <;> rfl

theorem StateBody.bytes_eq (x : StateBody) :
    x.bytes = [BitVec.ofNat 8 (16 * x.point.val + (if x.inUse then 8 else 0) + (match x.cause with
                                                                               | .activate => 0
                                                                               | .clear => 1
                                                                               | .ack => 2
                                                                               | .reset => 3
                                                                               | .shelve => 4
                                                                               | .unshelve => 5)),
      positionByte x.state x.condition x.priority, BitVec.ofNat 8 (32 * x.zone.val + x.count.val)] ++ bytes32 x.stamp := by
  unfold StateBody.bytes flag
  rw [positionByte_eq, Nat.mul_comm 16, Nat.mul_comm 32 x.zone.val]
  cases x.cause <;> rfl

theorem Entry.bytes_eq (p : Point) (x : Entry) :
    x.bytes p = [BitVec.ofNat 8 (16 * p.val + (if x.inUse then 8 else 0) + (if x.firstOut then 4 else 0) + (match x.status with
                                                                                                         | .empty => 0
                                                                                                         | .current => 1
                                                                                                         | .stale => 2
                                                                                                         | .lost => 3)),
      positionByte x.state x.condition x.priority, BitVec.ofNat 8 (32 * x.zone.val)] ++ bytes32 x.stamp := by
  unfold Entry.bytes flag
  rw [positionByte_eq, Nat.mul_comm 16, Nat.mul_comm 32 x.zone.val]
  cases x.status <;> rfl

theorem indices_eq_finRange : indices = List.finRange 16 := by decide

/-- The check over all bits, most significant first, each step by the register's top bit. -/
theorem crc16_eq (bytes : List Byte) :
    crc16 bytes = (bytes.flatMap msbFirst).foldl (fun (r : BitVec 16) x => if r.getLsbD 15 = x then r <<< 1 else (r <<< 1) ^^^ 0x1021) 0xFFFF := by
  rw [crc16_bits]
  refine congrArg (fun step => (bytes.flatMap msbFirst).foldl step 0xFFFF) (funext fun r => funext fun x => ?_)
  unfold crcBit
  cases r.getLsbD 15 <;> cases x <;> rfl

theorem contentionByte_eq (c : FrameClass) (src : Addr) : contentionByte c src = BitVec.ofNat 8 (16 * c.code.val + src.val) := by
  unfold contentionByte packNibbles; rw [Nat.mul_comm]

/-- The layout of a frame, with the check of what stands before it. -/
theorem encodeFrame_layout (f : Frame) {code : Nat} {target : Byte} {payload : List Byte} (cls : f.body.cls.code.val = code) (aimed : f.body.targetByte = target)
    (contents : f.body.payload = payload) :
    let headed := [BitVec.ofNat 8 (16 * code + f.src.val), f.seq, target, BitVec.ofNat 8 payload.length] ++ payload
    encodeFrame f = headed ++ bytes16 (crc16 headed) := by
  subst cls aimed contents
  unfold encodeFrame Frame.headed
  rw [contentionByte_eq, Body.length_payload]

/-! ## The levels of BTX -/

/-- In its contention field a candidate's class and the source are on the line (R66, R76). -/
theorem btxHigh_contending {s : State} {c : Candidate} {cls : FrameClass} (line : s.bus.line = .contending c) (offered : s.candidateClass c = some cls) (bit : Nat) :
    s.btxHigh bit = (contentionLevels (BitVec.ofNat 8 (16 * cls.code.val + s.own.val))).getD bit true := by
  unfold State.btxHigh State.busLevels
  rw [line]
  dsimp only
  rw [offered, ← contentionByte_eq]

theorem btxHigh_sending {s : State} {c : Candidate} {f : Frame} (line : s.bus.line = .sending c f) (bit : Nat) :
    s.btxHigh bit = (frameLevels (encodeFrame f)).getD bit true := by
  unfold State.btxHigh State.busLevels; rw [line]

theorem btxHigh_idle {s : State} (idle : s.bus.line.own = none) (bit : Nat) : s.btxHigh bit = true := by
  unfold State.btxHigh State.busLevels
  cases line : s.bus.line with
  | contending c | sending c f => rw [line] at idle; cases idle
  | _ => rfl

/-- Settles O48: decoding and encoding agree both ways, and layout and levels are those of the lemmas above. -/
theorem framesReadBackAsSent : Obligations.FramesReadBackAsSent := by
  refine ⟨fun f valid => ⟨frameComplete_encodeFrame f, decodeFrame_encodeFrame valid⟩, fun bytes f h => decodeFrame_eq_some h, ?_, ?_, fun s => ?_⟩
  · intro entryValid body
    cases body with
    | state x => exact priorityValid_iff ..
    | snapshot es => rw [Body.valid_snapshot]; simp [Entry.valid, priorityValid_iff, entryValid]
    | replay t es => rw [Body.valid_replay]; simp [Entry.valid, priorityValid_iff, entryValid]
    | _ => exact iff_of_true rfl trivial
  · intro byte stamp bit position announced entry block bits check sent f
    have blocks (es : Tab Entry) : entriesBytes es = block es := by
      unfold entriesBytes
      rw [funext fun p => Entry.bytes_eq p (es.get p), indices_eq_finRange]
      rfl
    have announcements (x : StateBody) : x.bytes = announced x := StateBody.bytes_eq x
    have layout {f : Frame} {code : Nat} {target : Byte} {payload : List Byte} (cls : f.body.cls.code.val = code) (aimed : f.body.targetByte = target)
        (contents : f.body.payload = payload) : sent f code target payload := by
      have whole := encodeFrame_layout f cls aimed contents
      dsimp only at whole
      rw [crc16_eq] at whole
      exact whole
    clear_value sent block announced
    obtain ⟨src, seq, body⟩ := f
    cases body with
    | state x => exact layout (f := ⟨src, seq, .state x⟩) rfl rfl (announcements x)
    | snapshot es => exact layout (f := ⟨src, seq, .snapshot es⟩) rfl rfl (blocks es)
    | replay target es => exact layout (f := ⟨src, seq, .replay target es⟩) rfl rfl (blocks es)
    | heartbeat m => cases m <;> exact layout rfl rfl rfl
    | _ => exact layout rfl rfl rfl
  · intro field character offers
    refine ⟨fun c f b0 rest line encoded bit => ?_, ?_, ?_, ?_, fun idle => btxHigh_idle idle⟩
    · rw [btxHigh_sending line, encoded]; rfl
    · exact fun line => btxHigh_contending (cls := .timeMark) line rfl
    · exact fun line => btxHigh_contending (cls := .heartbeat) line rfl
    · intro e rest queue line bit
      have offered (cls : FrameClass) (of : s.candidateClass .queueHead = some cls) := btxHigh_contending line of bit
      unfold State.candidateClass at offered
      rw [queue] at offered
      dsimp only at offered
      cases body : e.body <;> rw [body] at offered <;> exact (offered _ rfl :)

end Sys2Proof.Machine
end

section
/-! The mode table, and what a station in HALTED or after an address clash leaves alone: O59 (R87, R96, R124). -/
namespace Sys2Proof.Machine
set_option Elab.async false

/-! ## The mode table (R96) -/

/-- The mode stays, or moves as a row of the mode table says (R96). -/
abbrev ModeMoves (m m' : Mode) : Prop :=
  m' = m ∨ (m = .loading ∧ (m' = .joining ∨ m' = .halted .configFault)) ∨ (m = .joining ∧ m' = .active)
    ∨ ((m = .active ∨ m = .joining) ∧ m' = .isolated) ∨ (m = .isolated ∧ (m' = .active ∨ m' = .joining))
    ∨ (m.runs = true ∧ m' = .halted .addressClash)

theorem Mode.onBus_iff (m : Mode) : m.onBus = true ↔ m = .active ∨ m = .joining := by cases m <;> simp [Mode.onBus]

/-- A discard keeps the mode or isolates a station that is on the bus (R80). -/
theorem modeMoves_afterDiscard (s : State) : ModeMoves s.mbu.mode (afterDiscard s).mbu.mode := by
  unfold afterDiscard
  dsimp only
  split
  · rename_i isolates
    simp only [Bool.and_eq_true, Mode.onBus_iff, countDiscard_frame] at isolates
    exact Or.inr (Or.inr (Or.inr (Or.inl ⟨isolates.2, by simp⟩)))
  · exact Or.inl (by simp)

theorem modeMoves_chargeAttempt (c : Candidate) (s : State) : ModeMoves s.mbu.mode (chargeAttempt c s).mbu.mode := by
  have discards {u : State} (mode : u.mbu.mode = s.mbu.mode) : ModeMoves s.mbu.mode (afterDiscard u).mbu.mode := mode ▸ modeMoves_afterDiscard u
  unfold chargeAttempt
  cases c with
  | markSlot =>
    dsimp only
    split
    · exact Or.inl rfl
    · split
      · exact Or.inl rfl
      · exact discards (by simp)
  | heartbeatSlot =>
    dsimp only
    split
    · exact Or.inl rfl
    · split
      · exact Or.inl rfl
      · split
        · exact Or.inl rfl
        · exact discards rfl
  | queueHead =>
    dsimp only
    split
    · exact Or.inl rfl
    · split
      · exact Or.inl rfl
      · exact discards (by simp)

/-- The exit from ISOLATED leads to ACTIVE or, in HOLDING, to JOINING (R92). -/
theorem exitIsolated_mode (s : State) : (exitIsolated s).mbu.mode = .active ∨ (exitIsolated s).mbu.mode = .joining := by
  unfold exitIsolated
  dsimp only
  split
  · exact Or.inr (by split <;> simp)
  · exact Or.inl (by simp)
  · exact Or.inl (by simp)

/-- A probe is completed in ISOLATED alone: it stands there or where a halt has kept it, and a halted station sends nothing (R91). -/
theorem modeMoves_completeFrame {c : Candidate} {f : Frame} {s : State} (hs : BusAgrees s) (line : s.bus.line = .sending c f) :
    ModeMoves s.mbu.mode (completeFrame c f s).mbu.mode := by
  obtain ⟨-, -, -, -, -, probes, live⟩ := hs
  have onLine : s.onLine = true := live (by rw [line]; rfl)
  unfold completeFrame
  dsimp only
  split
  · rename_i probe
    simp only [Bool.and_eq_true] at probe
    have isolated : s.mbu.mode = .isolated := (probes probe.2).resolve_right fun halted => by
      simp [State.onLine, State.runs, halted, Mode.runs] at onLine
    exact Or.inr (Or.inr (Or.inr (Or.inr (Or.inl ⟨isolated, exitIsolated_mode _⟩))))
  · exact Or.inl (by simp)

/-- A received frame halts the station at an address clash, and moves no mode otherwise (R87). -/
theorem modeMoves_receiveFrame (bytes : List Byte) {s : State} (runs : s.runs = true) : ModeMoves s.mbu.mode (receiveFrame bytes s).mbu.mode := by
  unfold receiveFrame
  dsimp only
  split
  · exact Or.inl rfl
  · split
    · unfold clashFound
      dsimp only
      split
      · exact Or.inr (Or.inr (Or.inr (Or.inr (Or.inr ⟨runs, by simp⟩))))
      · exact Or.inl rfl
    · split
      · exact Or.inl rfl
      · exact Or.inl (by simp)

/-- The end of a read in LOADING (R187 to R189). -/
theorem modeMoves_finishRead (image : List Byte) {s : State} (loading : s.mbu.mode = .loading) : ModeMoves s.mbu.mode (finishRead image s).mbu.mode := by
  unfold finishRead
  split
  · exact Or.inr (Or.inl ⟨loading, Or.inl (by simp)⟩)
  · split
    · exact Or.inl rfl
    · exact Or.inr (Or.inl ⟨loading, Or.inr (by simp)⟩)

/-- A delivery moves the mode only where the own SNAPSHOT completes the join (R121). -/
theorem modeMoves_deliverStages (e : RxEntry) (s : State) : ModeMoves s.mbu.mode (deliverStages e s).mbu.mode := by
  have later : (deliverStages e s).mbu.mode = (mbuStage e s).mbu.mode := by simp [deliverStages]
  rw [later]
  unfold mbuStage
  split
  · exact Or.inl (by simp)
  · unfold ownHeard
    cases e.frame.body with
    | snapshot es =>
      dsimp only
      split
      · rename_i joins
        exact Or.inr (Or.inr (Or.inl ⟨joins.2, by simp⟩))
      · exact Or.inl rfl
    | _ => exact Or.inl (by simp)

/-- The commands that may move the mode: the end of a read, a failed attempt, a completion, a reception, the halt and a
delivery. -/
def movesMode : Instr → Bool
  | .coldStart _ => true
  | .readComplete _ => true
  | .transmitError => true
  | .idleWaitExpiry => true
  | .frameCompletion => true
  | .frameReceived _ => true
  | .addressClashHalt => true
  | .deliverTimeMark => true
  | .deliverState => true
  | .deliverAck => true
  | .deliverReset => true
  | .deliverSnapshot => true
  | .deliverReplay => true
  | .deliverResyncRequest => true
  | .deliverJoin => true
  | .deliverHeartbeat => true
  | _ => false

theorem arise_keeps_mode {cond : Bool} {f : State → State} {s t : State} (hf : (f s).mbu.mode = s.mbu.mode) (h : arise cond f s = .next t) :
    t.mbu.mode = s.mbu.mode := arise_keeps (P := fun t => t.mbu.mode = s.mbu.mode) rfl (fun _ => hf) h

theorem exec_keeps_mode {c : Instr} (hc : movesMode c = false) {s t : State} (h : exec c s = .next t) : t.mbu.mode = s.mbu.mode := by
  cases c with
  | readStart => rw [exec_readStart] at h; exact arise_keeps_mode rfl h
  | tick points buttons => rw [exec_tick] at h; exact arise_keeps_mode (by simp) h
  | countdownExpiry p => rw [exec_countdownExpiry] at h; exact arise_keeps_mode (by simp) h
  | drainTimerExpiry => rw [exec_drainTimerExpiry] at h; exact arise_keeps_mode (by simp) h
  | debounce b => rw [exec_debounce] at h; exact arise_keeps_mode (by simp) h
  | beginFrame => rw [exec_beginFrame] at h; unfold execBeginFrame at h; split at h <;> cases h <;> simp
  | loseContention => rw [exec_loseContention] at h; unfold execLoseContention at h; split at h <;> cases h <;> simp
  | winContention => rw [exec_winContention] at h; unfold execWinContention at h; split at h <;> cases h <;> simp
  | frameAbandoned reason =>
    rw [exec_frameAbandoned] at h
    refine arise_keeps_mode ?_ h
    rcases abandonFrame_spec reason s with e | e <;> simp [e, completeGap]
  | loopbackPassage => rw [exec_loopbackPassage] at h; exact arise_keeps_mode (by simp) h
  | heartbeatTimerExpiry => rw [exec_heartbeatTimerExpiry] at h; exact arise_keeps_mode (by simp) h
  | silenceTimerExpiry st => rw [exec_silenceTimerExpiry] at h; exact arise_keeps_mode (by simp) h
  | resyncTimerExpiry st => rw [exec_resyncTimerExpiry] at h; exact arise_keeps_mode (by simp) h
  | replayTimerExpiry st => rw [exec_replayTimerExpiry] at h; exact arise_keeps_mode (by simp) h
  | joinWindowExpiry => rw [exec_joinWindowExpiry] at h; exact arise_keeps_mode (by simp) h
  | probeTimerExpiry => rw [exec_probeTimerExpiry] at h; exact arise_keeps_mode (by simp) h
  | markTimerExpiry => rw [exec_markTimerExpiry] at h; exact arise_keeps_mode (by simp) h
  | stageTimerExpiry => rw [exec_stageTimerExpiry] at h; exact arise_keeps_mode (by simp) h
  | chimeTimerExpiry => rw [exec_chimeTimerExpiry] at h; exact arise_keeps_mode (by simp) h
  | logrdyChange high => rw [exec_logrdyChange] at h; cases h; simp
  | recordDeparture => rw [exec_recordDeparture] at h; exact arise_keeps_mode (by simp) h
  | resetRelease straps => rw [exec_resetRelease] at h; exact arise_keeps_mode rfl h
  | millisecond => rw [exec_millisecond] at h; exact arise_keeps_mode rfl h
  | idleGap => rw [exec_idleGap] at h; exact arise_keeps_mode (by simp [completeGap]) h
  | _ => cases hc

theorem arise_modeMoves {cond : Bool} {f : State → State} {s t : State} (hf : cond = true → ModeMoves s.mbu.mode (f s).mbu.mode)
    (h : arise cond f s = .next t) : ModeMoves s.mbu.mode t.mbu.mode :=
  arise_keeps (P := fun t => ModeMoves s.mbu.mode t.mbu.mode) (Or.inl rfl) hf h

theorem modeMoves_deliver (cls : FrameClass) {s t : State} (h : deliver cls s = .next t) : ModeMoves s.mbu.mode t.mbu.mode := by
  cases hd : s.deliverable cls with
  | none => rw [deliver_none hd] at h; cases h; exact Or.inl rfl
  | some e =>
    rw [deliver_some hd] at h
    cases h
    simpa using modeMoves_deliverStages e s

theorem runs_of_onLine {s : State} (h : s.onLine = true) : s.runs = true := by
  simp only [State.onLine, Bool.and_eq_true] at h
  exact h.1

theorem modeMoves_exec {c : Instr} (hc : ∀ cause, c ≠ .coldStart cause) {s t : State} (hs : BusAgrees s) (h : exec c s = .next t) :
    ModeMoves s.mbu.mode t.mbu.mode := by
  cases moves : movesMode c with
  | false => exact Or.inl (exec_keeps_mode moves h)
  | true =>
    cases c with
    | coldStart cause => exact absurd rfl (hc cause)
    | readComplete image =>
      rw [exec_readComplete] at h
      split at h
      · refine arise_modeMoves (fun reading => modeMoves_finishRead image ?_) h
        simp only [State.reading, State.loadingRuns, Bool.and_eq_true, beq_iff_eq] at reading
        exact reading.1.2
      · cases h
    | transmitError =>
      rw [exec_transmitError] at h
      unfold execTransmitError at h
      split at h <;> cases h
      · simpa [failAttempt] using modeMoves_chargeAttempt _ (s.setLine .receiving)
      · exact Or.inl rfl
    | idleWaitExpiry =>
      rw [exec_idleWaitExpiry] at h
      unfold execIdleWaitExpiry at h
      split at h <;> cases h
      · simpa using modeMoves_chargeAttempt _ s
      · exact Or.inl rfl
    | frameCompletion =>
      rw [exec_frameCompletion] at h
      unfold execFrameCompletion at h
      split at h <;> cases h
      · simpa using modeMoves_completeFrame hs ‹_›
      all_goals exact Or.inl rfl
    | frameReceived bytes =>
      rw [exec_frameReceived] at h
      split at h
      · refine arise_modeMoves (fun receives => ?_) h
        simp only [State.receives, Bool.and_eq_true] at receives
        simpa using modeMoves_receiveFrame bytes (runs_of_onLine receives.1)
      · cases h
    | addressClashHalt =>
      rw [exec_addressClashHalt] at h
      refine arise_modeMoves (fun halts => Or.inr (Or.inr (Or.inr (Or.inr (Or.inr ⟨?_, by simp⟩))))) h
      simp only [State.clashHalts, Bool.and_eq_true] at halts
      exact halts.1.1
    | deliverTimeMark => exact modeMoves_deliver _ h
    | deliverState => exact modeMoves_deliver _ h
    | deliverAck => exact modeMoves_deliver _ h
    | deliverReset => exact modeMoves_deliver _ h
    | deliverSnapshot => exact modeMoves_deliver _ h
    | deliverReplay => exact modeMoves_deliver _ h
    | deliverResyncRequest => exact modeMoves_deliver _ h
    | deliverJoin => exact modeMoves_deliver _ h
    | deliverHeartbeat => exact modeMoves_deliver _ h
    | _ => cases moves

/-! ## Off the line, and in HALTED (R65, R87, R124) -/

/-- The commands of the line, and the passage of a looped-back head. -/
def actsOnLine : Instr → Bool
  | .idleGap => true
  | .beginFrame => true
  | .loseContention => true
  | .winContention => true
  | .transmitError => true
  | .idleWaitExpiry => true
  | .frameCompletion => true
  | .frameReceived _ => true
  | .frameAbandoned _ => true
  | .loopbackPassage => true
  | _ => false

/-- Where nothing is sent or received no command of the line has an effect (R65, R87). -/
theorem exec_inert_offLine {c : Instr} (hc : actsOnLine c = true) (whole : c.wellFormed = true) {s : State} (off : s.onLine = false)
    (own : s.bus.line.own = none) : exec c s = .next s := by
  have contender : s.contender = none := by
    unfold State.contender
    cases line : s.bus.line with
    | contending x => rw [line] at own; cases own
    | _ => rfl
  cases c with
  | idleGap => rw [exec_idleGap, arise_false (by simp [State.gapMayComplete, off])]
  | beginFrame =>
    have none : s.beginsWith = none := by simp [State.beginsWith, off]
    rw [exec_beginFrame, execBeginFrame, none]
  | loseContention => rw [exec_loseContention, execLoseContention, contender]
  | winContention => rw [exec_winContention, execWinContention, contender]
  | transmitError => rw [exec_transmitError, execTransmitError, own]
  | idleWaitExpiry =>
    have none : s.idleWaitCharges = none := by simp [State.idleWaitCharges, State.idleWaitRuns, off]
    rw [exec_idleWaitExpiry, execIdleWaitExpiry, none]
  | frameCompletion =>
    rw [exec_frameCompletion, execFrameCompletion]
    cases line : s.bus.line with
    | sending x f => rw [line] at own; cases own
    | _ => rfl
  | frameReceived bytes => rw [exec_frameReceived, if_pos (by exact whole), arise_false (by simp [State.receives, off])]
  | frameAbandoned reason => rw [exec_frameAbandoned, arise_false (by simp [State.receives, off])]
  | loopbackPassage =>
    have none : s.passing = none := by
      unfold State.passing
      split
      · rfl
      · rw [if_neg (by simp [off])]
    rw [exec_loopbackPassage, arise_false (by rw [none]; rfl)]
  | _ => cases hc

/-- Off the line the station has no attempt in progress. -/
theorem BusAgrees.idle_offLine {s : State} (hs : BusAgrees s) (off : s.onLine = false) : s.bus.line.own = none := by
  obtain ⟨-, -, -, -, -, -, live⟩ := hs
  by_contra own
  rw [live (Option.isSome_iff_ne_none.2 own)] at off
  cases off

/-- The commands that act in HALTED: the cold start and its release, the counts, the tick mark and the logger line (R124, R125,
R177). -/
def actsInHalted : Instr → Bool
  | .coldStart _ => true
  | .tick _ _ => true
  | .logrdyChange _ => true
  | .recordDeparture => true
  | .resetRelease _ => true
  | .millisecond => true
  | _ => false

/-- No other event arises in HALTED (R5, R28, R63, R93, R124, R129, R151, R164). -/
theorem exec_inert_of_halted {c : Instr} (hc : actsInHalted c = false) (whole : c.wellFormed = true) {s : State} (hs : BusAgrees s) {cause : HaltCause}
    (halted : s.mbu.mode = .halted cause) : exec c s = .next s := by
  have runs : s.runs = false := by simp [State.runs, halted, Mode.runs]
  have off : s.onLine = false := by simp [State.onLine, runs]
  have loads : s.loadingRuns = false := by simp [State.loadingRuns, halted]
  have undelivered (cls : FrameClass) : deliver cls s = .next s := by
    refine deliver_none ?_
    unfold State.deliverable
    split
    · rfl
    · rw [if_neg (by simp [runs])]
  cases line : actsOnLine c with
  | true => exact exec_inert_offLine line whole off (hs.idle_offLine off)
  | false =>
    have neither : (actsInHalted c || actsOnLine c) = false := by rw [hc, line]; rfl
    cases c with
    | readStart => rw [exec_readStart, arise_false (by simp [State.readMayStart, loads])]
    | readComplete image => rw [exec_readComplete, if_pos (by exact whole), arise_false (by simp [State.reading, loads])]
    | countdownExpiry p => rw [exec_countdownExpiry, arise_false (by simp [State.qualifiesNext, runs])]
    | drainTimerExpiry => rw [exec_drainTimerExpiry, arise_false (by simp [State.drainDue, runs])]
    | debounce b => rw [exec_debounce, arise_false (by simp [State.debouncesNext, runs])]
    | addressClashHalt => rw [exec_addressClashHalt, arise_false (by simp [State.clashHalts, runs])]
    | deliverTimeMark => exact undelivered _
    | deliverState => exact undelivered _
    | deliverAck => exact undelivered _
    | deliverReset => exact undelivered _
    | deliverSnapshot => exact undelivered _
    | deliverReplay => exact undelivered _
    | deliverResyncRequest => exact undelivered _
    | deliverJoin => exact undelivered _
    | deliverHeartbeat => exact undelivered _
    | heartbeatTimerExpiry => rw [exec_heartbeatTimerExpiry, arise_false (by simp [State.heartbeatExpires, runs])]
    | silenceTimerExpiry st => rw [exec_silenceTimerExpiry, arise_false (by simp [State.silenceExpires, runs])]
    | resyncTimerExpiry st => rw [exec_resyncTimerExpiry, arise_false (by simp [State.resyncExpires, runs])]
    | replayTimerExpiry st => rw [exec_replayTimerExpiry, arise_false (by simp [State.replayExpires, runs])]
    | joinWindowExpiry => rw [exec_joinWindowExpiry, arise_false (by simp [State.joinWindowExpires, runs])]
    | probeTimerExpiry => rw [exec_probeTimerExpiry, arise_false (by simp [State.probeExpires, State.isolated, halted])]
    | markTimerExpiry => rw [exec_markTimerExpiry, arise_false (by simp [State.markExpires, runs])]
    | stageTimerExpiry => rw [exec_stageTimerExpiry, arise_false (by simp [State.stageExpires, runs])]
    | chimeTimerExpiry => rw [exec_chimeTimerExpiry, arise_false (by simp [State.chimeExpires, runs])]
    | _ => cases neither

/-- A stopped probe timer does not expire. -/
theorem exec_probeTimerExpiry_of_stopped {s : State} (stopped : s.bus.probe = .stopped) : exec .probeTimerExpiry s = .next s := by
  rw [exec_probeTimerExpiry, arise_false (by simp [State.probeExpires, State.expired, Timer.reached, stopped])]

/-- Settles O59: the table by `modeMoves_exec`, HALTED by `exec_inert_of_halted`, the stopped line by `exec_inert_offLine`. -/
theorem modeChangesByTheTable : Obligations.ModeChangesByTheTable := by
  refine ⟨fun c s t hc hs h => modeMoves_exec hc hs h, ?_, ?_⟩
  · intro c s whole hs halted cold release millisecond tick logrdy departure
    have inert : actsInHalted c = false := by
      cases c with
      | coldStart cause => exact absurd rfl (cold cause)
      | resetRelease straps => exact absurd rfl (release straps)
      | millisecond => exact absurd rfl millisecond
      | tick points buttons => exact absurd rfl (tick points buttons)
      | logrdyChange high => exact absurd rfl (logrdy high)
      | recordDeparture => exact absurd rfl departure
      | _ => rfl
    rcases halted with mode | mode
    · exact exec_inert_of_halted inert whole hs mode
    · exact exec_inert_of_halted inert whole hs mode
  · intro c s whole hs clash listed
    have off : s.onLine = false := by simp [State.onLine, clash]
    have inert (acts : actsOnLine c = true) : exec c s = .next s := exec_inert_offLine acts whole off (hs.idle_offLine off)
    rcases listed with line | ⟨bytes, rfl⟩ | ⟨reason, rfl⟩ | ⟨rfl, stopped⟩
    · have all : ∀ x ∈ ([.idleGap, .beginFrame, .loseContention, .winContention, .transmitError, .idleWaitExpiry, .frameCompletion,
          .loopbackPassage] : List Instr), actsOnLine x = true := by decide
      exact inert (all c line)
    · exact inert rfl
    · exact inert rfl
    · exact exec_probeTimerExpiry_of_stopped stopped

end Sys2Proof.Machine
end

section
/-! The Membership Unit at a SNAPSHOT: the end of a join, and the entry of the peer that sent it: O34 (R98, R100, R104, R121). -/
namespace Sys2Proof.Machine
set_option Elab.async false

/-- The mode after the Membership Unit has taken a SNAPSHOT (R121). -/
theorem mbuStage_snapshot_mode {e : RxEntry} {es : Tab Entry} (body : e.frame.body = .snapshot es) (s : State) :
    (mbuStage e s).mbu.mode = if JoinsBy s e then .active else s.mbu.mode := by
  rcases mbuStage_snapshot body s with ⟨joins, -, stage⟩ | ⟨members, ⟨-, stays, stage⟩ | ⟨-, stays, stage⟩⟩ <;> rw [stage]
  · rw [if_pos joins, changeMode_mode]
  · rw [if_neg stays]; simp
  · rw [if_neg stays]; rfl

/-- The entry of a peer after its SNAPSHOT (R100), where that ends no wait. -/
def Member.inStepAt (m : Member) (c : SeqNo) (silence : Timer) : Member :=
  { m with presence := .present, reported := some .active, expected := c + 1, sync := .inStep, silence := silence }

/-- The entry of a peer after the SNAPSHOT that ends its wait (R104). -/
def Member.backAt (m : Member) (c : SeqNo) (silence : Timer) : Member :=
  { m with reported := some .active, expected := c + 1, sync := .inStep, attempts := 0, resync := .stopped, resyncOwed := false, silence := silence }

/-- A peer's SNAPSHOT moves the entry of its source alone. -/
theorem member_mbuStage_snapshot_peer {e : RxEntry} {es : Tab Entry} (body : e.frame.body = .snapshot es) (peer : e.origin = .peer) {s : State}
    (other : (s.member e.frame.src).presence ≠ .self) (a : Addr) :
    (mbuStage e s).member a =
      if a = e.frame.src then
        if ReturnsBy s e then (s.member e.frame.src).backAt e.frame.seq (s.timerH 3) else (s.member e.frame.src).inStepAt e.frame.seq (s.timerH 3)
      else s.member a := by
  have heard : mbuStage e s = snapshotHeard e.frame.src e.frame.seq (restartSilence e.frame.src s) := by
    simp [mbuStage, peer, peerHeard, other, peerClassHandling, body]
  have returns : ReturnsBy s e ↔ (s.member e.frame.src).presence = .present ∧ (s.member e.frame.src).sync = .awaiting := and_iff_right peer
  have silenced (b : Addr) (h : b ≠ e.frame.src) : (restartSilence e.frame.src s).member b = s.member b := by
    rw [restartSilence, State.member_setMember, if_neg h]
  rw [heard]
  unfold snapshotHeard
  rw [member_restartSilence]
  dsimp only
  by_cases h : ReturnsBy s e
  · rw [if_pos (returns.1 h), if_pos h]
    have told (u : State) : (offerRecord (.stationBack e.frame.src (restartSilence e.frame.src s).tmb.groupTime) u).member a = u.member a := by
      simp [State.member]
    rw [told, State.member_setMember]
    split
    · rfl
    · rename_i ne; exact silenced a ne
  · rw [if_neg (mt returns.2 h), if_neg h, State.member_setMember]
    split
    · rfl
    · rename_i ne; exact silenced a ne

/-- The station's own SNAPSHOT, and one under its own address, move no entry. -/
theorem member_mbuStage_snapshot_own {e : RxEntry} {es : Tab Entry} (body : e.frame.body = .snapshot es) {s : State}
    (own : e.origin ≠ .peer ∨ (s.member e.frame.src).presence = .self) (a : Addr) : (mbuStage e s).member a = s.member a := by
  by_cases peer : e.origin = .peer
  · have self := own.resolve_left fun h => h peer
    have none : mbuStage e s = s := by simp [mbuStage, peer, peerHeard, self, peerClassHandling, body]
    rw [none]
  · unfold mbuStage ownHeard
    rw [if_neg peer, body]
    dsimp only
    split
    · simp [State.member]
    · rfl

/-- What is offered first to a journal with room stands in it. -/
theorem Offered.head_mem {s t : State} {r : JournalRecord} {more : List JournalRecord} (h : Offered s t (r :: more)) (room : s.jnl.journal.length < 64) :
    r ∈ t.jnl.journal := by
  obtain ⟨journal, -, -⟩ := h
  obtain ⟨n, left⟩ : ∃ n, 64 - s.jnl.journal.length = n + 1 := ⟨63 - s.jnl.journal.length, by omega⟩
  rw [journal, left, List.take_succ_cons]
  exact List.mem_append_right _ List.mem_cons_self

/-- Settles O34: the mode by `mbuStage_snapshot_mode`, the entries by `member_mbuStage_snapshot_peer`, the records by O33. -/
theorem snapshotEndsJoinsAndWaits : Obligations.SnapshotEndsJoinsAndWaits := by
  intro s e rest es runs rx body st m
  obtain ⟨t, outcome, -, -, -, -, ⟨notice, joined, returned, -, offered⟩, -⟩ := snapshotReplacesTheBlock s e rest es runs rx body
  have same : t = endDelivery (deliverStages e s) := by
    have delivers := exec_delivery_head runs rx
    rw [body] at delivers
    exact Host.Outcome.next.inj (outcome.symm.trans delivers)
  have mbu : t.mbu = (mbuStage e s).mbu := by
    rw [same, deliverStages_snapshot body]; simp
  have member (a : Addr) : t.member a = (mbuStage e s).member a := by unfold State.member; rw [mbu]
  refine ⟨t, outcome, ?_, fun line joining room => ?_, fun a elsewhere => ?_, fun peer other => ?_⟩
  · rw [mbu, mbuStage_snapshot_mode body]
  · rw [joined ⟨line, joining⟩] at offered
    exact offered.head_mem room
  · rw [member]
    by_cases own : e.origin ≠ .peer ∨ (s.member st).presence = .self
    · exact member_mbuStage_snapshot_own body own a
    · push Not at own
      rw [member_mbuStage_snapshot_peer body own.1 own.2, if_neg (elsewhere.resolve_right fun h => h own.1)]
  · have entry : t.member st = if ReturnsBy s e then m.backAt e.frame.seq (s.timerH 3) else m.inStepAt e.frame.seq (s.timerH 3) := by
      rw [member, member_mbuStage_snapshot_peer body peer other, if_pos rfl]
    refine ⟨fun present awaiting => ?_, fun present inStep => ?_, fun absent => ?_⟩
    · have returns : ReturnsBy s e := ⟨peer, present, awaiting⟩
      rw [returned returns] at offered
      rw [entry, if_pos returns]
      exact ⟨rfl, offered.head_mem⟩
    · have stays : ¬ ReturnsBy s e := fun ⟨_, _, awaiting⟩ => absurd (inStep.symm.trans awaiting) (by decide)
      have kept : m.inStepAt e.frame.seq (s.timerH 3) = { m with reported := some .active, expected := e.frame.seq + 1, silence := s.timerH 3 } := by
        unfold Member.inStepAt; rw [← present, ← inStep]
      rw [entry, if_neg stays, kept]
      rfl
    · have stays : ¬ ReturnsBy s e := fun ⟨_, present, _⟩ => absurd (absent.symm.trans present) (by decide)
      rw [entry, if_neg stays]
      rfl

end Sys2Proof.Machine
end

section
/-! A peer's RESYNC REQUEST: heard in the stream of its source, then answered by a SNAPSHOT where it is aimed here: O36 (R102,
R105, R107). -/
namespace Sys2Proof.Machine
set_option Elab.async false

/-- A RESYNC REQUEST is answered by the station it is aimed at, in ACTIVE (R107). -/
abbrev AnswersResync (s : State) (e : RxEntry) (target : Addr) : Prop := e.origin = .peer ∧ target = s.own ∧ s.mbu.mode = .active

theorem heardFrom_peer {e : RxEntry} (peer : e.origin = .peer) (s : State) : s.heardFrom e = peerHeard e.frame s := if_pos peer

theorem heardFrom_own {e : RxEntry} (own : e.origin ≠ .peer) (s : State) : s.heardFrom e = s := if_neg own

/-- The four stages at a RESYNC REQUEST (R86, R107). -/
theorem deliverStages_resyncRequest {e : RxEntry} {target : Addr} (body : e.frame.body = .resyncRequest target) (s : State) :
    deliverStages e s =
      if AnswersResync s e target then (s.heardFrom e).setBif (s.heardFrom e).bus.snapshotClaimed else s.heardFrom e := by
  have stages : deliverStages e s = mbuStage e s := by simp [deliverStages, gtuStage, psqStage, tmbStage, body]
  rw [stages]
  unfold mbuStage
  by_cases peer : e.origin = .peer
  · have same : (s.heardFrom e).own = s.own ∧ (s.heardFrom e).mbu.mode = s.mbu.mode := by
      rw [heardFrom_peer peer]; simp [State.own]
    obtain ⟨own, mode⟩ := same
    rw [if_pos peer, ← heardFrom_peer peer]
    unfold peerClassHandling
    rw [body]
    dsimp only
    rw [own, mode]
    by_cases answers : AnswersResync s e target
    · have active : (s.heardFrom e).mbu.mode ≠ .isolated := by rw [mode, answers.2.2]; decide
      rw [if_pos answers.2, if_pos answers, claimSnapshot_eq, snapshotClaimed_eq active]
    · rw [if_neg fun h => answers ⟨peer, h⟩, if_neg answers]
  · rw [if_neg peer, if_neg fun h => peer h.1, heardFrom_own peer]
    unfold ownHeard
    rw [body]

/-- The wait of a hearing puts no SNAPSHOT into the queue. -/
theorem StreamHeard.unsentSnapshot {s h : State} {e : RxEntry} (heard : StreamHeard s h e) :
    h.bus.queue.any TxEntry.unsentSnapshot = s.bus.queue.any TxEntry.unsentSnapshot := by
  rw [heard.queue]
  split
  · rw [List.any_append]; exact Bool.or_false _
  · rfl

/-- Settles O36: the frame is heard (`heardFrom_spec`), and a request aimed here in ACTIVE claims the SNAPSHOT. -/
theorem resyncRequestClaimsASnapshot : Obligations.ResyncRequestClaimsASnapshot := by
  intro s e rest target runs rx body peer st m begins requests heardHere claimed
  have outcome := exec_delivery_head runs rx
  have heard : StreamHeard s (s.heardFrom e) e := heardFrom_spec (Or.inr (Or.inr (Or.inr ⟨_, body⟩))) s
  have stages := deliverStages_resyncRequest body s
  rw [body] at outcome
  have begins_iff : begins = true ↔ BeginsWait s e := by
    rw [show begins = decide _ from rfl, decide_eq_true_eq]
    cases presence : (s.member e.frame.src).presence <;> simp [m, st, presence, BeginsWait, peer]
  have requests_iff : requests = true ↔ RequestsAtOnce s e := by
    rw [show requests = decide _ from rfl, decide_eq_true_eq, begins_iff]
    exact and_congr_right fun _ => and_comm
  generalize s.heardFrom e = h at heard stages
  have units := heard.units
  have snapshots := heard.unsentSnapshot
  have places : heardHere = { s with bus := { s.bus with rx := rest, queue := h.bus.queue } } := by
    rw [heard.queue]; simp only [heardHere, requests_iff, st]
  generalize h.gat = gat, h.hrn = hrn, h.jnl = jnl, h.mbu.members = members, h.bus.queue = q at units places snapshots
  subst units
  obtain ⟨bus, hbus⟩ : ∃ bus, bus = if AnswersResync s e target then ({ s.bus with queue := q } : Bif).snapshotClaimed else { s.bus with queue := q } := ⟨_, rfl⟩
  have shape : deliverStages e s = { s with gat := gat, hrn := hrn, jnl := jnl, mbu := { s.mbu with members := members }, bus := bus } := by
    rw [stages, hbus]; split <;> rfl
  have answers_iff : AnswersResync s e target ↔ target = s.own ∧ s.mbu.mode = .active := and_iff_right peer
  have claimed_eq : claimed = { s with bus := { bus with rx := rest } } := by
    show (if target = s.own ∧ s.mbu.mode = .active then heardHere.snapshotClaimed else heardHere) = _
    rw [hbus, places]
    by_cases answers : AnswersResync s e target
    · rw [if_pos answers, if_pos (answers_iff.1 answers), snapshotClaimed_eq (by simp [answers.2.2])]
      exact congrArg s.setBif (snapshotClaimed_rx { s.bus with queue := q } rest)
    · rw [if_neg answers, if_neg (mt answers_iff.2 answers)]
  have fields : bus.rx = e :: rest ∧ bus.idleWait = s.bus.idleWait := by
    rw [hbus]; split
    · exact ⟨(snapshotClaimed_rx_eq _).trans rx, snapshotClaimed_idleWait _⟩
    · exact ⟨rx, rfl⟩
  have ended := endDelivery_eq (deliverStages e s)
  rw [shape] at outcome ended
  rw [show bus.rx.tail = rest by rw [fields.1]; rfl] at ended
  obtain ⟨standing, kept⟩ : (AnswersResync s e target → bus.owedSnapshot = true ∨ bus.queue.any TxEntry.unsentSnapshot = true)
      ∧ (¬ AnswersResync s e target → bus.owedSnapshot = s.bus.owedSnapshot ∧ bus.queue.any TxEntry.unsentSnapshot = s.bus.queue.any TxEntry.unsentSnapshot) := by
    rw [hbus]
    exact ⟨fun answers => by rw [if_pos answers]; exact snapshotClaimed_stands _, fun quiet => by rw [if_neg quiet]; exact ⟨rfl, snapshots⟩⟩
  refine ⟨_, outcome, ?_, ?_, endDelivery_settled fields.2, ?_, fun here active => ?_, fun quiet => ?_⟩
  · simp
  · simp
  · rw [claimed_eq]
    conv => lhs; rw [ended]
    simp
  · simpa using standing ⟨peer, here, active⟩
  · simpa using kept fun answers => quiet.elim (fun h => h answers.2.1) fun h => h answers.2.2

end Sys2Proof.Machine
end

section
/-! A peer's frame of a stream heard by the Membership Unit, with the gap of its class: what moves in the entry, the queue, the
copy, the horn and the journal (R98, R100 to R103, R105). -/
namespace Sys2Proof.Machine
set_option Elab.async false

/-- A peer's frame begins a resync wait: the peer returns, or is in step and shows the gap of the frame's class (R100, R102). -/
abbrev WaitBegins (s : State) (e : RxEntry) : Prop :=
  (s.member e.frame.src).presence = .absent
    ∨ ((s.member e.frame.src).sync = .inStep ∧ gapShown (s.member e.frame.src).expected e.frame.seq e.frame.body = true)

/-- A RESYNC REQUEST takes an entry at once (R73, R90, R105). -/
abbrev State.RequestFits (s : State) : Prop := s.bus.queue.length < 24 ∧ s.mbu.mode ≠ .isolated

/-- The entry of a RESYNC REQUEST. -/
def requestFor (st : Addr) : TxEntry := { body := .resyncRequest st, disposition := .unsent, attempts := 0, seq := none }

/-- The transmit queue after a resync claim (R105). -/
def State.requestQueue (s : State) (st : Addr) : List TxEntry := if s.RequestFits then s.bus.queue ++ [requestFor st] else s.bus.queue

/-- The entry of a peer after a frame of its stream (R98, R100, R101). -/
def heardEntry (s : State) (e : RxEntry) : Member :=
  { s.member e.frame.src with
      presence := .present, reported := reportedBy (s.member e.frame.src).reported e.frame.body, expected := e.frame.seq + 1, silence := s.timerH 3 }

/-- The entry of a peer after a frame that begins a wait (R102, R105). -/
def awaitedEntry (s : State) (e : RxEntry) : Member :=
  { heardEntry s e with sync := .awaiting, attempts := 1, resync := s.timerH 2, resyncOwed := !decide s.RequestFits }

theorem claimResync_setMember (s : State) (st : Addr) (m : Member) :
    claimResync st (s.setMember st m) = (s.setMember st { m with resyncOwed := !decide s.RequestFits }).setQueue (s.requestQueue st) := by
  have room : ((s.setMember st m).bus.hasFree && !(s.setMember st m).isolated) = true ↔ s.RequestFits := by
    simp [hasFree_iff, State.isolated]
  unfold claimResync State.requestQueue
  rw [State.member_setMember, if_pos rfl, setMember_setMember, setMember_setMember]
  by_cases fits : s.RequestFits
  · rw [if_pos (room.2 fits), if_pos fits, decide_eq_true fits]
    have unsent : (s.setMember st { m with resyncOwed := false }).isolated = false := by simpa [State.isolated] using fits.2
    unfold placeTail entryFor
    rw [unsent]
    rfl
  · rw [if_neg (mt room.1 fits), if_neg fits, decide_eq_false fits]
    rfl

/-- A frame of a stream is heard: the entry moves, and a wait that it begins claims a RESYNC REQUEST and STALE. -/
theorem peerHeard_stream {s : State} {e : RxEntry} (other : (s.member e.frame.src).presence ≠ .self) (join : e.frame.body.cls ≠ .join)
    (snapshot : e.frame.body.cls ≠ .snapshot) :
    peerHeard e.frame s =
      if WaitBegins s e then claimStale e.frame.src ((s.setMember e.frame.src (awaitedEntry s e)).setQueue (s.requestQueue e.frame.src))
      else s.setMember e.frame.src (heardEntry s e) := by
  have stream : peerHeard e.frame s = streamHeard e.frame.src e.frame.seq e.frame.body (restartSilence e.frame.src s) := by
    unfold peerHeard
    rw [if_neg other]
    cases body : e.frame.body with
    | join mask => rw [body] at join; exact absurd rfl join
    | snapshot es => rw [body] at snapshot; exact absurd rfl snapshot
    | _ => rfl
  rw [stream]
  unfold streamHeard
  dsimp only
  rw [member_restartSilence, restartSilence, setMember_setMember]
  by_cases begins : WaitBegins s e
  · rw [if_pos begins, if_pos begins, beginWait, setMember_setMember, State.member_setMember, if_pos rfl, claimResync_setMember]
    rfl
  · rw [if_neg begins, if_neg begins]
    rfl

/-- What a frame of a peer's stream leaves once the Membership Unit has heard it. -/
structure PeerHeard (s h : State) (e : RxEntry) : Prop where
  units : h = { s with gat := h.gat, hrn := h.hrn, jnl := h.jnl, mbu := { s.mbu with members := h.mbu.members }, bus := { s.bus with queue := h.bus.queue } }
  others : ∀ a, a ≠ e.frame.src → h.member a = s.member a
  awaited : WaitBegins s e → h.member e.frame.src = awaitedEntry s e
  followed : ¬ WaitBegins s e → h.member e.frame.src = heardEntry s e
  requested : WaitBegins s e → h.bus.queue = s.requestQueue e.frame.src
  queue : ¬ WaitBegins s e → h.bus.queue = s.bus.queue
  stale : WaitBegins s e → ∀ p, recordAt h.gat e.frame.src p =
    { recordAt s.gat e.frame.src p with status := if (recordAt s.gat e.frame.src p).status = .empty then .empty else .stale }
  blocks : WaitBegins s e → ∀ a, a ≠ e.frame.src → h.gat.get a = s.gat.get a
  notices : WaitBegins s e → (∃ p, (recordAt s.gat e.frame.src p).status = .current ∨ (recordAt s.gat e.frame.src p).status = .lost) →
    Reviewed s.conf h.gat s.hrn h.hrn ∧ Offered s h [.stationStale e.frame.src s.tmb.groupTime]
  unmarked : WaitBegins s e → (∀ p, (recordAt s.gat e.frame.src p).status = .empty ∨ (recordAt s.gat e.frame.src p).status = .stale) →
    h.hrn = s.hrn ∧ h.jnl = s.jnl
  calm : ¬ WaitBegins s e → h.gat = s.gat ∧ h.hrn = s.hrn ∧ h.jnl = s.jnl

/-- A frame that shows no gap moves the entry of its source alone. -/
theorem peerHeard_followed {s : State} {e : RxEntry} (follows : ¬ WaitBegins s e) : PeerHeard s (s.setMember e.frame.src (heardEntry s e)) e where
  units := rfl
  others _ ne := (State.member_setMember ..).trans (if_neg ne)
  awaited begins := absurd begins follows
  followed _ := (State.member_setMember ..).trans (if_pos rfl)
  requested begins := absurd begins follows
  queue _ := rfl
  stale begins := absurd begins follows
  blocks begins := absurd begins follows
  notices begins := absurd begins follows
  unmarked begins := absurd begins follows
  calm _ := ⟨rfl, rfl, rfl⟩

/-- A frame that begins a wait moves the entry and the queue, and marks the block of its source. -/
theorem peerHeard_awaited {s : State} {e : RxEntry} (runs : s.runs = true) (begins : WaitBegins s e) :
    PeerHeard s (claimStale e.frame.src ((s.setMember e.frame.src (awaitedEntry s e)).setQueue (s.requestQueue e.frame.src))) e := by
  let u := (s.setMember e.frame.src (awaitedEntry s e)).setQueue (s.requestQueue e.frame.src)
  have member (a : Addr) : (claimStale e.frame.src u).member a = if a = e.frame.src then awaitedEntry s e else s.member a := by
    have kept : (claimStale e.frame.src u).member a = u.member a := by simp [State.member]
    rw [kept]
    exact State.member_setMember ..
  obtain ⟨marks, keeps⟩ := claimStale_notices e.frame.src (s := u) (loggerRuns_of_runs runs)
  exact {
    units := by refine State.eq_of_units ?_ ?_ ?_ ?_ ?_ ?_ ?_ ?_ ?_ ?_ ?_ ?_ ?_ <;> simp
    others := fun a ne => (member a).trans (if_neg ne)
    awaited := fun _ => (member _).trans (if_pos rfl)
    followed := fun follows => absurd begins follows
    requested := fun _ => by simp
    queue := fun follows => absurd begins follows
    stale := fun _ p => (recordAt_claimStale ..).trans (if_pos rfl)
    blocks := fun _ a ne => get_claimStale_of_ne u ne
    notices := fun _ => marks
    unmarked := fun _ => keeps
    calm := fun follows => absurd begins follows }

/-- The hearing of a peer's frame of a class other than JOIN and SNAPSHOT. -/
theorem peerHeard_spec {s : State} {e : RxEntry} (runs : s.runs = true) (other : (s.member e.frame.src).presence ≠ .self)
    (join : e.frame.body.cls ≠ .join) (snapshot : e.frame.body.cls ≠ .snapshot) : PeerHeard s (peerHeard e.frame s) e := by
  rw [peerHeard_stream other join snapshot]
  by_cases begins : WaitBegins s e
  · rw [if_pos begins]; exact peerHeard_awaited runs begins
  · rw [if_neg begins]; exact peerHeard_followed begins

end Sys2Proof.Machine
end

section
/-! What the stages after the hearing of a peer's frame leave of it: member entries, copy, queue, and a RESYNC REQUEST that is owed
or queued (R10, R32, R33, R74, R75, R107, R115, R131). -/
namespace Sys2Proof.Machine
set_option Elab.async false

/-! ## A RESYNC REQUEST owed or queued -/

/-- The RESYNC REQUEST for a station is owed, or stands in the queue (R105). -/
abbrev RequestStands (st : Addr) (s : State) : Prop := (s.member st).resyncOwed = true ∨ ∃ x ∈ s.bus.queue, x.body = .resyncRequest st

theorem RequestStands.of_queue {st : Addr} {s t : State} (h : RequestStands st s) (owed : (t.member st).resyncOwed = (s.member st).resyncOwed)
    (queue : ∀ x ∈ s.bus.queue, x.body = .resyncRequest st → x ∈ t.bus.queue) : RequestStands st t := by
  rcases h with h | ⟨x, mem, body⟩
  · exact Or.inl (owed.trans h)
  · exact Or.inr ⟨x, queue x mem body, body⟩

theorem unsentState_of_resyncRequest {x : TxEntry} {st : Addr} (body : x.body = .resyncRequest st) : x.unsentState = false := by
  unfold TxEntry.unsentState; rw [body]

/-- A claim served leaves the request owed or queued: its own service queues it (R74). -/
theorem requestStands_placed {st : Addr} {s : State} (h : RequestStands st s) (c : Claim) : RequestStands st (Claim.placed s c) := by
  have kept (owed : ((Claim.placed s c).member st).resyncOwed = (s.member st).resyncOwed) : RequestStands st (Claim.placed s c) :=
    h.of_queue owed fun _ mem body => mem_placed mem (unsentState_of_resyncRequest body) c
  cases c with
  | snapshot => refine kept ?_; unfold Claim.placed; dsimp only; split <;> rfl
  | resyncRequest b =>
    by_cases same : b = st
    · exact Or.inr ⟨s.entryOf (.resyncRequest b) s.bus.lastEnded, List.mem_append_right _ (List.mem_singleton.2 rfl), by rw [entryOf_body, same]⟩
    · refine kept (congrArg Member.resyncOwed ?_)
      exact Tab.get_set_of_ne _ _ _ _ fun h => same h.symm
  | replay b =>
    refine kept ?_
    show ((s.mbu.members.set b { s.member b with replay := .none }).get st).resyncOwed = _
    rw [Tab.get_set]
    split
    · rename_i same; rw [same]
    · rfl
  | _ => exact kept rfl

theorem requestStands_snapshotClaimed {st : Addr} {s : State} (h : RequestStands st s) : RequestStands st s.snapshotClaimed :=
  snapshotClaimed_keeps (P := RequestStands st) (fun _ c _ h => requestStands_placed h c) (fun _ h => h) h

theorem requestStands_withdrawReplay {st : Addr} {s : State} (h : RequestStands st s) (target : Addr) : RequestStands st (withdrawReplay target s) := by
  have owed : ((s.replayForgotten target).member st).resyncOwed = (s.member st).resyncOwed := by
    rw [State.replayForgotten, State.member_setMember]
    split
    · rename_i same; rw [same]
    · rfl
  rw [withdrawReplay_eq]
  split
  · refine served_keeps (P := RequestStands st) (fun _ c _ _ h => requestStands_placed h c) (h.of_queue owed fun x mem body => List.mem_filter.2 ⟨mem, ?_⟩)
    unfold TxEntry.unsentReplayFor; rw [body]; rfl
  · exact h.of_queue owed fun _ mem _ => mem

theorem requestStands_replayTaken {st : Addr} {w : State} (h : RequestStands st w) (passed : Prop) [Decidable passed] (es : Tab Entry) :
    RequestStands st (replayTaken passed es w) := by
  by_cases passes : passed
  · by_cases holding : w.psq.phase = .holding
    · rw [replayTaken_of_adopted passes holding, reconcileAll_eq]
      exact requestStands_snapshotClaimed (s := ((closeJoin w).adopting es).reconciled) h
    · rw [replayTaken_of_passed passes holding]; exact h
  · rw [replayTaken_of_kept passes]; exact h

/-- The rewriting of a point's unsent STATE leaves the other entries. -/
theorem mem_rewriteUnsent {x : TxEntry} (plain : x.unsentState = false) (p : Point) (b : StateBody) {queue : List TxEntry} (mem : x ∈ queue) :
    x ∈ rewriteUnsent p b queue := by
  induction queue with
  | nil => exact mem
  | cons e rest ih =>
    unfold rewriteUnsent
    by_cases told : e.unsentStateFor p = true
    · obtain ⟨unsent, old, body, -⟩ := (unsentStateFor_iff ..).1 told
      rw [if_pos told, body]
      refine List.mem_cons_of_mem _ ((List.mem_cons.1 mem).resolve_left fun same => ?_)
      rw [same, (unsentState_iff e).2 ⟨unsent, old, body⟩] at plain
      cases plain
    · rw [if_neg told]
      exact (List.mem_cons.1 mem).elim (fun same => same ▸ List.mem_cons_self) fun mem => List.mem_cons_of_mem _ (ih mem)

theorem mem_announce {x : TxEntry} (plain : x.unsentState = false) (p : Point) {s : State} (mem : x ∈ s.bus.queue) : x ∈ (announce p s).bus.queue := by
  by_cases unsent : s.bus.queue.any (TxEntry.unsentStateFor p) = true
  · rw [announce_of_unsent unsent]; exact mem_rewriteUnsent plain p _ mem
  · have none := eq_false_of_ne_true unsent
    by_cases free : s.bus.queue.length < 24
    · rw [announce_of_free none free]; exact mem_placed mem plain _
    · rw [announce_of_full none (by omega)]; exact mem

theorem mem_takeRequest {x : TxEntry} (plain : x.unsentState = false) (mask : ZoneMask) (acts : SeqState) (ev : PointEvent) {s : State}
    (mem : x ∈ s.bus.queue) : x ∈ (takeRequest mask acts ev s).bus.queue := by
  unfold takeRequest
  split
  · refine foldl_invariant (fun u : State => x ∈ u.bus.queue) _ (fun u p mem => ?_) _ _ mem
    split
    · rw [takeEvent_eq]
      split
      · exact mem_announce plain p mem
      · exact mem
    · exact mem
  · exact mem

/-! ## The other peers at a withdrawal -/

theorem noRequest_of_nothingWaits {s : State} (still : NothingWaits s) (a : Addr) : (s.member a).resyncOwed = false := by
  obtain ⟨-, -, members⟩ := still
  exact (members a).1

theorem noReplay_of_nothingWaits {s : State} (still : NothingWaits s) (a : Addr) : (s.member a).replay ≠ .due := by
  obtain ⟨-, -, members⟩ := still
  exact (members a).2

/-- At a REPLAY no claim but that for one peer's RESYNC REQUEST has been served: the other peers owe none and their replays stand,
the target's cancelled (R74, R115). -/
abbrev OthersUnserved (st target : Addr) (s t : State) : Prop :=
  ∀ a, (a ≠ st → (t.member a).resyncOwed = false) ∧ (t.member a).replay = if a = target then .none else (s.member a).replay

section
variable {st target : Addr} {s t : State} (still : NothingWaits s)
include still

theorem OthersUnserved.placed (h : OthersUnserved st target s t) {c : Claim} (first : c = .snapshot ∨ t.firstClaim = some c) :
    OthersUnserved st target s (Claim.placed t c) := by
  have waits : c = .snapshot ∨ t.holds c = true := first.imp_right holds_of_firstClaim
  have kept (members : (Claim.placed t c).mbu.members = t.mbu.members) : OthersUnserved st target s (Claim.placed t c) := fun a => by
    unfold State.member; rw [members]; exact h a
  cases c with
  | snapshot => refine kept ?_; unfold Claim.placed; dsimp only; split <;> rfl
  | resyncRequest b =>
    have same : b = st := by
      by_contra ne
      have owed : (t.member b).resyncOwed = true := waits.resolve_left (by simp)
      rw [(h b).1 ne] at owed
      cases owed
    intro a
    have member : (Claim.placed t (.resyncRequest b)).member a = if a = b then { t.member b with resyncOwed := false } else t.member a := Tab.get_set ..
    rw [member]
    split
    · rename_i here
      rw [here]
      exact ⟨fun _ => rfl, (h b).2⟩
    · exact h a
  | replay b =>
    have due : ((t.member b).replay == .due) = true := waits.resolve_left (by simp)
    rw [(h b).2, beq_iff_eq] at due
    split at due
    · cases due
    · exact absurd due (noReplay_of_nothingWaits still b)
  | _ => exact kept rfl

theorem OthersUnserved.served (h : OthersUnserved st target s t) : OthersUnserved st target s t.served :=
  served_keeps (P := OthersUnserved st target s) (fun _ _ _ first h => OthersUnserved.placed still h (Or.inr first)) h

theorem OthersUnserved.snapshotClaimed (h : OthersUnserved st target s t) : OthersUnserved st target s t.snapshotClaimed :=
  snapshotClaimed_keeps (P := OthersUnserved st target s) (fun _ _ first h => OthersUnserved.placed still h first) (fun _ h => h) h

theorem OthersUnserved.replayTaken (h : OthersUnserved st target s t) (passed : Prop) [Decidable passed] (es : Tab Entry) :
    OthersUnserved st target s (replayTaken passed es t) := by
  by_cases passes : passed
  · by_cases holding : t.psq.phase = .holding
    · rw [replayTaken_of_adopted passes holding, reconcileAll_eq]
      exact OthersUnserved.snapshotClaimed (t := ((closeJoin t).adopting es).reconciled) still h
    · rw [replayTaken_of_passed passes holding]; exact h
  · rw [replayTaken_of_kept passes]; exact h

/-- The withdrawal after the hearing of the frame. -/
theorem othersUnserved_withdrawReplay {e : RxEntry} {h : State} (owed : ∀ a, a ≠ e.frame.src → (h.member a).resyncOwed = (s.member a).resyncOwed)
    (replay : ∀ a, (h.member a).replay = (s.member a).replay) : OthersUnserved e.frame.src target s (withdrawReplay target h) := by
  have forgotten : OthersUnserved e.frame.src target s (h.replayForgotten target) := fun a => by
    rw [State.replayForgotten, State.member_setMember]
    split
    · rename_i here
      exact ⟨fun ne => (owed target (here ▸ ne)).trans (noRequest_of_nothingWaits still target), rfl⟩
    · exact ⟨fun ne => (owed a ne).trans (noRequest_of_nothingWaits still a), replay a⟩
  rw [withdrawReplay_eq]
  split
  · exact OthersUnserved.served (t := h.replayTakenBack target) still forgotten
  · exact forgotten

end

/-! ## The stages after the hearing -/

/-- What the later stages of a delivery leave of the state `h` in which the frame was heard. -/
structure LaterStages (e : RxEntry) (h u : State) : Prop where
  members : e.frame.body.cls ≠ .replay → u.mbu.members = h.mbu.members
  entry : ∀ a, u.member a =
    { h.member a with resyncOwed := (u.member a).resyncOwed, replay := (u.member a).replay, replayTimer := (u.member a).replayTimer }
  copy : e.frame.body.cls ≠ .state → u.gat = h.gat ∧ u.hrn = h.hrn ∧ u.jnl = h.jnl
  stale : ∀ p, (recordAt h.gat e.frame.src p).status = .stale → (recordAt u.gat e.frame.src p).status = .stale
  queue : e.frame.body.cls = .timeMark ∨ e.frame.body.cls = .state ∨ e.frame.body.cls = .heartbeat → u.bus.queue = h.bus.queue
  request : RequestStands e.frame.src h → RequestStands e.frame.src u

/-- Stages that leave the member entries. -/
theorem LaterStages.of_mbu {e : RxEntry} {h u : State} (mbu : u.mbu = h.mbu)
    (copy : e.frame.body.cls ≠ .state → u.gat = h.gat ∧ u.hrn = h.hrn ∧ u.jnl = h.jnl)
    (stale : ∀ p, (recordAt h.gat e.frame.src p).status = .stale → (recordAt u.gat e.frame.src p).status = .stale)
    (queue : e.frame.body.cls = .timeMark ∨ e.frame.body.cls = .state ∨ e.frame.body.cls = .heartbeat → u.bus.queue = h.bus.queue)
    (behind : ∀ x ∈ h.bus.queue, x.body = .resyncRequest e.frame.src → x ∈ u.bus.queue) : LaterStages e h u := by
  have member (a : Addr) : u.member a = h.member a := by unfold State.member; rw [mbu]
  exact ⟨fun _ => by rw [mbu], fun a => by rw [member], copy, stale, queue, fun stands => stands.of_queue (by rw [member]) behind⟩

theorem LaterStages.refl (e : RxEntry) (h : State) : LaterStages e h h :=
  .of_mbu rfl (fun _ => ⟨rfl, rfl, rfl⟩) (fun _ marked => marked) (fun _ => rfl) fun _ mem _ => mem

/-- Stages that leave member entries, copy, horn and journal. -/
theorem LaterStages.of_units {e : RxEntry} {h u : State} (mbu : u.mbu = h.mbu) (gat : u.gat = h.gat) (hrn : u.hrn = h.hrn) (jnl : u.jnl = h.jnl)
    (queue : e.frame.body.cls = .timeMark ∨ e.frame.body.cls = .state ∨ e.frame.body.cls = .heartbeat → u.bus.queue = h.bus.queue)
    (behind : ∀ x ∈ h.bus.queue, x.body = .resyncRequest e.frame.src → x ∈ u.bus.queue) : LaterStages e h u :=
  .of_mbu mbu (fun _ => ⟨gat, hrn, jnl⟩) (fun _ marked => by rw [gat]; exact marked) queue behind

section
variable {e : RxEntry}

/-- The Group Table Unit at a STATE leaves a STALE record STALE (R11). -/
theorem laterStages_gtuState {b : StateBody} (body : e.frame.body = .state b) (h : State) : LaterStages e h (gtuState e.frame.src b h) := by
  refine .of_mbu (by simp) (fun other => absurd (by rw [body]; rfl) other) (fun p marked => ?_) (fun _ => by simp) fun x mem _ => by simpa using mem
  rw [gtuState_gat, recordAt_applyState]
  split
  · rename_i here
    rw [here.2] at marked
    show (recordAt h.gat e.frame.src b.point).status.afterState = .stale
    rw [marked]
    rfl
  · exact marked

theorem laterStages_takeRequest {mask : ZoneMask} {acts : SeqState} {ev : PointEvent} (request : (∃ zones, e.frame.body = .ack zones) ∨ ∃ zones, e.frame.body = .reset zones)
    (h : State) : LaterStages e h (takeRequest mask acts ev h) := by
  refine .of_units (by simp) (by simp) (by simp) (by simp) (fun kind => ?_) fun x mem body => mem_takeRequest (unsentState_of_resyncRequest body) mask acts ev mem
  rcases request with ⟨_, body⟩ | ⟨_, body⟩ <;> rw [body] at kind <;> simp [Body.cls] at kind

theorem laterStages_snapshotClaimed {target : Addr} (body : e.frame.body = .resyncRequest target) (h : State) :
    LaterStages e h (h.setBif h.bus.snapshotClaimed) := by
  refine .of_units rfl rfl rfl rfl (fun kind => ?_) fun x mem _ => ?_
  · rw [body] at kind; simp [Body.cls] at kind
  · show x ∈ h.bus.snapshotClaimed.queue
    unfold Bif.snapshotClaimed
    split_ifs
    · exact mem
    · exact List.mem_append_left _ mem
    · exact mem

theorem laterStages_replay {target : Addr} {es : Tab Entry} (body : e.frame.body = .replay target es) (passed : Prop) [Decidable passed] (h : State) :
    LaterStages e h (replayTaken passed es (withdrawReplay target h)) := by
  have frame := replayTaken_frame (passed := passed) (es := es) (w := withdrawReplay target h)
  simp only [withdrawReplay_frame] at frame
  obtain ⟨gat, hrn, jnl, -, -⟩ := frame
  refine ⟨fun other => absurd (by rw [body]; rfl) other, fun a => ?_, fun _ => ⟨gat, hrn, jnl⟩, fun p marked => by rw [gat]; exact marked, fun kind => ?_,
    fun stands => requestStands_replayTaken (requestStands_withdrawReplay stands target) passed es⟩
  · have withdrawn : ReplayWithdrawn h target (replayTaken passed es (withdrawReplay target h)) := (replayWithdrawn target h).replayTaken
    rw [withdrawn.member a, State.replayForgotten, State.member_setMember]
    split
    · rename_i here; rw [here]
    · rfl
  · rw [body] at kind; simp [Body.cls] at kind

/-- TIME MARK, STATE and HEARTBEAT have no handling of their class in the Membership Unit (R98). -/
theorem mbuStage_of_plain (plain : e.frame.body.cls = .timeMark ∨ e.frame.body.cls = .state ∨ e.frame.body.cls = .heartbeat) (s : State) :
    mbuStage e s = s.heardFrom e := by
  unfold mbuStage State.heardFrom
  unfold peerClassHandling ownHeard
  cases body : e.frame.body with
  | timeMark _ => rfl
  | state _ => rfl
  | heartbeat _ => rfl
  | _ => simp [body, Body.cls] at plain

/-- The stages of a delivery after the hearing, class by class. -/
theorem laterStages_deliverStages (join : e.frame.body.cls ≠ .join) (snapshot : e.frame.body.cls ≠ .snapshot) (s : State) :
    LaterStages e (s.heardFrom e) (deliverStages e s) := by
  cases body : e.frame.body with
  | timeMark carried =>
    have stages : deliverStages e s = applyMark carried (s.heardFrom e) := by
      rw [← mbuStage_of_plain (Or.inl (by rw [body]; rfl))]; simp [deliverStages, gtuStage, psqStage, tmbStage, body]
    rw [stages]
    exact .of_units (by simp) (by simp) (by simp) (by simp) (fun _ => by simp) fun x mem _ => by simpa using mem
  | state b =>
    rw [deliverStages_state body, mbuStage_of_plain (Or.inr (Or.inl (by rw [body]; rfl)))]
    exact laterStages_gtuState body _
  | ack mask => rw [deliverStages_request (Or.inl ⟨body, rfl, rfl⟩)]; exact laterStages_takeRequest (Or.inl ⟨_, body⟩) _
  | reset mask => rw [deliverStages_request (Or.inr ⟨body, rfl, rfl⟩)]; exact laterStages_takeRequest (Or.inr ⟨_, body⟩) _
  | replay target es =>
    rw [deliverStages_replay body]
    exact laterStages_replay body (e.origin = .peer ∧ target = s.own ∧ s.mbu.joinState = .opened) _
  | resyncRequest target =>
    rw [deliverStages_resyncRequest body]
    split
    · exact laterStages_snapshotClaimed body _
    · exact .refl ..
  | heartbeat mode =>
    have stages : deliverStages e s = s.heardFrom e := by
      rw [← mbuStage_of_plain (Or.inr (Or.inr (by rw [body]; rfl)))]; simp [deliverStages, gtuStage, psqStage, tmbStage, body]
    rw [stages]
    exact .refl ..
  | join mask => rw [body] at join; exact absurd rfl join
  | snapshot es => rw [body] at snapshot; exact absurd rfl snapshot

end

end Sys2Proof.Machine
end

section
/-! A peer's frame delivered: O28 (R98, R100 to R103, R105, R115). -/
namespace Sys2Proof.Machine
set_option Elab.async false

section
variable {s h u : State} {e : RxEntry}

/-- Presence, expected number, silence timer and reported mode after a peer's frame, whether it begins a wait or not (R98, R100, R101). -/
theorem LaterStages.settles (later : LaterStages e h u) (heard : PeerHeard s h e) :
    (u.member e.frame.src).presence = .present ∧ (u.member e.frame.src).expected = e.frame.seq + 1
      ∧ (u.member e.frame.src).silence = .running s.tmb.localCount (3 * s.heartbeatMs)
      ∧ (u.member e.frame.src).reported = reportedBy (s.member e.frame.src).reported e.frame.body := by
  rw [later.entry]
  by_cases begins : WaitBegins s e
  · rw [heard.awaited begins]; exact ⟨rfl, rfl, rfl, rfl⟩
  · rw [heard.followed begins]; exact ⟨rfl, rfl, rfl, rfl⟩

/-- The request of a wait is owed or queued when the hearing ends (R105). -/
theorem PeerHeard.requestStands (heard : PeerHeard s h e) (begins : WaitBegins s e) : RequestStands e.frame.src h := by
  unfold RequestStands
  rw [heard.awaited begins, heard.requested begins]
  unfold State.requestQueue awaitedEntry
  by_cases fits : s.RequestFits
  · rw [if_pos fits]
    exact Or.inr ⟨requestFor e.frame.src, List.mem_append_right _ List.mem_cons_self, rfl⟩
  · exact Or.inl (by simp [fits])

/-- A frame that begins a wait leaves the entry AWAITING, its request owed or queued, and its records STALE (R7, R102, R105). -/
theorem LaterStages.begun (later : LaterStages e h u) (heard : PeerHeard s h e) (begins : WaitBegins s e) :
    (u.member e.frame.src).sync = .awaiting ∧ (u.member e.frame.src).attempts = 1
      ∧ (u.member e.frame.src).resync = .running s.tmb.localCount (2 * s.heartbeatMs) ∧ RequestStands e.frame.src u
      ∧ ∀ p, (recordAt s.gat e.frame.src p).status ≠ .empty → (recordAt u.gat e.frame.src p).status = .stale := by
  have stands := later.request (heard.requestStands begins)
  have entry := later.entry e.frame.src
  rw [heard.awaited begins] at entry
  refine ⟨by rw [entry]; rfl, by rw [entry]; rfl, by rw [entry]; rfl, stands, fun p filled => later.stale p ?_⟩
  rw [heard.stale begins]
  exact if_neg filled

/-- A frame that begins none leaves the wait of its source as it is (R98). -/
theorem LaterStages.kept (later : LaterStages e h u) (heard : PeerHeard s h e) (follows : ¬ WaitBegins s e) :
    (u.member e.frame.src).sync = (s.member e.frame.src).sync ∧ (u.member e.frame.src).attempts = (s.member e.frame.src).attempts
      ∧ (u.member e.frame.src).resync = (s.member e.frame.src).resync := by
  rw [later.entry, heard.followed follows]
  exact ⟨rfl, rfl, rfl⟩

/-- At a frame that is no REPLAY the other entries and the source's replay stay, and its request is owed where no entry takes it. -/
theorem LaterStages.members_of_no_replay (later : LaterStages e h u) (heard : PeerHeard s h e) (other : e.frame.body.cls ≠ .replay) :
    (∀ a, a ≠ e.frame.src → u.member a = s.member a)
      ∧ (u.member e.frame.src).replay = (s.member e.frame.src).replay ∧ (u.member e.frame.src).replayTimer = (s.member e.frame.src).replayTimer
      ∧ (WaitBegins s e → (u.member e.frame.src).resyncOwed = !decide s.RequestFits)
      ∧ (¬ WaitBegins s e → (u.member e.frame.src).resyncOwed = (s.member e.frame.src).resyncOwed) := by
  have member (a : Addr) : u.member a = h.member a := by unfold State.member; rw [later.members other]
  simp only [member]
  refine ⟨heard.others, ?_⟩
  by_cases begins : WaitBegins s e
  · rw [heard.awaited begins]; exact ⟨rfl, rfl, fun _ => rfl, fun follows => absurd begins follows⟩
  · rw [heard.followed begins]; exact ⟨rfl, rfl, fun h => absurd h begins, fun _ => rfl⟩

/-- Owed requests, replays and replay timers through the hearing (R98). -/
theorem PeerHeard.replay (heard : PeerHeard s h e) (a : Addr) :
    (h.member a).replay = (s.member a).replay ∧ (a ≠ e.frame.src → (h.member a).resyncOwed = (s.member a).resyncOwed) := by
  by_cases source : a = e.frame.src
  · subst source
    refine ⟨?_, fun ne => absurd rfl ne⟩
    by_cases begins : WaitBegins s e
    · rw [heard.awaited begins]; rfl
    · rw [heard.followed begins]; rfl
  · rw [heard.others a source]; exact ⟨rfl, fun _ => rfl⟩

/-- A REPLAY cancels its target's replay at the other entries, and where no claim waited serves none of theirs (R74, R115). -/
theorem members_of_replay {target : Addr} {es : Tab Entry} (body : e.frame.body = .replay target es) (heard : PeerHeard s (s.heardFrom e) e) {a : Addr}
    (ne : a ≠ e.frame.src) :
    let t := deliverStages e s
    t.member a = { s.member a with resyncOwed := (t.member a).resyncOwed, replay := (t.member a).replay
                                   replayTimer := if a = target then .stopped else (s.member a).replayTimer }
      ∧ (NothingWaits s → (t.member a).resyncOwed = (s.member a).resyncOwed ∧ (t.member a).replay = if a = target then .none else (s.member a).replay) := by
  intro t
  let passed : Prop := e.origin = .peer ∧ target = s.own ∧ s.mbu.joinState = .opened
  have stages : t = replayTaken passed es (withdrawReplay target (s.heardFrom e)) := deliverStages_replay body s
  have withdrawn : ReplayWithdrawn (s.heardFrom e) target t := by rw [stages]; exact (replayWithdrawn target _).replayTaken
  constructor
  · conv => lhs; rw [withdrawn.member a, State.replayForgotten, State.member_setMember]
    split
    · rename_i here; rw [← here, heard.others a ne]
    · rw [heard.others a ne]
  · intro still
    have served : OthersUnserved e.frame.src target s t := by
      rw [stages]
      refine OthersUnserved.replayTaken still ?_ passed es
      exact othersUnserved_withdrawReplay still (fun b other => (heard.replay b).2 other) fun b => (heard.replay b).1
    obtain ⟨owes, replay⟩ := served a
    exact ⟨(owes ne).trans (noRequest_of_nothingWaits still a).symm, replay⟩

/-- The queue after a frame that has no stage on it: the request of a wait behind it, where it fits (R105). -/
theorem LaterStages.queue_of_plain (later : LaterStages e h u) (heard : PeerHeard s h e)
    (plain : e.frame.body.cls = .timeMark ∨ e.frame.body.cls = .state ∨ e.frame.body.cls = .heartbeat) :
    (WaitBegins s e → s.RequestFits → u.bus.queue = s.bus.queue ++ [requestFor e.frame.src])
      ∧ (¬ WaitBegins s e ∨ ¬ s.RequestFits → u.bus.queue = s.bus.queue) := by
  rw [later.queue plain]
  by_cases begins : WaitBegins s e
  · rw [heard.requested begins]
    exact ⟨fun _ fits => if_pos fits, fun quiet => if_neg (quiet.resolve_left fun follows => follows begins)⟩
  · exact ⟨fun h => absurd h begins, fun _ => heard.queue begins⟩

end

theorem deliverStages_heartbeat {e : RxEntry} (cls : e.frame.body.cls = .heartbeat) (s : State) : deliverStages e s = s.heardFrom e := by
  rw [← mbuStage_of_plain (Or.inr (Or.inr cls))]
  cases body : e.frame.body with
  | heartbeat mode => simp [deliverStages, gtuStage, psqStage, tmbStage, body]
  | _ => simp [body, Body.cls] at cls

/-- The end of a delivery that is the hearing alone. -/
theorem endDelivery_heard {s h : State} {e : RxEntry} {rest : List RxEntry} (heard : PeerHeard s h e) (rx : s.bus.rx = e :: rest) :
    let t := endDelivery h
    t = { s with mbu := { s.mbu with members := t.mbu.members }, gat := t.gat, hrn := t.hrn, jnl := t.jnl
                 bus := { s.bus with queue := t.bus.queue, rx := rest, idleWait := t.bus.idleWait } } := by
  have units := heard.units
  clear heard
  generalize h.gat = gat, h.hrn = hrn, h.jnl = jnl, h.mbu.members = members, h.bus.queue = queue at units
  subst units
  dsimp only
  conv => lhs; rw [endDelivery_eq]
  simp [rx]

theorem Offered.of_jnl {s u t : State} {l : List JournalRecord} (h : Offered s u l) (jnl : t.jnl = u.jnl) : Offered s t l := by
  unfold Offered; rw [jnl]; exact h

/-- Settles O28: the frame is heard (`peerHeard_spec`), and `LaterStages` says what the other stages leave of that. -/
theorem peerFrameSettlesTheStream : Obligations.PeerFrameSettlesTheStream := by
  intro s e rest runs rx st c m gap begins placed
  have outcome := exec_delivery_head runs rx
  refine ⟨fun peer other join snapshot => ?_, fun own kind => ?_⟩
  · have begins_iff : begins ↔ WaitBegins s e := by
      refine or_congr_right (and_congr_right fun _ => ?_)
      cases body : e.frame.body with
      | join mask => rw [body] at join; exact absurd rfl join
      | snapshot es => rw [body] at snapshot; exact absurd rfl snapshot
      | _ => simp [gap, body, gapShown, m, c, st]
    have placed_iff : placed = true ↔ s.RequestFits := decide_eq_true_iff
    have heard : PeerHeard s (s.heardFrom e) e := by rw [heardFrom_peer peer]; exact peerHeard_spec runs other join snapshot
    have later := laterStages_deliverStages join snapshot s
    obtain ⟨mbu, gat, hrn, jnl, queue⟩ : (endDelivery (deliverStages e s)).mbu = (deliverStages e s).mbu ∧ (endDelivery (deliverStages e s)).gat = (deliverStages e s).gat
      ∧ (endDelivery (deliverStages e s)).hrn = (deliverStages e s).hrn ∧ (endDelivery (deliverStages e s)).jnl = (deliverStages e s).jnl
      ∧ (endDelivery (deliverStages e s)).bus.queue = (deliverStages e s).bus.queue := by simp
    have member (a : Addr) : (endDelivery (deliverStages e s)).member a = (deliverStages e s).member a := by unfold State.member; rw [mbu]
    have mode : (deliverStages e s).mbu.mode = s.mbu.mode := by simp [deliverStages, mbuStage, peer]
    obtain ⟨presence, expected, silence, reported⟩ := later.settles heard
    rw [begins_iff]
    refine ⟨endDelivery (deliverStages e s), outcome, endDelivery_settled (by simp), ?_, by rw [mbu, mode], by simp, by simp, by simp, by simp,
      fun heartbeat => ?_, fun unreplayed => ?_, fun target es replay a ne => ?_, fun plain => ?_, ?_, ?_, ?_, ?_, fun waits => ?_, fun follows => ?_,
      fun unstated => ?_⟩
    · rw [endDelivery_bus (e := e) (rest := rest) (by simpa using rx)]
    · rw [deliverStages_heartbeat heartbeat]
      exact endDelivery_heard heard rx
    · simp only [member]
      exact later.members_of_no_replay heard unreplayed
    · simp only [member]
      exact members_of_replay replay heard ne
    · rw [queue, placed_iff]
      obtain ⟨asked, quiet⟩ := later.queue_of_plain heard plain
      exact ⟨asked, fun h => quiet (h.imp_right fun full fits => by rw [placed_iff.2 fits] at full; cases full)⟩
    · rw [member]; exact presence
    · rw [member]; exact expected
    · rw [member]; exact silence
    · rw [member]
      refine reported.trans ?_
      cases body : e.frame.body with
      | join mask => rw [body] at join; exact absurd rfl join
      | snapshot es => rw [body] at snapshot; exact absurd rfl snapshot
      | _ => rfl
    · rw [member, queue, gat]
      exact later.begun heard waits
    · rw [member]
      exact later.kept heard follows
    · obtain ⟨copy, horn, journal⟩ := later.copy unstated
      rw [gat, hrn, jnl, copy, horn, journal]
      refine ⟨fun waits => ⟨heard.blocks waits, heard.stale waits⟩, fun waits changes => ?_, heard.unmarked, heard.calm⟩
      obtain ⟨reviewed, offered⟩ := heard.notices waits changes
      exact ⟨reviewed, (offered.of_jnl journal).endDelivery⟩
  · have unmoved : deliverStages e s = s := by
      rcases kind with heartbeat | request
      · rw [deliverStages_heartbeat heartbeat, heardFrom_own own]
      · cases body : e.frame.body with
        | resyncRequest target => rw [deliverStages_resyncRequest body, if_neg fun h => own h.1, heardFrom_own own]
        | _ => simp [body, Body.cls] at request
    rw [unmoved] at outcome
    refine ⟨endDelivery s, outcome, ?_, endDelivery_settled rfl⟩
    conv => lhs; rw [endDelivery_eq, rx, List.tail_cons]

end Sys2Proof.Machine
end

section
/-! Group time command by command: MILLISECOND counts it, a delivered mark moves it forward, a cold start sets it to 0, and no other
command moves it: O4, O58 (R125, R127, R131). -/
namespace Sys2Proof.Machine

/-! ## O4: a millisecond -/

/-- Settles O4: the event arises exactly with RESET high. -/
theorem millisecondAdvancesBothCounts : Obligations.MillisecondAdvancesBothCounts := by
  intro s
  constructor
  · intro high
    rw [exec_millisecond, arise_true (by rw [high]; rfl)]
    rfl
  · intro low
    rw [exec_millisecond, arise_false (by rw [low]; rfl)]

/-! ## Group time through the operations that move the Time Base -/

@[simp] theorem releaseMarkTimer_groupTime (s : State) : (releaseMarkTimer s).tmb.groupTime = s.tmb.groupTime := rfl

@[simp] theorem enterIsolated_groupTime (s : State) : (enterIsolated s).tmb.groupTime = s.tmb.groupTime := by
  unfold enterIsolated; dsimp only; split <;> simp

@[simp] theorem afterDiscard_groupTime (s : State) : (afterDiscard s).tmb.groupTime = s.tmb.groupTime := by
  unfold afterDiscard; dsimp only; split <;> simp

/-- A failed attempt moves no more of the Time Base than the mark timer (R77, R129). -/
@[simp] theorem chargeAttempt_groupTime (c : Candidate) (s : State) : (chargeAttempt c s).tmb.groupTime = s.tmb.groupTime := by
  unfold chargeAttempt
  cases c with
  | markSlot =>
    dsimp only
    split
    · rfl
    · split <;> simp
  | heartbeatSlot =>
    dsimp only
    split
    · rfl
    · (repeat' split) <;> simp
  | queueHead =>
    dsimp only
    split
    · rfl
    · split <;> simp

@[simp] theorem failAttempt_groupTime (c : Candidate) (s : State) : (failAttempt c s).tmb.groupTime = s.tmb.groupTime := by
  simp [failAttempt]

@[simp] theorem enterHalted_groupTime (cause : HaltCause) (s : State) : (enterHalted cause s).tmb.groupTime = s.tmb.groupTime := by
  simp [enterHalted]

/-- Another sender's frame moves no group time at its reception, nor by the halt that an address clash brings (R83, R87). -/
@[simp] theorem receiveFrame_groupTime (bytes : List Byte) (s : State) : (receiveFrame bytes s).tmb.groupTime = s.tmb.groupTime := by
  unfold receiveFrame clashFound
  dsimp only
  split
  · rfl
  · (repeat' split) <;> simp

/-- The end of a read starts or stops the mark timer and leaves group time as it counts (R127, R188, R189). -/
@[simp] theorem finishRead_groupTime (image : List Byte) (s : State) : (finishRead image s).tmb.groupTime = s.tmb.groupTime := by
  unfold finishRead
  split
  · simp [loadAccepted]
  · split <;> simp [loadRefused]

@[simp] theorem takeTick_groupTime (points : BitVec 16) (buttons : ButtonLevels) (s : State) :
    (takeTick points buttons s).tmb.groupTime = s.tmb.groupTime := by
  unfold takeTick; dsimp only; split <;> rfl

@[simp] theorem markExpired_groupTime (s : State) : (markExpired s).tmb.groupTime = s.tmb.groupTime := by
  unfold markExpired; split <;> simp

/-! ## Deliveries -/

/-- A delivered frame is of the class that its command names. -/
theorem deliverable_cls {cls : FrameClass} {s : State} {e : RxEntry} (h : s.deliverable cls = some e) : e.frame.body.cls = cls := by
  unfold State.deliverable at h
  split at h
  · cases h
  · split at h
    · rename_i head
      cases h
      simp only [Bool.and_eq_true, beq_iff_eq] at head
      exact head.2
    · cases h

/-- The Time Base stage is for a TIME MARK alone (R131). -/
theorem tmbStage_of_other {f : Frame} (other : f.body.cls ≠ .timeMark) (s : State) : tmbStage f s = s := by
  unfold tmbStage
  cases body : f.body with
  | timeMark carried => exact absurd (by rw [body]; rfl) other
  | _ => rfl

theorem applyMark_groupTime (carried : Millis) (s : State) :
    (applyMark carried s).tmb.groupTime =
      if forward s.tmb.groupTime (carried + s.conf.bitRate.allowance) then carried + s.conf.bitRate.allowance else s.tmb.groupTime := by
  simp [applyMark]

/-- The Time Base stage moves group time forward or not at all (R127, R131). -/
theorem tmbStage_groupTime (f : Frame) (s : State) :
    (tmbStage f s).tmb.groupTime = s.tmb.groupTime ∨ forward s.tmb.groupTime (tmbStage f s).tmb.groupTime = true := by
  unfold tmbStage
  cases f.body with
  | timeMark carried =>
    dsimp only
    rw [applyMark_groupTime]
    split
    · exact Or.inr ‹_›
    · exact Or.inl rfl
  | _ => exact Or.inl rfl

/-- The stages before the Time Base's leave group time alone (R86). -/
theorem deliver_groupTime (cls : FrameClass) {s t : State} (h : deliver cls s = .next t) :
    t.tmb.groupTime = s.tmb.groupTime ∨ cls = .timeMark ∧ forward s.tmb.groupTime t.tmb.groupTime = true := by
  cases hd : s.deliverable cls with
  | none => rw [deliver_none hd] at h; cases h; exact Or.inl rfl
  | some e =>
    rw [deliver_some hd] at h
    cases h
    by_cases mark : cls = .timeMark
    · simpa [deliverStages, mark] using tmbStage_groupTime e.frame (psqStage (s.replayPassed e) e.frame (gtuStage e.frame (mbuStage e s)))
    · have other : e.frame.body.cls ≠ .timeMark := by rw [deliverable_cls hd]; exact mark
      exact Or.inl (by simp [deliverStages, tmbStage_of_other other])

theorem deliver_keeps_groupTime {cls : FrameClass} (other : cls ≠ .timeMark) {s t : State} (h : deliver cls s = .next t) :
    t.tmb.groupTime = s.tmb.groupTime :=
  (deliver_groupTime cls h).resolve_right fun moved => other moved.1

/-! ## O58: the commands -/

/-- An event whose effect leaves group time alone. -/
theorem arise_keeps_groupTime {cond : Bool} {f : State → State} {s t : State} (hf : (f s).tmb.groupTime = s.tmb.groupTime)
    (h : arise cond f s = .next t) : t.tmb.groupTime = s.tmb.groupTime :=
  arise_keeps (P := fun t => t.tmb.groupTime = s.tmb.groupTime) rfl (fun _ => hf) h

/-- No command but a cold start, MILLISECOND and DELIVER_TIME_MARK moves group time (R127). -/
theorem exec_keeps_groupTime {c : Instr} (warm : ∀ cause, c ≠ .coldStart cause) (counts : c ≠ .millisecond) (mark : c ≠ .deliverTimeMark)
    {s t : State} (h : exec c s = .next t) : t.tmb.groupTime = s.tmb.groupTime := by
  cases c with
  | coldStart cause => exact absurd rfl (warm cause)
  | readStart => rw [exec_readStart] at h; exact arise_keeps_groupTime rfl h
  | readComplete image =>
    rw [exec_readComplete] at h
    split at h
    · exact arise_keeps_groupTime (by simp) h
    · cases h
  | tick points buttons => rw [exec_tick] at h; exact arise_keeps_groupTime (by simp) h
  | countdownExpiry p => rw [exec_countdownExpiry] at h; exact arise_keeps_groupTime (by simp) h
  | drainTimerExpiry => rw [exec_drainTimerExpiry] at h; exact arise_keeps_groupTime (by simp) h
  | debounce b => rw [exec_debounce] at h; exact arise_keeps_groupTime (by simp) h
  | beginFrame => rw [exec_beginFrame] at h; unfold execBeginFrame at h; split at h <;> cases h <;> simp
  | loseContention => rw [exec_loseContention] at h; unfold execLoseContention at h; split at h <;> cases h <;> simp
  | winContention => rw [exec_winContention] at h; unfold execWinContention at h; split at h <;> cases h <;> simp
  | transmitError => rw [exec_transmitError] at h; unfold execTransmitError at h; split at h <;> cases h <;> simp
  | idleWaitExpiry => rw [exec_idleWaitExpiry] at h; unfold execIdleWaitExpiry at h; split at h <;> cases h <;> simp
  | frameCompletion => rw [exec_frameCompletion] at h; unfold execFrameCompletion at h; split at h <;> cases h <;> simp
  | frameReceived bytes =>
    rw [exec_frameReceived] at h
    split at h
    · exact arise_keeps_groupTime (by simp) h
    · cases h
  | frameAbandoned reason =>
    rw [exec_frameAbandoned] at h
    refine arise_keeps_groupTime ?_ h
    rcases abandonFrame_spec reason s with e | e <;> simp [e, completeGap]
  | addressClashHalt => rw [exec_addressClashHalt] at h; exact arise_keeps_groupTime (by simp) h
  | loopbackPassage => rw [exec_loopbackPassage] at h; exact arise_keeps_groupTime (by simp) h
  | deliverTimeMark => exact absurd rfl mark
  | deliverState => exact deliver_keeps_groupTime (by decide) h
  | deliverAck => exact deliver_keeps_groupTime (by decide) h
  | deliverReset => exact deliver_keeps_groupTime (by decide) h
  | deliverSnapshot => exact deliver_keeps_groupTime (by decide) h
  | deliverReplay => exact deliver_keeps_groupTime (by decide) h
  | deliverResyncRequest => exact deliver_keeps_groupTime (by decide) h
  | deliverJoin => exact deliver_keeps_groupTime (by decide) h
  | deliverHeartbeat => exact deliver_keeps_groupTime (by decide) h
  | heartbeatTimerExpiry => rw [exec_heartbeatTimerExpiry] at h; exact arise_keeps_groupTime (by simp) h
  | silenceTimerExpiry st => rw [exec_silenceTimerExpiry] at h; exact arise_keeps_groupTime (by simp) h
  | resyncTimerExpiry st => rw [exec_resyncTimerExpiry] at h; exact arise_keeps_groupTime (by simp) h
  | replayTimerExpiry st => rw [exec_replayTimerExpiry] at h; exact arise_keeps_groupTime (by simp) h
  | joinWindowExpiry => rw [exec_joinWindowExpiry] at h; exact arise_keeps_groupTime (by simp) h
  | probeTimerExpiry => rw [exec_probeTimerExpiry] at h; exact arise_keeps_groupTime (by simp) h
  | markTimerExpiry => rw [exec_markTimerExpiry] at h; exact arise_keeps_groupTime (by simp) h
  | stageTimerExpiry => rw [exec_stageTimerExpiry] at h; exact arise_keeps_groupTime (by simp) h
  | chimeTimerExpiry => rw [exec_chimeTimerExpiry] at h; exact arise_keeps_groupTime (by simp) h
  | logrdyChange high => rw [exec_logrdyChange] at h; cases h; simp
  | recordDeparture => rw [exec_recordDeparture] at h; exact arise_keeps_groupTime (by simp) h
  | resetRelease straps => rw [exec_resetRelease] at h; exact arise_keeps_groupTime rfl h
  | millisecond => exact absurd rfl counts
  | idleGap => rw [exec_idleGap] at h; exact arise_keeps_groupTime (by simp [completeGap]) h

/-- Both ways of a cold start leave the Time Base at its cold-start values (R180). -/
theorem exec_coldStart_groupTime {cause : ColdStartCause} {s t : State} (h : exec (.coldStart cause) s = .next t) : t.tmb.groupTime = 0 := by
  cases cause with
  | resetLow => rw [exec_coldStart_resetLow] at h; cases h; rfl
  | powerOn straps => rw [exec_coldStart_powerOn] at h; cases h; rfl

theorem forward_iff {old new : Millis} : forward old new = true ↔ 1 ≤ (new - old).toNat ∧ (new - old).toNat < 2 ^ 31 := decide_eq_true_iff

/-- A count of 1 is a move forward, also where it wraps (R127). -/
theorem forward_succ (gt : Millis) : forward gt (gt + 1) = true := by
  have one : gt + 1 - gt = 1 := by rw [BitVec.add_comm, BitVec.add_sub_cancel]
  rw [forward_iff, one]
  decide

theorem exec_millisecond_groupTime {s t : State} (h : exec .millisecond s = .next t) :
    t.tmb.groupTime = s.tmb.groupTime ∨ forward s.tmb.groupTime t.tmb.groupTime = true := by
  obtain ⟨high, low⟩ := millisecondAdvancesBothCounts s
  cases reset : s.pins.resetLow with
  | true => rw [low reset] at h; cases h; exact Or.inl rfl
  | false => rw [high reset] at h; cases h; exact Or.inr (forward_succ _)

/-- Settles O58: the cold start by its values, the count by O4, and the moves by what MILLISECOND and the Time Base stage do. -/
theorem groupTimeMovesForward : Obligations.GroupTimeMovesForward := by
  intro c s t h
  refine ⟨?_, ?_, fun warm moved => ?_⟩
  · rintro ⟨cause, rfl⟩
    exact exec_coldStart_groupTime h
  · rintro rfl high
    rw [(millisecondAdvancesBothCounts s).1 high] at h
    cases h
    exact ⟨rfl, rfl⟩
  · rw [← and_assoc]
    by_cases counts : c = .millisecond
    · subst counts
      exact ⟨forward_iff.1 ((exec_millisecond_groupTime h).resolve_left moved), Or.inl rfl⟩
    · by_cases mark : c = .deliverTimeMark
      · subst mark
        exact ⟨forward_iff.1 ((deliver_groupTime .timeMark h).resolve_left moved).2, Or.inr rfl⟩
      · exact absurd (exec_keeps_groupTime warm counts mark h) moved

end Sys2Proof.Machine
end

section
/-! The patterns of the lamps and STATUS (R142 to R150). -/
namespace Sys2Proof.Machine

/-! ## The clock and the patterns (R142, R143) -/

theorem Mode.runs_iff (m : Mode) : m.runs = true ↔ m = .joining ∨ m = .active ∨ m = .isolated := by
  cases m <;> simp [Mode.runs]

/-- The patterns run by group time in the running modes and by the local count otherwise (R142). -/
theorem patternClock_eq (s : State) :
    s.patternClock = if s.mbu.mode = .joining ∨ s.mbu.mode = .active ∨ s.mbu.mode = .isolated then s.tmb.groupTime.toNat else s.tmb.localCount.toNat := by
  simp only [State.patternClock, State.runs, Mode.runs_iff]

/-- Settles O44: the ranges of each pattern, and both outputs read at `patternClock`. -/
theorem patternsFollowTheClock : Obligations.PatternsFollowTheClock := by
  refine ⟨fun c => ⟨rfl, rfl, ?_, ?_, ?_, ?_, ?_⟩, fun s => ?_⟩
  · exact decide_eq_true_iff.trans (by omega)
  · simp only [Pattern.on, Bool.or_eq_true, Bool.and_eq_true, decide_eq_true_eq]; omega
  · exact decide_eq_true_iff.trans (by omega)
  · exact decide_eq_true_iff.trans (by omega)
  · exact decide_eq_true_iff.trans (by omega)
  · intro c
    have clock : s.patternClock = c := patternClock_eq s
    exact ⟨fun lamp => by rw [← clock]; rfl, by rw [← clock]; rfl⟩

/-! ## POINT and ZONE entries (R144, R145) -/

theorem pointPattern_eq (r : GatRecord) :
    pointPattern r =
      if r.inUse = false then .off else if r.status ≠ .current then .unknown
      else if r.state = .normal then .off else if r.state = .alert ∧ r.firstOut = true then .first else if r.state = .alert then .fast
      else if r.state = .held then .steady else if r.state = .returned then .slow else .wink := by
  unfold pointPattern
  cases r.inUse with
  | false => rfl
  | true => cases r.state <;> cases r.firstOut <;> rfl

/-- Some in-use CURRENT record of a zone stands in a state (R145). -/
theorem zoneShows_iff (z : Zone) (st : SeqState) (g : Gat) :
    anyRecord (zoneShows z st) g = true ↔
      ∃ a p, (recordAt g a p).inUse = true ∧ (recordAt g a p).status = .current ∧ (recordAt g a p).zone = z ∧ (recordAt g a p).state = st := by
  simp only [anyRecord_iff, zoneShows, Bool.and_eq_true, beq_iff_eq, and_assoc]

/-- Some in-use record of a zone is STALE or LOST (R145). -/
theorem zoneDoubtful_iff (z : Zone) (g : Gat) :
    anyRecord (zoneDoubtful z) g = true ↔
      ∃ a p, (recordAt g a p).inUse = true ∧ (recordAt g a p).zone = z ∧ ((recordAt g a p).status = .stale ∨ (recordAt g a p).status = .lost) := by
  simp only [anyRecord_iff, zoneDoubtful, Bool.and_eq_true, Bool.or_eq_true, beq_iff_eq, and_assoc]

/-- Settles O45: one equation of `pointPattern`, and the cases of `zonePattern` in their order. -/
theorem pointAndZoneEntriesShowTheCopy : Obligations.PointAndZoneEntriesShowTheCopy := by
  intro s
  refine ⟨fun st p => pointPattern_eq _, fun z => ?_⟩
  intro current doubtful shown
  have shows (st : SeqState) : anyRecord (zoneShows z st) s.gat = true ↔ current st := zoneShows_iff z st s.gat
  have doubts : anyRecord (zoneDoubtful z) s.gat = true ↔ doubtful := zoneDoubtful_iff z s.gat
  have pattern : shown = zonePattern z s.gat := rfl
  rw [pattern]
  simp only [← shows, ← doubts]
  unfold zonePattern
  refine ⟨fun alert => if_pos alert, fun alert returned => ?_, fun alert returned held => ?_, fun alert returned held shelved => ?_,
    fun alert returned held shelved doubt => ?_, fun alert returned held shelved doubt => ?_⟩
  · rw [if_neg alert, if_pos returned]
  · rw [if_neg alert, if_neg returned, if_pos held]
  · rw [if_neg alert, if_neg returned, if_neg held, if_pos shelved]
  · rw [if_neg alert, if_neg returned, if_neg held, if_neg shelved, if_pos doubt]
  · rw [if_neg alert, if_neg returned, if_neg held, if_neg shelved, if_neg doubt]

/-! ## Lamps by station mode, STATION entries and STATUS (R146 to R150) -/

theorem lampPattern_of_runs {s : State} (runs : s.runs = true) (lamp : Fin 16) :
    s.lampPattern lamp = if s.pnl.lampTest then .steady else s.entryPattern (s.conf.lamps.get lamp) := by
  unfold State.lampPattern
  rcases (Mode.runs_iff _).1 runs with mode | mode | mode <;> rw [mode]

/-- The own STATION entry shows the own mode, running modes being three (R146). -/
theorem ownPattern_of_runs {m : Mode} (runs : m.runs = true) :
    ownPattern m = if m = .active then .steady else if m = .joining then .fast else .slow := by
  rcases (Mode.runs_iff _).1 runs with mode | mode | mode <;> rw [mode] <;> rfl

theorem entryPattern_own (s : State) : s.entryPattern (.station s.own) = ownPattern s.mbu.mode := if_pos rfl

theorem entryPattern_peer {s : State} {st : Addr} (peer : st ≠ s.own) : s.entryPattern (.station st) = peerPattern (s.member st) (s.gat.get st) :=
  if_neg peer

theorem peerPattern_of_present {m : Member} (present : m.presence = .present) (block : Tab GatRecord) :
    peerPattern m block =
      if m.reported = some .isolated then .slow else if m.sync = .awaiting ∨ m.reported = some .joining then .fast
      else if m.reported = some .active then .steady else .fast := by
  unfold peerPattern; rw [present]

theorem peerPattern_of_absent {m : Member} (absent : m.presence = .absent) (block : Tab GatRecord) :
    peerPattern m block = if block.any (·.status == .lost) then .unknown else .off := by
  unfold peerPattern; rw [absent]

/-- Some record of a block is LOST (R147). -/
theorem anyLost_iff (g : Gat) (st : Addr) : (g.get st).any (·.status == .lost) = true ↔ ∃ p, (recordAt g st p).status = .lost := by
  simp only [Tab.any_iff, beq_iff_eq, recordAt]

/-- Settles O46: `lampPattern` by mode, STATION entries by the own mode or the member entry. -/
theorem lampsAndStatusFollowTheMode : Obligations.LampsAndStatusFollowTheMode := by
  intro s lamp
  refine ⟨fun mode => ?_, fun mode => ?_, fun mode => ?_, fun runs => lampPattern_of_runs runs lamp, rfl, fun runs => ?_, fun st peer => ?_, rfl⟩
  · unfold State.lampPattern; rw [mode]
  · unfold State.lampPattern; rw [mode]
  · unfold State.lampPattern; rw [mode]
  · rw [entryPattern_own, ownPattern_of_runs runs]
  · rw [entryPattern_peer peer]
    refine ⟨fun present => peerPattern_of_present present _, fun absent lost => ?_, fun absent lost => ?_⟩
    · rw [peerPattern_of_absent absent, if_pos ((anyLost_iff ..).2 lost)]
    · rw [peerPattern_of_absent absent, if_neg fun any => ?_]
      obtain ⟨p, is⟩ := (anyLost_iff ..).1 any
      exact lost p is

end Sys2Proof.Machine
end

section
/-! DEBOUNCE: what a press and a release change, and which unit each press reaches (R136 to R140, R151). -/
namespace Sys2Proof.Machine

/-! ## The debouncers (R136) -/

theorem Pnl.button_setButton (p : Pnl) (b b' : Button) (d : Debouncer) :
    (p.setButton b d).button b' = if b' = b then d else p.button b' := by
  cases b <;> cases b' <;> rfl

/-- A button's debounced state inverted, its count and due mark cleared (R136). -/
def State.turned (s : State) (b : Button) : State :=
  s.setPnl (s.pnl.setButton b { pressed := !(s.pnl.button b).pressed, count := 0, due := false })

theorem debounce_of_pressed {s : State} {b : Button} (pressed : (s.pnl.button b).pressed = true) : debounce b s = release b (s.turned b) := by
  unfold debounce; dsimp only; rw [if_pos pressed]; rfl

theorem debounce_of_released {s : State} {b : Button} (released : (s.pnl.button b).pressed = false) : debounce b s = press b (s.turned b) := by
  unfold debounce; dsimp only; rw [if_neg (by simp [released])]; rfl

/-- The first due button in the order of R137 is debounced. -/
theorem exec_debounce_of_due {s : State} {b : Button} (runs : s.runs = true) (due : (s.pnl.button b).due = true)
    (first : ∀ b' ∈ actedBefore b, (s.pnl.button b').due = false) : exec (.debounce b) s = .next (settleIdleWait (debounce b s)) := by
  have next : s.debouncesNext b = true := by
    simp only [State.debouncesNext, runs, due, Bool.true_and, List.all_eq_true, Bool.not_eq_true']
    exact first
  rw [exec_debounce, arise_true next]

/-! ## What a press and a release change (R137, R140) -/

theorem claimAck_changes (s : State) :
    claimAck s = { s with pnl := { s.pnl with pendingAck := (claimAck s).pnl.pendingAck }, bus := { s.bus with queue := (claimAck s).bus.queue } } := by
  unfold claimAck; split_ifs <;> rfl

theorem claimReset_changes (s : State) :
    claimReset s = { s with pnl := { s.pnl with pendingReset := (claimReset s).pnl.pendingReset }, bus := { s.bus with queue := (claimReset s).bus.queue } } := by
  unfold claimReset; split_ifs <;> rfl

theorem silenceClaim_eq (s : State) :
    silenceClaim s = s.setHrn (if s.hrn.horn = .sounding then { s.hrn with horn := .silenced, stage := .stopped } else s.hrn) := by
  unfold silenceClaim
  cases s.hrn.horn <;> rfl

/-- A press moves its button's pending flag, lamp test at TEST, the horn and the transmit queue, and nothing else. -/
theorem press_changes (b : Button) (s : State) :
    press b s = { s with pnl := { s.pnl with lampTest := if b = .test then true else s.pnl.lampTest
                                             pendingAck := if b = .ack then (press b s).pnl.pendingAck else s.pnl.pendingAck
                                             pendingReset := if b = .reset then (press b s).pnl.pendingReset else s.pnl.pendingReset }
                         hrn := (press b s).hrn, bus := { s.bus with queue := (press b s).bus.queue } } := by
  cases b with
  | ack =>
    by_cases may : s.mayRequest = true
    · have claim : press .ack s = claimAck s := if_pos may
      rw [claim, claimAck_changes]; rfl
    · have ignored : press .ack s = s := if_neg may
      rw [ignored]; rfl
  | reset =>
    by_cases may : s.mayRequest = true
    · have claim : press .reset s = claimReset s := if_pos may
      rw [claim, claimReset_changes]; rfl
    · have ignored : press .reset s = s := if_neg may
      rw [ignored]; rfl
  | silence =>
    have claim : press .silence s = silenceClaim s := rfl
    rw [claim, silenceClaim_eq]; rfl
  | test =>
    have claim : press .test s = chimeClaim (s.setPnl { s.pnl with lampTest := true }) := rfl
    rw [claim, chimeClaim_eq]; rfl

/-- A release moves lamp test at TEST, and nothing else. -/
theorem release_changes (b : Button) (s : State) :
    release b s = s.setPnl { s.pnl with lampTest := if b = .test then false else s.pnl.lampTest } := by
  cases b <;> rfl

/-- DEBOUNCE moves the panel, the horn and the transmit queue, and nothing else. -/
theorem debounce_changes (b : Button) (s : State) :
    debounce b s = { s with pnl := (debounce b s).pnl, hrn := (debounce b s).hrn, bus := { s.bus with queue := (debounce b s).bus.queue } } := by
  cases pressed : (s.pnl.button b).pressed with
  | true => rw [debounce_of_pressed pressed, release_changes]; rfl
  | false => rw [debounce_of_released pressed, press_changes]; rfl

/-- The panel after DEBOUNCE: the button inverted, lamp test after TEST, and no pending flag but the button's own. -/
theorem pnl_debounce (b : Button) (s : State) :
    (debounce b s).pnl =
      { s.pnl.setButton b { pressed := !(s.pnl.button b).pressed, count := 0, due := false } with
        lampTest := if b = .test then !(s.pnl.button b).pressed else s.pnl.lampTest
        pendingAck := if b = .ack then (debounce b s).pnl.pendingAck else s.pnl.pendingAck
        pendingReset := if b = .reset then (debounce b s).pnl.pendingReset else s.pnl.pendingReset } := by
  cases pressed : (s.pnl.button b).pressed with
  | true =>
    rw [debounce_of_pressed pressed, release_changes, State.turned, pressed]
    cases b <;> rfl
  | false =>
    rw [debounce_of_released pressed, press_changes, State.turned, pressed]
    cases b <;> rfl

/-- A release reaches neither the horn, nor the queue, nor a pending flag (R137). -/
theorem debounce_of_release {s : State} {b : Button} (pressed : (s.pnl.button b).pressed = true) :
    (debounce b s).hrn = s.hrn ∧ (debounce b s).bus = s.bus ∧ (debounce b s).pnl.pendingAck = s.pnl.pendingAck
      ∧ (debounce b s).pnl.pendingReset = s.pnl.pendingReset := by
  rw [debounce_of_pressed pressed, release_changes]
  cases b <;> exact ⟨rfl, rfl, rfl, rfl⟩

/-- Settles O13: `debounce_changes` and `pnl_debounce`, with the idle-wait timer settled after them. -/
theorem debounceTakesThePinLevel : Obligations.DebounceTakesThePinLevel := by
  intro s b runs due first
  have panel := pnl_debounce b s
  refine ⟨settleIdleWait (debounce b s), exec_debounce_of_due runs due first, (settleIdleWait_spec _).of_timer (by simp), ?_, ?_, fun b' other => ?_, ?_,
    fun other => ?_, fun other => ?_, ?_, fun pressed => ?_⟩
  · rw [settleIdleWait_bus, debounce_changes]
  all_goals simp only [settleIdleWait_frame, settleIdleWait_fields]
  · rw [panel]
    exact (Pnl.button_setButton ..).trans (if_pos rfl)
  · rw [panel]
    exact (Pnl.button_setButton ..).trans (if_neg other)
  · rw [panel]; cases b <;> rfl
  · rw [panel]; exact if_neg other
  · rw [panel]; exact if_neg other
  · rw [panel]
  · obtain ⟨hrn, bus, ack, reset⟩ := debounce_of_release pressed
    exact ⟨hrn, by rw [bus], ack, reset⟩

/-! ## A press of ACK or RESET (R138, R139, R151) -/

theorem mayRequest_iff (s : State) :
    s.mayRequest = true ↔ (s.pnl.tickMode = .active ∨ s.pnl.tickMode = .isolated) ∧ s.conf.panelMask ≠ 0 := by
  have takes : s.pnl.tickMode.takesRequests = true ↔ s.pnl.tickMode = .active ∨ s.pnl.tickMode = .isolated := by
    cases s.pnl.tickMode <;> simp [Mode.takesRequests]
  rw [State.mayRequest, Bool.and_eq_true, takes, bne_iff_ne]

/-- What a request of the panel with the body `body`, the pending flag `pend` and the other button's flag `other` makes of a
state: the words of O14. -/
abbrev PanelRequestTaken (body : TxBody) (pend other : Pnl → Bool) (s t : State) : Prop :=
  let asked := (s.pnl.tickMode = .active ∨ s.pnl.tickMode = .isolated) ∧ s.conf.panelMask ≠ 0
  t.hrn = s.hrn ∧ other t.pnl = other s.pnl ∧ t.pnl.tickMode = s.pnl.tickMode
    ∧ (¬ asked ∨ pend s.pnl = true → t.bus.queue = s.bus.queue ∧ pend t.pnl = pend s.pnl)
    ∧ (asked → pend s.pnl = false → s.bus.queue.length < 24 → pend t.pnl = false
        ∧ (s.pnl.tickMode = .isolated ∨ s.mbu.mode = .isolated →
            t.bus.queue = s.bus.queue ++ [{ body := body, disposition := .loopedBack, attempts := 0, seq := some s.bus.lastEnded }])
        ∧ (s.pnl.tickMode = .active → s.mbu.mode ≠ .isolated →
            t.bus.queue = s.bus.queue ++ [{ body := body, disposition := .unsent, attempts := 0, seq := none }]))
    ∧ (asked → pend s.pnl = false → 24 ≤ s.bus.queue.length → pend t.pnl = true ∧ t.bus.queue = s.bus.queue)

/-- A request placed: looped back where the tick was taken in ISOLATED or the station is, unsent otherwise (R88, R90). -/
theorem queue_placeRequest {body : TxBody} {s : State} (byte : loopbackSeq s.bus body = s.bus.lastEnded) :
    (s.pnl.tickMode = .isolated ∨ s.mbu.mode = .isolated →
      (placeRequest body s).bus.queue = s.bus.queue ++ [{ body := body, disposition := .loopedBack, attempts := 0, seq := some s.bus.lastEnded }])
    ∧ (s.pnl.tickMode = .active → s.mbu.mode ≠ .isolated →
      (placeRequest body s).bus.queue = s.bus.queue ++ [{ body := body, disposition := .unsent, attempts := 0, seq := none }]) := by
  have looped : (s.isolated || s.pnl.tickMode == .isolated) = true ↔ s.pnl.tickMode = .isolated ∨ s.mbu.mode = .isolated := by
    simp only [State.isolated, Bool.or_eq_true, beq_iff_eq, or_comm]
  unfold placeRequest entryFor
  refine ⟨fun isolated => ?_, fun active connected => ?_⟩
  · rw [if_pos (looped.2 isolated), byte]; rfl
  · rw [if_neg fun h => ?_]
    · rfl
    · rcases looped.1 h with h | h
      · rw [active] at h; cases h
      · exact connected h

/-- A request is absorbed by its pending flag, placed, or, as `waits`, left pending (R138, R139). -/
theorem panelRequestTaken_claim {body : TxBody} {pend other : Pnl → Bool} {s waits : State} (byte : loopbackSeq s.bus body = s.bus.lastEnded)
    (pends : pend waits.pnl = true) (queue : waits.bus.queue = s.bus.queue) (hrn : waits.hrn = s.hrn) (others : other waits.pnl = other s.pnl)
    (tickMode : waits.pnl.tickMode = s.pnl.tickMode) :
    PanelRequestTaken body pend other s
      (if s.mayRequest then if pend s.pnl then s else if s.bus.hasFree then placeRequest body s else waits else s) := by
  unfold PanelRequestTaken
  intro asked
  have may : s.mayRequest = true ↔ asked := mayRequest_iff s
  have free := hasFree_iff s.bus
  obtain ⟨looped, unsent⟩ := queue_placeRequest byte
  split_ifs with request absorbed room
  · refine ⟨rfl, rfl, rfl, fun _ => ⟨rfl, rfl⟩, fun _ clear => ?_, fun _ clear => ?_⟩ <;> (rw [absorbed] at clear; cases clear)
  · exact ⟨rfl, rfl, rfl, fun none => none.elim (absurd (may.1 request)) (absurd · absorbed), fun _ clear _ => ⟨clear, looped, unsent⟩,
      fun _ _ full => absurd (free.1 room) (by omega)⟩
  · exact ⟨hrn, others, tickMode, fun none => none.elim (absurd (may.1 request)) (absurd · absorbed), fun _ _ few => absurd (free.2 few) room,
      fun _ _ _ => ⟨pends, queue⟩⟩
  · exact ⟨rfl, rfl, rfl, fun _ => ⟨rfl, rfl⟩, fun asks => absurd (may.2 asks) request, fun asks => absurd (may.2 asks) request⟩

theorem panelRequestTaken_ack (s : State) : PanelRequestTaken (.ack s.conf.panelMask) Pnl.pendingAck Pnl.pendingReset s (press .ack s) :=
  panelRequestTaken_claim (waits := s.setPnl { s.pnl with pendingAck := true }) rfl rfl rfl rfl rfl rfl

theorem panelRequestTaken_reset (s : State) : PanelRequestTaken (.reset s.conf.panelMask) Pnl.pendingReset Pnl.pendingAck s (press .reset s) :=
  panelRequestTaken_claim (waits := s.setPnl { s.pnl with pendingReset := true }) rfl rfl rfl rfl rfl rfl

/-- Settles O14: a request by `panelRequestTaken_claim`, SILENCE by `silenceClaim_eq`, TEST by `chimeClaim_spec`. -/
theorem pressesReachTheirUnits : Obligations.PressesReachTheirUnits := by
  constructor
  · intro s b body pend other button runs due first released asked
    refine ⟨settleIdleWait (debounce b s), exec_debounce_of_due runs due first, ?_⟩
    simp only [settleIdleWait_frame, settleIdleWait_fields, debounce_of_released released]
    rcases button with ⟨rfl, rfl, rfl, rfl⟩ | ⟨rfl, rfl, rfl, rfl⟩
    · exact panelRequestTaken_ack (s.turned .ack)
    · exact panelRequestTaken_reset (s.turned .reset)
  · intro s b button runs due first released
    refine ⟨settleIdleWait (debounce b s), exec_debounce_of_due runs due first, ?_⟩
    simp only [settleIdleWait_frame, settleIdleWait_fields, debounce_of_released released]
    rcases button with rfl | rfl
    · have silenced : press .silence (s.turned .silence) = _ := silenceClaim_eq (s.turned .silence)
      rw [silenced]
      exact ⟨rfl, rfl, rfl, rfl, fun _ => rfl, nofun⟩
    · have claims := chimeClaim_spec ((s.turned .test).setPnl { (s.turned .test).pnl with lampTest := true })
      have claimed : press .test (s.turned .test) = _ := chimeClaim_eq ((s.turned .test).setPnl { (s.turned .test).pnl with lampTest := true })
      rw [claimed]
      exact ⟨rfl, rfl, rfl, rfl, nofun, fun _ => claims⟩

end Sys2Proof.Machine
end

section
/-! The horn and lamp test through every command: the continuous tone has its alert set, and lamp test follows TEST (R140,
R155 to R160, R164). -/
namespace Sys2Proof.Machine
-- The proofs are elaborated one after another, as in the tests: elaborated at once they exceed the memory of the check.
set_option Elab.async false

/-! ## Lamp test and the debounced TEST through the offers and the stages (R140) -/

@[simp] theorem offers_panel (s : State) : (offers s).pnl.lampTest = s.pnl.lampTest ∧ (offers s).pnl.test = s.pnl.test := by
  rw [offers_eq_served, served_frame]; exact ⟨rfl, rfl⟩

@[simp] theorem claimSnapshot_panel (s : State) :
    (claimSnapshot s).pnl.lampTest = s.pnl.lampTest ∧ (claimSnapshot s).pnl.test = s.pnl.test := by
  unfold claimSnapshot; (repeat' split) <;> simp

@[simp] theorem withdrawReplay_panel (a : Addr) (s : State) :
    (withdrawReplay a s).pnl.lampTest = s.pnl.lampTest ∧ (withdrawReplay a s).pnl.test = s.pnl.test := by
  unfold withdrawReplay; dsimp only; split <;> simp

@[simp] theorem adoptReplay_panel (es : Tab Entry) (s : State) :
    (adoptReplay es s).pnl.lampTest = s.pnl.lampTest ∧ (adoptReplay es s).pnl.test = s.pnl.test := by
  unfold adoptReplay; split <;> simp [reconcileAll]

@[simp] theorem freshStart_panel (s : State) :
    (freshStart s).pnl.lampTest = s.pnl.lampTest ∧ (freshStart s).pnl.test = s.pnl.test := by
  unfold freshStart; split <;> simp [reconcileAll]

@[simp] theorem winContention_panel (c : Candidate) (s : State) :
    (winContention c s).pnl.lampTest = s.pnl.lampTest ∧ (winContention c s).pnl.test = s.pnl.test := by
  have head (e : TxEntry) (rest : List TxEntry) :
      (beginHead e rest s).pnl.lampTest = s.pnl.lampTest ∧ (beginHead e rest s).pnl.test = s.pnl.test := by
    unfold beginHead; split <;> simp
  have begun : (beginCandidate c s).pnl.lampTest = s.pnl.lampTest ∧ (beginCandidate c s).pnl.test = s.pnl.test := by
    unfold beginCandidate; (repeat' split) <;> simp [head]
  unfold winContention; dsimp only; split <;> simpa using begun

@[simp] theorem afterDiscard_panel (s : State) :
    (afterDiscard s).pnl.lampTest = s.pnl.lampTest ∧ (afterDiscard s).pnl.test = s.pnl.test := by
  have isolated (u : State) : (enterIsolated u).pnl = u.pnl := by unfold enterIsolated; dsimp only; split <;> simp
  unfold afterDiscard; dsimp only; split <;> simp [isolated]

@[simp] theorem chargeAttempt_panel (c : Candidate) (s : State) :
    (chargeAttempt c s).pnl.lampTest = s.pnl.lampTest ∧ (chargeAttempt c s).pnl.test = s.pnl.test := by
  unfold chargeAttempt; (repeat' split) <;> simp

@[simp] theorem completeFrame_panel (c : Candidate) (f : Frame) (s : State) :
    (completeFrame c f s).pnl.lampTest = s.pnl.lampTest ∧ (completeFrame c f s).pnl.test = s.pnl.test := by
  have exits (u : State) : (exitIsolated u).pnl.lampTest = u.pnl.lampTest ∧ (exitIsolated u).pnl.test = u.pnl.test := by
    unfold exitIsolated; dsimp only; (repeat' split) <;> simp
  unfold completeFrame; dsimp only; split <;> simp [exits]

@[simp] theorem passLooped_panel (s : State) :
    (passLooped s).pnl.lampTest = s.pnl.lampTest ∧ (passLooped s).pnl.test = s.pnl.test := by
  unfold passLooped; (repeat' split) <;> simp

@[simp] theorem peerHeard_panel (f : Frame) (s : State) :
    (peerHeard f s).pnl.lampTest = s.pnl.lampTest ∧ (peerHeard f s).pnl.test = s.pnl.test := by
  have joins (c : SeqNo) (mask : BitVec 16) (u : State) :
      (joinHeard f.src c mask u).pnl.lampTest = u.pnl.lampTest ∧ (joinHeard f.src c mask u).pnl.test = u.pnl.test := by
    unfold joinHeard; dsimp only; split <;> simp
  unfold peerHeard; dsimp only; (repeat' split) <;> simp [joins]

@[simp] theorem mbuStage_panel (e : RxEntry) (s : State) :
    (mbuStage e s).pnl.lampTest = s.pnl.lampTest ∧ (mbuStage e s).pnl.test = s.pnl.test := by
  have handles (u : State) : (peerClassHandling e u).pnl.lampTest = u.pnl.lampTest ∧ (peerClassHandling e u).pnl.test = u.pnl.test := by
    unfold peerClassHandling; (repeat' split) <;> simp
  have own : (ownHeard e s).pnl.lampTest = s.pnl.lampTest ∧ (ownHeard e s).pnl.test = s.pnl.test := by
    unfold ownHeard; (repeat' split) <;> simp
  unfold mbuStage; split
  · simp [handles]
  · exact own

@[simp] theorem deliverStages_panel (e : RxEntry) (s : State) :
    (deliverStages e s).pnl.lampTest = s.pnl.lampTest ∧ (deliverStages e s).pnl.test = s.pnl.test := by
  have sequenced (passed : Bool) (f : Frame) (u : State) :
      (psqStage passed f u).pnl.lampTest = u.pnl.lampTest ∧ (psqStage passed f u).pnl.test = u.pnl.test := by
    unfold psqStage; (repeat' split) <;> simp
  simp [deliverStages, sequenced]

theorem lampTestHolds_takeTick {s : State} (lamp : LampTestHolds s.pnl) (points : BitVec 16) (l : ButtonLevels) :
    LampTestHolds (takeTick points l s).pnl := by
  have sampled (d : Debouncer) (level : Bool) : (d.sample level).pressed = d.pressed := by
    unfold Debouncer.sample; split_ifs <;> rfl
  cases runs : s.runs with
  | false => rw [takeTick_of_idle runs]; exact lamp
  | true => rw [takeTick_of_runs runs]; exact lamp.trans (sampled ..).symm

theorem lampTestHolds_debounce {s : State} (lamp : LampTestHolds s.pnl) (b : Button) : LampTestHolds (debounce b s).pnl := by
  unfold LampTestHolds
  rw [pnl_debounce]
  cases b with
  | test => rfl
  | _ => exact lamp

/-! ## The continuous tone through the notices and claims of the horn (R155 to R160) -/

/-- A horn that is SOUNDING, SILENCED or chiming back to SILENCED has a record in the alert set (R155, R158, R159). -/
abbrev ToneHolds (s : State) : Prop :=
  (s.hrn.horn = .sounding ∨ s.hrn.horn = .silenced ∨ (s.hrn.horn = .chiming ∧ s.hrn.ret = .silenced)) → s.alertStands = true

theorem alertStands_congr {s t : State} (config : t.config = s.config) (gat : t.gat = s.gat) : t.alertStands = s.alertStands := by
  unfold State.alertStands; rw [State.conf_congr config, gat]

/-- The tone and its alert set look at the horn, the copy and the configuration alone. -/
theorem ToneHolds.of_same {s t : State} (hs : ToneHolds s) (hrn : t.hrn = s.hrn := by simp) (config : t.config = s.config := by simp)
    (gat : t.gat = s.gat := by simp) : ToneHolds t := by
  unfold ToneHolds
  rw [hrn, alertStands_congr config gat]
  exact hs

/-- A review ends a tone whose alert set is empty, whatever the horn was before (R159). -/
theorem toneHolds_reviewHorn (s : State) : ToneHolds (reviewHorn s) := by
  unfold ToneHolds
  rw [alertStands_reviewHorn]
  by_cases stands : s.alertStands = true
  · exact fun _ => stands
  · cases horn : s.hrn.horn <;> simp [reviewHorn, horn, stands]

theorem toneHolds_chimeClaim {s : State} (hs : ToneHolds s) : ToneHolds (chimeClaim s) := by
  unfold ToneHolds at hs ⊢
  rw [alertStands_chimeClaim]
  cases horn : s.hrn.horn with
  | quiet => simp [chimeClaim, horn]
  | silenced => exact fun _ => hs (Or.inr (Or.inl horn))
  | sounding => exact fun _ => hs (Or.inl horn)
  | chiming => simpa [chimeClaim, horn] using hs

theorem toneHolds_silenceClaim {s : State} (hs : ToneHolds s) : ToneHolds (silenceClaim s) := by
  rw [silenceClaim_eq]
  split_ifs with sounding
  · exact fun _ => hs (Or.inl sounding)
  · exact hs

/-- A chime that ends gives the tone of a silence only where it came from one (R158). -/
theorem toneHolds_endChime {s : State} (hs : ToneHolds s) (chiming : s.hrn.horn = .chiming) : ToneHolds (endChime s) := by
  have stands : (endChime s).alertStands = s.alertStands := rfl
  unfold ToneHolds
  rw [stands]
  cases ret : s.hrn.ret with
  | silenced => exact fun _ => hs (Or.inr (Or.inr ⟨chiming, ret⟩))
  | _ => simp [endChime, ret]

theorem toneHolds_hornNotice (old : Gat) (st : Addr) {s : State} (p : Point) (hs : ToneHolds s) : ToneHolds (hornNotice old st s p) := by
  rw [hornNotice_eq]
  split_ifs with alert set
  · exact fun _ => alertStands_of_mem set
  · exact toneHolds_reviewHorn s
  · exact toneHolds_chimeClaim hs
  · exact hs

/-- A record that needs no review stays in the alert set or outside it (R22, R154). -/
theorem inAlertSet_of_unreviewed {c : StationConfig} {old g : Gat} {a : Addr} {p : Point} (same : ¬ ReviewDue (recordAt old a p) (recordAt g a p)) :
    InAlertSet c g a p ↔ InAlertSet c old a p := by
  simp only [ReviewDue, not_or, ne_eq, not_not] at same
  obtain ⟨state, inUse, zone, -, status⟩ := same
  unfold InAlertSet
  rw [state, inUse, zone, status]

/-- An application whose other records stay keeps the tone to the alert set: it is reviewed where it may have moved the set. -/
theorem toneHolds_applicationNotices {old : Gat} {st : Addr} {points : List Point} {s : State} (count : Count) (hs : ToneHolds (s.setGat old))
    (others : ∀ a p, ¬ (a = st ∧ p ∈ points) → recordAt s.gat a p = recordAt old a p) : ToneHolds (applicationNotices old st points count s) := by
  obtain ⟨reviewed, unreviewed⟩ := applicationNotices_hrn old st points count s
  by_cases due : ∃ p ∈ points, ReviewDue (recordAt old st p) (recordAt s.gat st p)
  · exact (toneHolds_reviewHorn (points.foldl (hornNotice old st) s)).of_same (reviewed due)
  · have set (a : Addr) (p : Point) : InAlertSet s.conf s.gat a p ↔ InAlertSet s.conf old a p := by
      refine inAlertSet_of_unreviewed fun changed => ?_
      by_cases concerned : a = st ∧ p ∈ points
      · obtain ⟨rfl, mem⟩ := concerned
        exact due ⟨p, mem, changed⟩
      · rw [others a p concerned] at changed
        simp [ReviewDue] at changed
    have stands : s.alertStands = (s.setGat old).alertStands := by
      rw [Bool.eq_iff_iff, alertStands_iff, alertStands_iff]
      simp only [set]; rfl
    have start : ToneHolds s := fun tone => stands.trans (hs tone)
    have noticed : ToneHolds (points.foldl (hornNotice old st) s) :=
      foldl_invariant ToneHolds _ (fun u p => toneHolds_hornNotice old st p) _ _ start
    exact noticed.of_same (unreviewed due)

theorem toneHolds_claimStatus (f : CopyStatus → CopyStatus) (n : JournalRecord) (st : Addr) {s : State} (hs : ToneHolds s) :
    ToneHolds (claimStatus f n st s) := by
  unfold claimStatus
  split
  · have reviewed := toneHolds_reviewHorn (s.setGat (s.gat.set st (restatus f (s.gat.get st))))
    exact reviewed.of_same
  · exact hs

/-! ## The continuous tone through a delivery -/

theorem toneHolds_peerHeard (f : Frame) {s : State} (hs : ToneHolds s) : ToneHolds (peerHeard f s) := by
  have stale {u : State} (st : Addr) (hu : ToneHolds u) : ToneHolds (claimStale st u) := toneHolds_claimStatus _ _ _ hu
  have streams (c : SeqNo) (b : Body) {u : State} (hu : ToneHolds u) : ToneHolds (streamHeard f.src c b u) := by
    unfold streamHeard
    dsimp only
    split
    · exact stale _ hu.of_same
    · exact hu.of_same
  have joins (c : SeqNo) (mask : BitVec 16) {u : State} (hu : ToneHolds u) : ToneHolds (joinHeard f.src c mask u) := by
    have claimed {v : State} (hv : ToneHolds v) : ToneHolds (considerReplay f.src mask (claimSnapshot (claimStale f.src v))) :=
      (stale f.src hv).of_same
    unfold joinHeard
    dsimp only
    split
    · exact claimed hu.of_same
    · exact hu.of_same
  have silence : ToneHolds (restartSilence f.src s) := hs.of_same
  unfold peerHeard
  dsimp only
  split
  · exact hs
  · cases f.body with
    | join mask => exact joins _ _ silence
    | snapshot es => exact silence.of_same
    | _ => exact streams _ _ silence

theorem toneHolds_mbuStage (e : RxEntry) {s : State} (hs : ToneHolds s) : ToneHolds (mbuStage e s) := by
  unfold mbuStage
  split
  · exact (toneHolds_peerHeard e.frame hs).of_same
  · exact hs.of_same

theorem toneHolds_gtuStage (f : Frame) {s : State} (hs : ToneHolds s) : ToneHolds (gtuStage f s) := by
  unfold gtuStage
  cases f.body with
  | state b =>
    refine toneHolds_applicationNotices b.count hs fun a p other => ?_
    rw [State.setGat_gat, recordAt_applyState, if_neg (by simpa using other)]
  | snapshot es =>
    refine toneHolds_applicationNotices 0 hs fun a p other => ?_
    rw [State.setGat_gat, recordAt_applySnapshot, if_neg (by simpa [mem_indices] using other)]
  | join mask => exact toneHolds_claimStatus _ _ _ hs
  | _ => exact hs

theorem toneHolds_deliverStages (e : RxEntry) {s : State} (hs : ToneHolds s) : ToneHolds (deliverStages e s) := by
  have shown := toneHolds_gtuStage e.frame (toneHolds_mbuStage e hs)
  exact shown.of_same (by simp [deliverStages]) (by simp [deliverStages]) (by simp [deliverStages])

theorem runs_of_deliverable {cls : FrameClass} {s : State} {e : RxEntry} (h : s.deliverable cls = some e) : s.runs = true := by
  unfold State.deliverable at h
  split at h
  · cases h
  · split at h
    · rename_i may; exact (Bool.and_eq_true_iff.1 may).1
    · cases h

/-- A delivery leaves the station in a running mode (R121). -/
theorem runs_deliverStages (e : RxEntry) {s : State} (runs : s.runs = true) : (deliverStages e s).runs = true := by
  have later : (deliverStages e s).mbu.mode = (mbuStage e s).mbu.mode := by simp [deliverStages]
  unfold State.runs at runs ⊢
  rw [later]
  unfold mbuStage
  split
  · simpa using runs
  · have active : Mode.active.runs = true := rfl
    unfold ownHeard
    (repeat' split) <;> simp [runs, active]

/-! ## Horn and lamp test through the commands -/

/-- What O56 speaks of: the horn's condition and lamp test's. -/
abbrev HornAndLampHold (s : State) : Prop := HornHolds s ∧ LampTestHolds s.pnl

theorem hornHolds_of_quiet {s : State} (quiet : s.hrn.horn = .quiet) : HornHolds s := by
  refine ⟨?_, fun _ => quiet⟩
  rw [quiet]; simp

theorem hornHolds_of_runs {s : State} (tone : ToneHolds s) (runs : s.runs = true) : HornHolds s :=
  ⟨tone, fun stopped => absurd (stopped.symm.trans runs) Bool.false_ne_true⟩

theorem horn_enterHalted (cause : HaltCause) (s : State) : (enterHalted cause s).hrn.horn = .quiet := by simp [enterHalted, haltHorn]

/-- Operations that move neither horn, copy, configuration nor lamp test, and stop no running station. -/
theorem HornAndLampHold.of_same {s t : State} (hs : HornAndLampHold s) (hrn : t.hrn = s.hrn := by simp) (config : t.config = s.config := by simp)
    (gat : t.gat = s.gat := by simp) (runs : s.mbu.mode.runs = true → t.mbu.mode.runs = true := by simp)
    (panel : t.pnl.lampTest = s.pnl.lampTest ∧ t.pnl.test = s.pnl.test := by simp) : HornAndLampHold t := by
  obtain ⟨⟨tone, quiet⟩, lamp⟩ := hs
  obtain ⟨lampTest, test⟩ := panel
  refine ⟨⟨ToneHolds.of_same tone hrn config gat, fun stopped => ?_⟩, ?_⟩
  · rw [hrn]
    exact quiet (by by_contra running; rw [runs (by simpa using running)] at stopped; cases stopped)
  · unfold LampTestHolds; rw [lampTest, test]; exact lamp

theorem hornAndLampHold_deliver (cls : FrameClass) {s t : State} (hs : HornAndLampHold s) (h : deliver cls s = .next t) : HornAndLampHold t := by
  cases hd : s.deliverable cls with
  | none => rw [deliver_none hd] at h; cases h; exact hs
  | some e =>
    rw [deliver_some hd] at h
    cases h
    have runs := runs_of_deliverable hd
    obtain ⟨⟨tone, -⟩, lamp⟩ := hs
    have staged : HornAndLampHold (deliverStages e s) :=
      ⟨hornHolds_of_runs (toneHolds_deliverStages e tone) (runs_deliverStages e runs), by simpa [LampTestHolds] using lamp⟩
    exact staged.of_same

theorem hornAndLampHold_debounce {s : State} (hs : HornAndLampHold s) (b : Button) (runs : s.runs = true) : HornAndLampHold (debounce b s) := by
  obtain ⟨⟨tone, -⟩, lamp⟩ := hs
  have pressed {u : State} (hu : ToneHolds u) : ToneHolds (press b u) := by
    cases b with
    | ack => exact hu.of_same (by unfold press; dsimp only; split <;> simp)
    | reset => exact hu.of_same (by unfold press; dsimp only; split <;> simp)
    | silence => exact toneHolds_silenceClaim hu
    | test => exact toneHolds_chimeClaim hu
  have heard : ToneHolds (debounce b s) := by
    cases was : (s.pnl.button b).pressed with
    | true => rw [debounce_of_pressed was, release_changes]; exact tone
    | false => rw [debounce_of_released was]; exact pressed tone
  exact ⟨hornHolds_of_runs heard (by simpa [State.runs] using runs), lampTestHolds_debounce lamp b⟩

theorem hornAndLampHold_receiveFrame (bytes : List Byte) {s : State} (hs : HornAndLampHold s) : HornAndLampHold (receiveFrame bytes s) := by
  have clashes : HornAndLampHold (clashFound (s.setLine .seeking)) := by
    have lamp := hs.2
    unfold clashFound
    dsimp only
    split
    · exact ⟨hornHolds_of_quiet (horn_enterHalted ..), by simpa [LampTestHolds] using lamp⟩
    · exact hs.of_same
  unfold receiveFrame
  dsimp only
  (repeat' split)
  exacts [hs.of_same, clashes, hs.of_same, hs.of_same]

/-- In LOADING the horn is QUIET, so the configuration may change its zone mask (R153, R189). -/
theorem hornAndLampHold_finishRead (image : List Byte) {s : State} (hs : HornAndLampHold s) (reading : s.reading = true) :
    HornAndLampHold (finishRead image s) := by
  simp only [State.reading, State.loadingRuns, Bool.and_eq_true, beq_iff_eq] at reading
  obtain ⟨⟨-, loading⟩, -⟩ := reading
  have ⟨⟨_, quiet⟩, lamp⟩ := hs
  have silent : s.hrn.horn = .quiet := quiet (by rw [loading]; rfl)
  unfold finishRead
  split
  · exact ⟨hornHolds_of_quiet (by simpa using silent), by simpa [LampTestHolds] using lamp⟩
  · split
    · exact hs.of_same
    · exact ⟨hornHolds_of_quiet (horn_enterHalted ..), by simpa [LampTestHolds] using lamp⟩

theorem hornAndLampHold_declareAbsent (st : Addr) {s : State} (hs : HornAndLampHold s) (runs : s.runs = true) :
    HornAndLampHold (declareAbsent st s) := by
  obtain ⟨⟨tone, -⟩, lamp⟩ := hs
  have lost : ToneHolds (declareAbsent st s) := toneHolds_claimStatus _ _ _ (ToneHolds.of_same tone)
  exact ⟨hornHolds_of_runs lost (by simpa [State.runs] using runs), by simpa [LampTestHolds] using lamp⟩

theorem runs_chargeAttempt (c : Candidate) {s : State} (runs : s.mbu.mode.runs = true) : (chargeAttempt c s).mbu.mode.runs = true := by
  have discarded (u : State) (running : u.mbu.mode.runs = true) : (afterDiscard u).mbu.mode.runs = true := by
    unfold afterDiscard; dsimp only; split
    · simp [Mode.runs]
    · simpa using running
  unfold chargeAttempt
  cases c with
  | markSlot =>
    dsimp only
    (repeat' split)
    exacts [runs, runs, discarded _ (by simpa using runs)]
  | heartbeatSlot =>
    dsimp only
    (repeat' split)
    exacts [runs, runs, runs, discarded _ runs]
  | queueHead =>
    dsimp only
    (repeat' split)
    exacts [runs, runs, discarded _ (by simpa using runs)]

theorem runs_completeFrame (c : Candidate) (f : Frame) {s : State} (runs : s.mbu.mode.runs = true) :
    (completeFrame c f s).mbu.mode.runs = true := by
  unfold completeFrame
  dsimp only
  split
  · rcases exitIsolated_mode _ with mode | mode <;> (rw [mode]; rfl)
  · simpa using runs

theorem hornAndLampHold_exec {c : Instr} {s t : State} (hs : HornAndLampHold s) (h : exec c s = .next t) : HornAndLampHold t := by
  have acts {cond : Bool} {f : State → State} (h : arise cond f s = .next t) (holds : cond = true → HornAndLampHold (f s)) : HornAndLampHold t :=
    arise_keeps hs holds h
  cases c with
  | coldStart cause =>
    cases cause with
    | resetLow => rw [exec_coldStart_resetLow] at h; cases h; exact ⟨hornHolds_of_quiet rfl, rfl⟩
    | powerOn straps => rw [exec_coldStart_powerOn] at h; cases h; exact ⟨hornHolds_of_quiet rfl, rfl⟩
  | readStart => rw [exec_readStart] at h; exact acts h fun _ => hs.of_same
  | readComplete image =>
    rw [exec_readComplete] at h
    split at h
    · exact acts h fun reading => hornAndLampHold_finishRead image hs reading
    · cases h
  | tick points buttons =>
    rw [exec_tick] at h
    obtain ⟨⟨tone, quiet⟩, lamp⟩ := hs
    exact acts h fun _ => ⟨⟨ToneHolds.of_same tone, by simpa using quiet⟩, lampTestHolds_takeTick lamp points buttons⟩
  | countdownExpiry p => rw [exec_countdownExpiry] at h; exact acts h fun _ => hs.of_same
  | drainTimerExpiry => rw [exec_drainTimerExpiry] at h; exact acts h fun _ => hs.of_same
  | debounce b =>
    rw [exec_debounce] at h
    refine acts h fun next => ?_
    simp only [State.debouncesNext, Bool.and_eq_true] at next
    have debounced := hornAndLampHold_debounce hs b next.1.1
    exact debounced.of_same
  | beginFrame =>
    rw [exec_beginFrame] at h
    unfold execBeginFrame at h
    split at h <;> cases h
    exacts [hs.of_same, hs]
  | loseContention =>
    rw [exec_loseContention] at h
    unfold execLoseContention at h
    split at h <;> cases h
    exacts [hs.of_same, hs]
  | winContention =>
    rw [exec_winContention] at h
    unfold execWinContention at h
    split at h <;> cases h
    exacts [hs.of_same, hs]
  | transmitError =>
    rw [exec_transmitError] at h
    unfold execTransmitError at h
    split at h <;> cases h
    · exact hs.of_same (runs := fun runs => by simpa [failAttempt] using runs_chargeAttempt _ (s := s.setLine .receiving) runs)
        (panel := by simp [failAttempt])
    · exact hs
  | idleWaitExpiry =>
    rw [exec_idleWaitExpiry] at h
    unfold execIdleWaitExpiry at h
    split at h <;> cases h
    exacts [hs.of_same (runs := fun runs => by simpa using runs_chargeAttempt _ runs), hs]
  | frameCompletion =>
    rw [exec_frameCompletion] at h
    unfold execFrameCompletion at h
    split at h <;> cases h
    · exact hs.of_same (runs := fun runs => by simpa using runs_completeFrame _ _ runs)
    all_goals exact hs
  | frameReceived bytes =>
    rw [exec_frameReceived] at h
    split at h
    · exact acts h fun _ => (hornAndLampHold_receiveFrame bytes hs).of_same
    · cases h
  | frameAbandoned reason =>
    rw [exec_frameAbandoned] at h
    refine acts h fun _ => ?_
    rcases abandonFrame_spec reason s with e | e <;> rw [e]
    · rw [(completeGap_spec s).1]; exact hs
    · exact hs.of_same
  | addressClashHalt =>
    rw [exec_addressClashHalt] at h
    exact acts h fun _ => ⟨hornHolds_of_quiet (horn_enterHalted ..), by simpa [LampTestHolds] using hs.2⟩
  | loopbackPassage => rw [exec_loopbackPassage] at h; exact acts h fun _ => hs.of_same
  | deliverTimeMark => exact hornAndLampHold_deliver _ hs h
  | deliverState => exact hornAndLampHold_deliver _ hs h
  | deliverAck => exact hornAndLampHold_deliver _ hs h
  | deliverReset => exact hornAndLampHold_deliver _ hs h
  | deliverSnapshot => exact hornAndLampHold_deliver _ hs h
  | deliverReplay => exact hornAndLampHold_deliver _ hs h
  | deliverResyncRequest => exact hornAndLampHold_deliver _ hs h
  | deliverJoin => exact hornAndLampHold_deliver _ hs h
  | deliverHeartbeat => exact hornAndLampHold_deliver _ hs h
  | heartbeatTimerExpiry => rw [exec_heartbeatTimerExpiry] at h; exact acts h fun _ => hs.of_same
  | silenceTimerExpiry st =>
    rw [exec_silenceTimerExpiry] at h
    refine acts h fun expires => ?_
    simp only [State.silenceExpires, Bool.and_eq_true] at expires
    exact hornAndLampHold_declareAbsent st hs expires.1.1
  | resyncTimerExpiry st =>
    rw [exec_resyncTimerExpiry] at h
    refine acts h fun expires => ?_
    simp only [State.resyncExpires, Bool.and_eq_true] at expires
    unfold resyncExpired
    split
    · exact hs.of_same
    · exact (hornAndLampHold_declareAbsent st hs expires.1.1).of_same
  | replayTimerExpiry st => rw [exec_replayTimerExpiry] at h; exact acts h fun _ => hs.of_same
  | joinWindowExpiry => rw [exec_joinWindowExpiry] at h; exact acts h fun _ => hs.of_same
  | probeTimerExpiry => rw [exec_probeTimerExpiry] at h; exact acts h fun _ => hs.of_same
  | markTimerExpiry => rw [exec_markTimerExpiry] at h; exact acts h fun _ => hs.of_same
  | stageTimerExpiry => rw [exec_stageTimerExpiry] at h; exact acts h fun _ => hs
  | chimeTimerExpiry =>
    rw [exec_chimeTimerExpiry] at h
    refine acts h fun expires => ?_
    simp only [State.chimeExpires, Bool.and_eq_true, beq_iff_eq] at expires
    obtain ⟨⟨runs, chiming⟩, -⟩ := expires
    obtain ⟨⟨tone, -⟩, lamp⟩ := hs
    exact ⟨hornHolds_of_runs (toneHolds_endChime tone chiming) runs, lamp⟩
  | logrdyChange high => rw [exec_logrdyChange] at h; cases h; exact hs.of_same
  | recordDeparture => rw [exec_recordDeparture] at h; exact acts h fun _ => hs.of_same
  | resetRelease straps => rw [exec_resetRelease] at h; exact acts h fun _ => hs
  | millisecond => rw [exec_millisecond] at h; exact acts h fun _ => hs
  | idleGap =>
    rw [exec_idleGap] at h
    refine acts h fun _ => ?_
    rw [(completeGap_spec s).1]
    exact hs

/-- Settles O56: a claim or an application that may move the alert set is reviewed, the horn's own commands keep to it, a halt
makes the horn QUIET, and lamp test moves with TEST alone. -/
theorem stepsKeepHornAndLampTest : Obligations.StepsKeepHornAndLampTest := by
  intro s s' horn lamp h
  exact step_keeps (P := HornAndLampHold) (fun _ _ hs => hs) (fun _ _ _ hs he => hornAndLampHold_exec hs he) ⟨horn, lamp⟩ h

end Sys2Proof.Machine
end

section
/-! The horn's own timers and its output: the envelope of a tone, the end of a chime, and the tone driven in each horn state
(R153, R155, R158, R162). -/
namespace Sys2Proof.Machine

/-! ## The envelope and the end of a chime (R158, R162) -/

/-- A running timer has expired once the local count has advanced by its duration, modulo 2^32 (R126). -/
theorem expired_of_running {s : State} {t : Timer} {start : Millis} {toward : Nat} (running : t = .running start toward)
    (reached : toward ≤ (s.tmb.localCount - start).toNat) : s.expired t = true := by
  rw [running]; exact decide_eq_true reached

theorem stageExpires_of_sounding {s : State} (runs : s.runs = true) (sounding : s.hrn.horn = .sounding) (expired : s.expired s.hrn.stage = true) :
    s.stageExpires = true := by
  unfold State.stageExpires; rw [runs, sounding, expired]; rfl

theorem chimeExpires_of_chiming {s : State} (runs : s.runs = true) (chiming : s.hrn.horn = .chiming) (expired : s.expired s.hrn.chime = true) :
    s.chimeExpires = true := by
  unfold State.chimeExpires; rw [runs, chiming, expired]; rfl

/-- At the floor and past it the tone fades no further (R162). -/
theorem stageAt_of_floor {s : State} {level : Nat} (floor : ¬ level < s.conf.floor) : s.stageAt level = .stopped := by
  unfold State.stageAt
  split
  · exact if_neg floor
  · rfl

/-- Without a stage interval the level stays (R153, R162). -/
theorem stageAt_of_no_interval {s : State} (interval : s.conf.stage.ms = none) (level : Nat) : s.stageAt level = .stopped := by
  unfold State.stageAt; rw [interval]

theorem stageAt_of_interval {s : State} {level ms : Nat} (interval : s.conf.stage.ms = some ms) (below : level < s.conf.floor) :
    s.stageAt level = s.timer ms := by
  unfold State.stageAt; rw [interval]; exact if_pos below

/-- The return state of a horn in CHIMING is QUIET or SILENCED, and the horn becomes it (R158). -/
theorem endChime_of_ret {s : State} {horn : HornState}
    (returns : (s.hrn.ret = .quiet ∧ horn = .quiet) ∨ (s.hrn.ret = .silenced ∧ horn = .silenced)) :
    endChime s = s.setHrn { s.hrn with horn := horn, ret := .none, chime := .stopped } := by
  unfold endChime
  rcases returns with ⟨ret, rfl⟩ | ⟨ret, rfl⟩ <;> rw [ret]

/-- Settles O42: the stage timer by the floor and the stage interval, the chime timer by the return state. -/
theorem hornTimersStepTheEnvelope : Obligations.HornTimersStepTheEnvelope := by
  intro s start toward runs reached
  refine ⟨fun sounding running => ?_, fun ret horn chiming running returnsTo returns => ?_⟩
  · have expires := stageExpires_of_sounding runs sounding (expired_of_running running reached)
    rw [exec_stageTimerExpiry, arise_true expires]
    unfold fadeHorn
    by_cases below : s.hrn.level + 1 < s.conf.floor
    · rw [if_pos below]
      cases interval : s.conf.stage with
      | none => rw [stageAt_of_no_interval (by rw [interval]; rfl)]; rfl
      | s1 => rw [stageAt_of_interval (ms := 1000) (by rw [interval]; rfl) below]; rfl
      | s2 => rw [stageAt_of_interval (ms := 2000) (by rw [interval]; rfl) below]; rfl
      | s4 => rw [stageAt_of_interval (ms := 4000) (by rw [interval]; rfl) below]; rfl
    · rw [if_neg below, stageAt_of_floor below]; rfl
  · subst returnsTo
    have expires := chimeExpires_of_chiming runs chiming (expired_of_running running reached)
    rw [exec_chimeTimerExpiry, arise_true expires, endChime_of_ret returns]
    rfl

/-! ## The tone on HORN (R153, R155) -/

theorem hornTone_of_quiet {s : State} (horn : s.hrn.horn = .quiet) : s.hornTone = none := by unfold State.hornTone; rw [horn]

theorem hornTone_of_silenced {s : State} (horn : s.hrn.horn = .silenced) : s.hornTone = none := by unfold State.hornTone; rw [horn]

theorem hornTone_of_sounding {s : State} (horn : s.hrn.horn = .sounding) : s.hornTone = some (s.hrn.tone, 9 - s.hrn.level) := by
  unfold State.hornTone; rw [horn]; rfl

/-- A chime is driven at the duty of level 1, at whatever level the last tone ended (R155). -/
theorem hornTone_of_chiming {s : State} (horn : s.hrn.horn = .chiming) : s.hornTone = some (s.conf.chimeTone, 8) := by
  unfold State.hornTone; rw [horn]; rfl

/-- Settles O47: `hornTone` in each horn state, and the eight frequencies evaluated. -/
theorem hornOutputFollowsItsState : Obligations.HornOutputFollowsItsState := by
  refine ⟨fun s => ?_, by decide⟩
  cases horn : s.hrn.horn with
  | quiet => exact hornTone_of_quiet horn
  | silenced => exact hornTone_of_silenced horn
  | sounding => exact hornTone_of_sounding horn
  | chiming => exact hornTone_of_chiming horn

end Sys2Proof.Machine
end

section
/-! The journal and the logger line: the head record begins and departs, the fifteen bytes of a record, the line's rate and
its levels (R172 to R178). -/
namespace Sys2Proof.Machine

/-! ## The beginning and the departure of a record (R172, R175, R176) -/

theorem loggerRuns_iff (m : Mode) : m.loggerRuns = true ↔ m ≠ .loading := by cases m <;> simp [Mode.loggerRuns]

theorem beginRecord_of_empty {s : State} (empty : s.jnl.journal = []) : beginRecord s = s := by
  unfold beginRecord State.recordMayBegin; rw [empty]; simp

/-- What is in progress after the head had its chance to begin (R175). -/
theorem beginRecord_of_head {s : State} {r : JournalRecord} {rest : List JournalRecord} (head : s.jnl.journal = r :: rest) :
    beginRecord s = s.setJnl { s.jnl with inProgress := if s.mbu.mode ≠ .loading ∧ s.jnl.inProgress = none ∧ s.pins.logrdyHigh = false
                                                        then some (recordBytes r) else s.jnl.inProgress } := by
  have may : s.recordMayBegin = true ↔ s.mbu.mode ≠ .loading ∧ s.jnl.inProgress = none ∧ s.pins.logrdyHigh = false := by
    unfold State.recordMayBegin
    simp [head, loggerRuns_iff, and_assoc]
  unfold beginRecord
  by_cases begins : s.mbu.mode ≠ .loading ∧ s.jnl.inProgress = none ∧ s.pins.logrdyHigh = false
  · rw [if_pos (may.mpr begins), if_pos begins, head]
  · rw [if_neg (mt may.mp begins), if_neg begins]; rfl

/-- The head leaves and no record is dropped any more; a GAP record counts those that were (R172). -/
theorem depart_of_head {j : Jnl} {head : JournalRecord} {rest : List JournalRecord} (stands : j.journal = head :: rest) (now : Millis) :
    j.depart now = { journal := if j.dropped = 0 then rest else rest ++ [.gap j.dropped now], dropped := 0, inProgress := none } := by
  unfold Jnl.depart
  rw [stands]
  by_cases complete : j.dropped = 0 <;> simp [complete]

/-! ## The fifteen bytes of a record (section 9.4, R173) -/

/-- A record is sent as the marker, nine bytes of its kind, its stamp and a check, which sum to 0 (R173). -/
def SentAs (r : JournalRecord) (fields : List Byte) (stamp : Millis) : Prop :=
  (recordBytes r).foldl (· + ·) 0 = 0
    ∧ ∃ check : Byte, recordBytes r = (0xA5 : Byte) :: fields ++ [stamp.extractLsb' 24 8, stamp.extractLsb' 16 8, stamp.extractLsb' 8 8, stamp.extractLsb' 0 8] ++ [check]

/-- The check makes the sum of a record's bytes 0 modulo 256 (R173). -/
theorem recordBytes_sum (r : JournalRecord) : (recordBytes r).foldl (· + ·) 0 = 0 := by
  simp only [recordBytes, recordCheck, List.foldl_append, List.foldl_cons, List.foldl_nil]
  exact BitVec.add_right_neg _

theorem sentAs_of_fields {r : JournalRecord} {fields : List Byte} {stamp : Millis} (shape : recordFields r = fields ++ bytes32 stamp) :
    SentAs r fields stamp := by
  refine ⟨recordBytes_sum r, recordCheck (0xA5 :: recordFields r), ?_⟩
  unfold recordBytes
  dsimp only
  rw [shape]
  rfl

/-- A count of 16 bits is sent as its quotient and its remainder by 256. -/
theorem bytes16_ofNat {n : Nat} (h : n < 65536) : bytes16 (BitVec.ofNat 16 n) = [BitVec.ofNat 8 (n / 256), BitVec.ofNat 8 (n % 256)] := by
  have high : (BitVec.ofNat 16 n).extractLsb' 8 8 = BitVec.ofNat 8 (n / 256) := by
    apply BitVec.eq_of_toNat_eq
    simp only [BitVec.extractLsb'_toNat, BitVec.toNat_ofNat, Nat.shiftRight_eq_div_pow]
    omega
  have low : (BitVec.ofNat 16 n).extractLsb' 0 8 = BitVec.ofNat 8 (n % 256) := by
    apply BitVec.eq_of_toNat_eq
    simp only [BitVec.extractLsb'_toNat, BitVec.toNat_ofNat, Nat.shiftRight_eq_div_pow]
    omega
  unfold bytes16
  rw [high, low]

theorem bytes16_count (n : Count) : bytes16 (BitVec.ofNat 16 n.val) = [0, BitVec.ofNat 8 n.val] := by
  have small := n.isLt
  rw [bytes16_ofNat (by omega), Nat.div_eq_of_lt (by omega), Nat.mod_eq_of_lt (by omega)]
  rfl

/-- The flags byte of a TRANSITION record, from the weights of its four parts. -/
theorem transitionFlags_eq (c : Condition) (firstOut : Bool) (status : CopyStatus) (cause : LastCause) :
    transitionFlags c firstOut status cause
      = BitVec.ofNat 8 ((if c = .active then 128 else 0) + (if firstOut then 64 else 0) + status.code * 16 + cause.code) := by
  cases c <;> rfl

theorem sentAs_transition (a : Addr) (p : Point) (st : SeqState) (c : Condition) (firstOut : Bool) (status : CopyStatus) (cause : LastCause)
    (z : Zone) (pr : Priority) (n : Count) (stamp : Millis) :
    SentAs (.transition a p st c firstOut status cause z pr n stamp)
      [1, BitVec.ofNat 8 a.val, BitVec.ofNat 8 p.val, BitVec.ofNat 8 st.code,
        BitVec.ofNat 8 ((if c = .active then 128 else 0) + (if firstOut then 64 else 0) + status.code * 16 + cause.code),
        BitVec.ofNat 8 z.val, BitVec.ofNat 8 pr.val, 0, BitVec.ofNat 8 n.val] stamp := by
  apply sentAs_of_fields
  rw [recordFields, bytes16_count, transitionFlags_eq]
  rfl

theorem sentAs_gap {n : Nat} (limit : n ≤ 65535) (stamp : Millis) :
    SentAs (.gap n stamp) [6, 0xFF, 0xFF, 0, 0, 0, 0, BitVec.ofNat 8 (n / 256), BitVec.ofNat 8 (n % 256)] stamp := by
  apply sentAs_of_fields
  rw [recordFields, bytes16_ofNat (by omega)]
  rfl

/-! ## The logger line (R174, R177, R178) -/

theorem loggerBaud_of_configured {s : State} (configured : s.runs = true ∨ s.mbu.mode = .halted .addressClash) :
    s.loggerBaud = some s.conf.loggerRate.baud := by
  rcases configured with runs | clash
  · unfold State.runs at runs
    unfold State.loggerBaud
    cases mode : s.mbu.mode with
    | joining => rfl
    | active => rfl
    | isolated => rfl
    | loading => rw [mode] at runs; cases runs
    | halted reason => rw [mode] at runs; cases runs
  · unfold State.loggerBaud; rw [clash]

/-- Settles O43: the first part by whether a record stands at the head, the bytes by kind, the line by mode. -/
theorem recordsLeaveInOrder : Obligations.RecordsLeaveInOrder := by
  refine ⟨fun s => ⟨fun high => ?_, fun bytes head rest inProgress journal => ?_, fun idle => ?_⟩, ⟨?_, ?_, ?_, ?_, ?_⟩, fun s => ⟨?_, ?_, ?_, ?_, ?_⟩⟩
  · rw [exec_logrdyChange]
    cases journal : s.jnl.journal with
    | nil => exact congrArg _ (beginRecord_of_empty journal)
    | cons r rest => exact congrArg _ (beginRecord_of_head journal)
  · rw [exec_recordDeparture, arise_true (by rw [inProgress]; rfl)]
    unfold departRecord
    rw [depart_of_head journal]
    dsimp only
    generalize (if s.jnl.dropped = 0 then rest else rest ++ [.gap s.jnl.dropped s.tmb.groupTime]) = left
    cases left with
    | nil => rw [beginRecord_of_empty rfl]; rfl
    | cons r others => rw [beginRecord_of_head (r := r) (rest := others) rfl]; simp [State.setJnl]
  · rw [exec_recordDeparture, arise_false (by rw [idle]; rfl)]
  · rintro a p _ c firstOut _ _ z pr n stamp sc hsc cc hcc lc hlc rfl rfl rfl
    have stateCode : sc.2 = sc.1.code := by revert sc; decide
    have copyCode : cc.2 = cc.1.code * 16 := by revert cc; decide
    have causeCode : lc.2 = lc.1.code := by revert lc; decide
    rw [stateCode, copyCode, causeCode]
    exact sentAs_transition ..
  · exact fun a stamp => ⟨sentAs_of_fields rfl, sentAs_of_fields rfl, sentAs_of_fields rfl⟩
  · intro a stamp mc hmc cc hcc
    have modeCode : BitVec.ofNat 8 mc.2 = mc.1.code := by revert mc; decide
    have causeCode : BitVec.ofNat 8 cc.2 = cc.1.code := by revert cc; decide
    dsimp only
    rw [modeCode, causeCode]
    exact sentAs_of_fields rfl
  · exact fun n limit stamp => sentAs_gap limit stamp
  · exact sentAs_of_fields rfl
  · intro loading; unfold State.loggerBaud; rw [loading]
  · intro fault; unfold State.loggerBaud; rw [fault]
  · intro configured
    rw [loggerBaud_of_configured configured]
    cases s.conf.loggerRate <;> rfl
  · intro bytes inProgress bit
    unfold State.logtxHigh State.loggerLevels
    rw [inProgress]
    rfl
  · intro idle bit
    unfold State.logtxHigh State.loggerLevels
    rw [idle]
    rfl

end Sys2Proof.Machine
end

section
/-! Every well-formed command answers a next state with the same queue of commands, an ill-formed one is refused: O2 (R69,
R184; log entries 1, 2, 12, 24). -/
namespace Sys2Proof.Machine

/-- An outcome is a next state that holds the queue of commands of a state. -/
abbrev Answers (s : State) (o : Host.Outcome State Fault Refusal) : Prop := ∃ t, o = .next t ∧ t.pending = s.pending

/-- An event whose effect leaves the queue of commands answers, whether it arises or not. -/
theorem answers_arise {cond : Bool} {f : State → State} {s : State} (effect : (f s).pending = s.pending) : Answers s (arise cond f s) := by
  obtain ⟨t, next, arisen | idle⟩ := arise_next cond f s
  · exact ⟨t, next, arisen ▸ effect⟩
  · exact ⟨t, next, idle ▸ rfl⟩

/-- A delivery answers, whether a head frame of the class stands or not. -/
theorem answers_deliver (cls : FrameClass) (s : State) : Answers s (deliver cls s) := by
  cases deliverable : s.deliverable cls with
  | none => exact ⟨s, deliver_none deliverable, rfl⟩
  | some e => exact ⟨_, deliver_some deliverable, by simp⟩

theorem pending_finishRead (image : List Byte) (s : State) : (finishRead image s).pending = s.pending := by
  unfold finishRead
  (repeat' split) <;> simp

theorem pending_abandonFrame (reason : AbandonReason) (s : State) : (abandonFrame reason s).pending = s.pending := by
  rcases abandonFrame_spec reason s with e | e <;> simp [e, completeGap]

/-- The two cold starts and the release leave the queue of commands to the sender (R180). -/
theorem answers_coldStart (cause : ColdStartCause) (s : State) : Answers s (exec (.coldStart cause) s) := by
  cases cause with
  | resetLow => exact ⟨_, exec_coldStart_resetLow s, rfl⟩
  | powerOn straps => exact ⟨_, exec_coldStart_powerOn straps s, rfl⟩

theorem wellFormed_readComplete (image : List Byte) : (Instr.readComplete image).wellFormed = imageComplete image := rfl

theorem wellFormed_frameReceived (bytes : List Byte) : (Instr.frameReceived bytes).wellFormed = frameComplete bytes := rfl

/-- Every well-formed command answers. -/
theorem answers_exec {c : Instr} (wellFormed : c.wellFormed = true) (s : State) : Answers s (exec c s) := by
  cases c with
  | coldStart cause => exact answers_coldStart cause s
  | readStart => rw [exec_readStart]; exact answers_arise rfl
  | readComplete image =>
    rw [exec_readComplete, ← wellFormed_readComplete, if_pos wellFormed]
    exact answers_arise (pending_finishRead image s)
  | tick points buttons => rw [exec_tick]; exact answers_arise (by simp)
  | countdownExpiry p => rw [exec_countdownExpiry]; exact answers_arise (by simp)
  | drainTimerExpiry => rw [exec_drainTimerExpiry]; exact answers_arise (by simp)
  | debounce b => rw [exec_debounce]; exact answers_arise (by simp)
  | beginFrame => rw [exec_beginFrame]; unfold execBeginFrame; split <;> exact ⟨_, rfl, by simp⟩
  | loseContention => rw [exec_loseContention]; unfold execLoseContention; split <;> exact ⟨_, rfl, by simp⟩
  | winContention => rw [exec_winContention]; unfold execWinContention; split <;> exact ⟨_, rfl, by simp⟩
  | transmitError => rw [exec_transmitError]; unfold execTransmitError; split <;> exact ⟨_, rfl, by simp⟩
  | idleWaitExpiry => rw [exec_idleWaitExpiry]; unfold execIdleWaitExpiry; split <;> exact ⟨_, rfl, by simp⟩
  | frameCompletion => rw [exec_frameCompletion]; unfold execFrameCompletion; split <;> exact ⟨_, rfl, by simp⟩
  | frameReceived bytes =>
    rw [exec_frameReceived, ← wellFormed_frameReceived, if_pos wellFormed]
    exact answers_arise (by simp)
  | frameAbandoned reason => rw [exec_frameAbandoned]; exact answers_arise (pending_abandonFrame reason s)
  | addressClashHalt => rw [exec_addressClashHalt]; exact answers_arise (by simp)
  | loopbackPassage => rw [exec_loopbackPassage]; exact answers_arise (by simp)
  | deliverTimeMark => exact answers_deliver .timeMark s
  | deliverState => exact answers_deliver .state s
  | deliverAck => exact answers_deliver .ack s
  | deliverReset => exact answers_deliver .reset s
  | deliverSnapshot => exact answers_deliver .snapshot s
  | deliverReplay => exact answers_deliver .replay s
  | deliverResyncRequest => exact answers_deliver .resyncRequest s
  | deliverJoin => exact answers_deliver .join s
  | deliverHeartbeat => exact answers_deliver .heartbeat s
  | heartbeatTimerExpiry => rw [exec_heartbeatTimerExpiry]; exact answers_arise (by simp)
  | silenceTimerExpiry st => rw [exec_silenceTimerExpiry]; exact answers_arise (by simp)
  | resyncTimerExpiry st => rw [exec_resyncTimerExpiry]; exact answers_arise (by simp)
  | replayTimerExpiry st => rw [exec_replayTimerExpiry]; exact answers_arise (by simp)
  | joinWindowExpiry => rw [exec_joinWindowExpiry]; exact answers_arise (by simp)
  | probeTimerExpiry => rw [exec_probeTimerExpiry]; exact answers_arise (by simp)
  | markTimerExpiry => rw [exec_markTimerExpiry]; exact answers_arise (by simp)
  | stageTimerExpiry => rw [exec_stageTimerExpiry]; exact answers_arise (by simp)
  | chimeTimerExpiry => rw [exec_chimeTimerExpiry]; exact answers_arise (by simp)
  | logrdyChange high => exact ⟨_, exec_logrdyChange high s, by simp⟩
  | recordDeparture => rw [exec_recordDeparture]; exact answers_arise (by simp)
  | resetRelease straps => rw [exec_resetRelease]; exact answers_arise rfl
  | millisecond => rw [exec_millisecond]; exact answers_arise rfl
  | idleGap => rw [exec_idleGap]; exact answers_arise (by simp [completeGap])

/-- Only a read and a received frame bring bytes, and what is no whole image or frame is refused (R69, R184). -/
theorem exec_of_illFormed {c : Instr} (illFormed : c.wellFormed = false) (s : State) : exec c s = .refused .illFormed := by
  cases c with
  | readComplete image => rw [exec_readComplete, ← wellFormed_readComplete, illFormed]; rfl
  | frameReceived bytes => rw [exec_frameReceived, ← wellFormed_frameReceived, illFormed]; rfl
  | _ => cases illFormed

/-- Settles O2: what answers, and what is refused. -/
theorem wellFormedCommandsComplete : Obligations.WellFormedCommandsComplete :=
  fun _ s => ⟨fun wellFormed => answers_exec wellFormed s, fun illFormed => exec_of_illFormed illFormed s⟩

end Sys2Proof.Machine
end

section
/-! The start of a read, and the levels of the serial memory port: O5 (R181, R182, R184). -/
namespace Sys2Proof.Machine

/-- A read may start in LOADING with the loader WAITING, once its start time is reached (R182). -/
theorem readMayStart_of_waiting {s : State} (high : s.pins.resetLow = false) (loading : s.mbu.mode = .loading) (waiting : s.loader.load = .waiting) :
    s.readMayStart = decide (readStartTime s.loader.readNumber ≤ s.tmb.localCount.toNat) := by
  simp [State.readMayStart, State.loadingRuns, high, loading, waiting]

/-- The start times of the three reads (R182). -/
theorem readStartTime_of_mem {k start : Nat} (listed : (k, start) ∈ [(1, 50), (2, 450), (3, 850)]) : readStartTime k = start := by
  simp only [List.mem_cons, Prod.mk.injEq, List.not_mem_nil, or_false] at listed
  rcases listed with ⟨rfl, rfl⟩ | ⟨rfl, rfl⟩ | ⟨rfl, rfl⟩ <;> rfl

/-- Of the 24 command bits only the two low ones of 03H are ones (R184). -/
theorem readCommandLevels_getD {period : Nat} (h : period < 24) : readCommandLevels.getD period false = decide (period = 6 ∨ period = 7) := by
  revert period; decide

/-- SDO is low past the command bits (R184). -/
theorem readCommandLevels_getD_past {period : Nat} (h : 24 ≤ period) : readCommandLevels.getD period false = false :=
  List.getD_eq_default _ _ h

/-- Settles O5: the start is one comparison with the start time, and each level of the port is read off the load state. -/
theorem readsStartAtTheirTimes : Obligations.ReadsStartAtTheirTimes := by
  refine ⟨fun s k start listed high loading waiting number => ?_, fun s => ⟨fun reading => ?_, fun quiet => ?_⟩⟩
  · have may : s.readMayStart = decide (start ≤ s.tmb.localCount.toNat) := by
      rw [readMayStart_of_waiting high loading waiting, number, readStartTime_of_mem listed]
    rw [exec_readStart]
    exact ⟨fun reached => arise_true (by simpa [may] using reached) _ _, fun early => arise_false (by simpa [may] using early) _ _⟩
  · refine ⟨by simp [State.scsHigh, reading], fun period h => ?_, fun period h => ?_, fun period h => ?_, fun half h => ?_⟩
    · simp only [State.sdoHigh, reading, beq_self_eq_true, Bool.true_and, readCommandLevels_getD h]
    · simp only [State.sdoHigh, readCommandLevels_getD_past h, Bool.and_false]
    · have periods : readPeriods = 1112 := rfl
      simp only [State.sckHigh, reading, periods, beq_self_eq_true, Bool.true_and]
      constructor
      · simp
      · simp; omega
    · have past : ¬ half < 2 * readPeriods := Nat.not_lt.2 h
      simp only [State.sckHigh, past, decide_false, Bool.and_false, Bool.false_and]
  · have outside : (s.loader.load == .reading) = false := by simpa using quiet
    exact ⟨by simpa [State.scsHigh] using quiet, fun n => ⟨by simp [State.sdoHigh, outside], by simp [State.sckHigh, outside]⟩⟩

end Sys2Proof.Machine
end

section
/-! The configuration image: which images are accepted, and what the configuration of an accepted one holds: O6 (R185, R186,
section 10.3). -/
namespace Sys2Proof.Machine
set_option Elab.async false

/-! ## Single fields -/

/-- The code of a bus bit rate in image byte 2 (R65). -/
def BitRate.code : BitRate → Nat
  | .k62_5 => 0
  | .k125 => 1
  | .k250 => 2
  | .k500 => 3

/-- The code of a logger rate in image byte 6 (R174). -/
def LoggerRate.code : LoggerRate → Nat
  | .b9600 => 0
  | .b19200 => 1
  | .b38400 => 2
  | .b115200 => 3

/-- The code of a stage interval in image byte 14 (R153). -/
def StageInterval.code : StageInterval → Nat
  | .none => 0
  | .s1 => 1
  | .s2 => 2
  | .s4 => 3

/-- The code of a chime length in image byte 16 (R153). -/
def ChimeLength.code : ChimeLength → Nat
  | .ms125 => 0
  | .ms500 => 1

theorem BitRate.ofCode_eq_some (b : Byte) (r : BitRate) : BitRate.ofCode b = some r ↔ b.toNat = r.code := by
  cases r <;> (revert b; decide +kernel)

theorem LoggerRate.ofCode_eq_some (b : Byte) (r : LoggerRate) : LoggerRate.ofCode b = some r ↔ b.toNat = r.code := by
  cases r <;> (revert b; decide +kernel)

theorem StageInterval.ofCode_eq_some (b : Byte) (i : StageInterval) : StageInterval.ofCode b = some i ↔ b.toNat = i.code := by
  cases i <;> (revert b; decide +kernel)

theorem ChimeLength.ofCode_eq_some (b : Byte) (l : ChimeLength) : ChimeLength.ofCode b = some l ↔ b.toNat = l.code := by
  cases l <;> (revert b; decide +kernel)

theorem BitRate.isSome_ofCode (b : Byte) : (BitRate.ofCode b).isSome = true ↔ b.toNat ≤ 3 := by revert b; decide +kernel

theorem LoggerRate.isSome_ofCode (b : Byte) : (LoggerRate.ofCode b).isSome = true ↔ b.toNat ≤ 3 := by revert b; decide +kernel

theorem StageInterval.isSome_ofCode (b : Byte) : (StageInterval.ofCode b).isSome = true ↔ b.toNat ≤ 3 := by revert b; decide +kernel

theorem ChimeLength.isSome_ofCode (b : Byte) : (ChimeLength.ofCode b).isSome = true ↔ b.toNat ≤ 1 := by revert b; decide +kernel

theorem within_eq_some {lo hi n : Nat} {b : Byte} (h : within lo hi b = some n) : n = b.toNat := by
  unfold within at h
  split at h <;> cases h
  rfl

theorem isSome_within (lo hi : Nat) (b : Byte) : (within lo hi b).isSome = true ↔ lo ≤ b.toNat ∧ b.toNat ≤ hi := by
  unfold within
  split <;> simp_all

theorem toneOf_eq_some {b : Byte} {tone : Fin 8} (h : toneOf b = some tone) : tone.val = b.toNat := by
  unfold toneOf at h
  split at h <;> cases h
  rfl

theorem isSome_toneOf (b : Byte) : (toneOf b).isSome = true ↔ b.toNat ≤ 7 := by
  unfold toneOf
  split <;> simp <;> omega

theorem thresholdOf_eq_some {b : Byte} {threshold : Count} (h : thresholdOf b = some threshold) : threshold.val = b.toNat := by
  unfold thresholdOf at h
  split at h <;> cases h
  rfl

theorem isSome_thresholdOf (b : Byte) : (thresholdOf b).isSome = true ↔ b.toNat ≤ 15 ∧ b ≠ 1 := by revert b; decide +kernel

/-! ## Point blocks and lamp entries -/

/-- The zero bits of bytes 0 and 1 of a point block, and the bit and field that its priority rule looks at (R186). -/
theorem mask_low_six (b : Byte) : b.extractLsb' 0 6 = 0 ↔ b &&& 0x3F = 0 := by revert b; decide +kernel

theorem mask_zero_bits (b : Byte) : (b.getLsbD 4 = false ∧ (bitsOneZero b).val = 0) ↔ b &&& 0x13 = 0 := by revert b; decide +kernel

theorem mask_in_use (b : Byte) : b.getLsbD 7 = false ↔ b &&& 0x80 = 0 := by revert b; decide +kernel

theorem mask_priority (b : Byte) : 0 < (bitsThreeTwo b).val ↔ b &&& 0x0C ≠ 0 := by revert b; decide +kernel

theorem topThree_val (b : Byte) : (topThree b).val = b.toNat / 32 := by revert b; decide +kernel

theorem bitsThreeTwo_val (b : Byte) : (bitsThreeTwo b).val = b.toNat / 4 % 4 := by revert b; decide +kernel

theorem nibbles_val (b : Byte) : b.toNat = 16 * (highNibble b).val + (lowNibble b).val := by revert b; decide +kernel

/-- The tests of R186 on the bytes of a point block. -/
def PointBlockValid (b0 b1 b4 : Byte) : Prop :=
  b0 &&& 0x3F = 0 ∧ b1 &&& 0x13 = 0 ∧ (b0 &&& 0x80 ≠ 0 → b1 &&& 0x0C ≠ 0) ∧ b4.toNat ≤ 15 ∧ b4 ≠ 1

theorem isSome_pointBlock (b0 b1 b2 b3 b4 : Byte) : (pointBlock b0 b1 b2 b3 b4).isSome = true ↔ PointBlockValid b0 b1 b4 := by
  have tests : (b0.extractLsb' 0 6 = 0 ∧ b1.getLsbD 4 = false ∧ (bitsOneZero b1).val = 0 ∧ (b0.getLsbD 7 = false ∨ 0 < (bitsThreeTwo b1).val))
      ↔ b0 &&& 0x3F = 0 ∧ b1 &&& 0x13 = 0 ∧ (b0 &&& 0x80 ≠ 0 → b1 &&& 0x0C ≠ 0) := by
    rw [← mask_low_six, ← mask_zero_bits, ← mask_priority, Ne, ← mask_in_use]
    tauto
  unfold pointBlock PointBlockValid
  rw [← isSome_thresholdOf]
  cases thresholdOf b4 with
  | none => simp
  | some threshold =>
    dsimp only
    split
    · rename_i valid
      obtain ⟨zeros, zeros', priority⟩ := tests.1 valid
      exact iff_of_true rfl ⟨zeros, zeros', priority, rfl⟩
    · rename_i invalid
      exact iff_of_false Bool.false_ne_true fun ⟨zeros, zeros', priority, _⟩ => invalid (tests.2 ⟨zeros, zeros', priority⟩)

/-- What the bytes of an accepted point block say (section 10.3). -/
theorem pointBlock_eq_some {b0 b1 b2 b3 b4 : Byte} {p : PointConfig} (h : pointBlock b0 b1 b2 b3 b4 = some p) :
    p.inUse = b0.getLsbD 7 ∧ p.polarity = (if b0.getLsbD 6 then .activeOpen else .activeClosed) ∧ p.zone.val = b1.toNat / 32
    ∧ p.priority.val = b1.toNat / 4 % 4 ∧ p.onDelay = b2.toNat ∧ p.offDelay = b3.toNat ∧ p.threshold.val = b4.toNat := by
  unfold pointBlock at h
  split at h
  · rename_i threshold code
    split at h <;> cases h
    exact ⟨rfl, rfl, topThree_val b1, bitsThreeTwo_val b1, rfl, rfl, thresholdOf_eq_some code⟩
  · cases h

/-- The tests of R186 on the bytes of a lamp entry. -/
def LampEntryValid (code arg : Byte) : Prop :=
  code.toNat ≤ 3 ∧ (code = 0 → arg = 0) ∧ (code = 2 → arg.toNat ≤ 7) ∧ (code = 3 → arg.toNat ≤ 15)

/-- What the bytes of an accepted lamp entry say (R141, section 10.3). -/
def LampEntry.Says (code arg : Nat) : LampEntry → Prop
  | .off => code = 0 ∧ arg = 0
  | .point st p => code = 1 ∧ arg = 16 * st.val + p.val
  | .zone z => code = 2 ∧ arg = z.val
  | .station st => code = 3 ∧ arg = st.val

theorem isSome_lampEntry (code arg : Byte) : (lampEntry code arg).isSome = true ↔ LampEntryValid code arg := by
  unfold lampEntry LampEntryValid
  split
  · rename_i h
    obtain rfl : code = 0 := BitVec.eq_of_toNat_eq h
    split <;> simp_all
  · rename_i h
    obtain rfl : code = 1 := BitVec.eq_of_toNat_eq h
    simp
  · rename_i h
    obtain rfl : code = 2 := BitVec.eq_of_toNat_eq h
    split <;> simp <;> omega
  · rename_i h
    obtain rfl : code = 3 := BitVec.eq_of_toNat_eq h
    split <;> simp <;> omega
  · rename_i not0 not1 not2 not3
    refine iff_of_false Bool.false_ne_true fun ⟨upper, _⟩ => ?_
    have small : code.toNat = 0 ∨ code.toNat = 1 ∨ code.toNat = 2 ∨ code.toNat = 3 := by omega
    rcases small with e | e | e | e
    exacts [not0 e, not1 e, not2 e, not3 e]

theorem lampEntry_eq_some {code arg : Byte} {l : LampEntry} (h : lampEntry code arg = some l) : l.Says code.toNat arg.toNat := by
  unfold lampEntry at h
  split at h
  · rename_i off
    split at h <;> cases h
    rename_i zero
    exact ⟨off, by rw [zero]; rfl⟩
  · rename_i point
    cases h
    exact ⟨point, nibbles_val arg⟩
  · rename_i zone
    split at h <;> cases h
    exact ⟨zone, rfl⟩
  · rename_i station
    split at h <;> cases h
    exact ⟨station, rfl⟩
  · cases h

/-! ## Sixteen of a kind -/

theorem allSome_eq_some {α : Type} {l : List (Option α)} {xs : List α} : allSome l = some xs ↔ l = xs.map some := by
  induction l generalizing xs with
  | nil => cases xs <;> simp [allSome]
  | cons x rest ih =>
    cases x with
    | none => cases xs <;> simp [allSome]
    | some a => cases xs <;> simp [allSome, ih, and_comm]

/-- A table read field by field holds at every index what that field fields. -/
theorem bind_ofList_eq_some {α : Type} {f : Fin 16 → Option α} {t : Tab α} :
    (allSome (indices.map f)).bind Tab.ofList = some t ↔ ∀ n, f n = some (t.get n) := by
  have cells : (allSome (indices.map f)).bind Tab.ofList = some t ↔ allSome (indices.map f) = some t.cells := by
    rw [Option.bind_eq_some_iff]
    constructor
    · rintro ⟨l, all, table⟩
      unfold Tab.ofList at table
      split at table <;> cases table
      exact all
    · exact fun all => ⟨t.cells, all, dif_pos t.size⟩
  rw [cells, allSome_eq_some, Tab.cells_eq, List.map_map, List.map_inj_left]
  exact ⟨fun h n => h n (mem_indices n), fun h n _ => h n⟩

/-- Sixteen fields make a table where none of them is refused. -/
theorem isSome_bind_ofList {α : Type} (f : Fin 16 → Option α) :
    ((allSome (indices.map f)).bind Tab.ofList).isSome = true ↔ ∀ n, (f n).isSome = true := by
  constructor
  · intro h n
    obtain ⟨t, table⟩ := Option.isSome_iff_exists.1 h
    rw [bind_ofList_eq_some.1 table n]
    rfl
  · intro h
    exact Option.isSome_iff_exists.2 ⟨.ofFn fun n => (f n).get (h n), bind_ofList_eq_some.2 fun n => by simp⟩

theorem isSome_pointBlocks (image : List Byte) : (pointBlocks image).isSome = true ↔
    ∀ n < 16, PointBlockValid (imageByte image (20 + 5 * n)) (imageByte image (20 + 5 * n + 1)) (imageByte image (20 + 5 * n + 4)) := by
  unfold pointBlocks
  simp only [isSome_bind_ofList, isSome_pointBlock, Fin.forall_iff]

theorem isSome_lampEntries (image : List Byte) : (lampEntries image).isSome = true ↔
    ∀ n < 16, LampEntryValid (imageByte image (100 + 2 * n)) (imageByte image (101 + 2 * n)) := by
  unfold lampEntries
  simp only [isSome_bind_ofList, isSome_lampEntry, Fin.forall_iff]

/-! ## The image -/

theorem imageIntact_iff (image : List Byte) : imageIntact image = true ↔
    imageByte image 0 = 0x5A ∧ imageByte image 1 = 0x01 ∧ crc16 (image.take 134) = imageByte image 134 ++ imageByte image 135 := by
  unfold imageIntact
  rw [Bool.and_eq_true, Bool.and_eq_true, beq_iff_eq, beq_iff_eq, beq_iff_eq, and_assoc]
  rfl

theorem imageZeros_iff (image : List Byte) : imageZeros image = true ↔ ∀ i ∈ [17, 18, 19, 132, 133], imageByte image i = 0 := by
  simp [imageZeros]

/-- A field read first is a further test, where what the rest asks does not look at it. -/
theorem isSome_bind_iff {α β : Type} {x : Option α} {f : α → Option β} {p : Prop} (rest : ∀ a, (f a).isSome = true ↔ p) :
    (x >>= f).isSome = true ↔ x.isSome = true ∧ p := by
  cases x with
  | none => simp
  | some a => simpa using rest a

/-- An image is accepted where no test and no field refuses it (R185, R186). -/
theorem isSome_decodeImage (image : List Byte) : (decodeImage image).isSome = true ↔
    (imageIntact image = true ∧ imageZeros image = true) ∧ (BitRate.ofCode (imageByte image 2)).isSome = true
    ∧ (within 1 20 (imageByte image 3)).isSome = true ∧ (within 1 16 (imageByte image 4)).isSome = true
    ∧ (within 1 255 (imageByte image 5)).isSome = true ∧ (LoggerRate.ofCode (imageByte image 6)).isSome = true
    ∧ (toneOf (imageByte image 10)).isSome = true ∧ (toneOf (imageByte image 11)).isSome = true
    ∧ (toneOf (imageByte image 12)).isSome = true ∧ (toneOf (imageByte image 13)).isSome = true
    ∧ (StageInterval.ofCode (imageByte image 14)).isSome = true ∧ (within 1 8 (imageByte image 15)).isSome = true
    ∧ (ChimeLength.ofCode (imageByte image 16)).isSome = true ∧ (pointBlocks image).isSome = true
    ∧ (lampEntries image).isSome = true ∧ True := by
  unfold decodeImage
  rw [← Bool.and_eq_true]
  split
  · rename_i tests
    rw [tests]
    refine (?_ : _ ↔ _).trans (and_iff_right rfl).symm
    iterate 14 refine isSome_bind_iff fun _ => ?_
    exact iff_of_true rfl trivial
  · rename_i refused
    exact iff_of_false Bool.false_ne_true fun ⟨tests, _⟩ => refused tests

/-- The configuration of an accepted image is what its fields answer. -/
structure FieldsAnswer (image : List Byte) (c : StationConfig) : Prop where
  bitRate : BitRate.ofCode (imageByte image 2) = some c.bitRate
  hCode : within 1 20 (imageByte image 3) = some c.hCode
  markSeconds : within 1 16 (imageByte image 4) = some c.markSeconds
  drainSeconds : within 1 255 (imageByte image 5) = some c.drainSeconds
  loggerRate : LoggerRate.ofCode (imageByte image 6) = some c.loggerRate
  panelMask : c.panelMask = imageByte image 7
  hornMask : c.hornMask = imageByte image 8
  journalMask : c.journalMask = imageByte image 9
  tone1 : toneOf (imageByte image 10) = some c.tone1
  tone2 : toneOf (imageByte image 11) = some c.tone2
  tone3 : toneOf (imageByte image 12) = some c.tone3
  chimeTone : toneOf (imageByte image 13) = some c.chimeTone
  stage : StageInterval.ofCode (imageByte image 14) = some c.stage
  floor : within 1 8 (imageByte image 15) = some c.floor
  chime : ChimeLength.ofCode (imageByte image 16) = some c.chime
  points : pointBlocks image = some c.points
  lamps : lampEntries image = some c.lamps

theorem fieldsAnswer_of_decodeImage {image : List Byte} {c : StationConfig} (h : decodeImage image = some c) : FieldsAnswer image c := by
  unfold decodeImage at h
  split at h
  · obtain ⟨_, bitRate, h⟩ := Option.bind_eq_some_iff.1 h
    obtain ⟨_, hCode, h⟩ := Option.bind_eq_some_iff.1 h
    obtain ⟨_, markSeconds, h⟩ := Option.bind_eq_some_iff.1 h
    obtain ⟨_, drainSeconds, h⟩ := Option.bind_eq_some_iff.1 h
    obtain ⟨_, loggerRate, h⟩ := Option.bind_eq_some_iff.1 h
    obtain ⟨_, tone1, h⟩ := Option.bind_eq_some_iff.1 h
    obtain ⟨_, tone2, h⟩ := Option.bind_eq_some_iff.1 h
    obtain ⟨_, tone3, h⟩ := Option.bind_eq_some_iff.1 h
    obtain ⟨_, chimeTone, h⟩ := Option.bind_eq_some_iff.1 h
    obtain ⟨_, stage, h⟩ := Option.bind_eq_some_iff.1 h
    obtain ⟨_, floor, h⟩ := Option.bind_eq_some_iff.1 h
    obtain ⟨_, chime, h⟩ := Option.bind_eq_some_iff.1 h
    obtain ⟨_, points, h⟩ := Option.bind_eq_some_iff.1 h
    obtain ⟨_, lamps, h⟩ := Option.bind_eq_some_iff.1 h
    cases h
    exact { bitRate, hCode, markSeconds, drainSeconds, loggerRate, panelMask := rfl, hornMask := rfl, journalMask := rfl, tone1, tone2, tone3
            chimeTone, stage, floor, chime, points, lamps }
  · cases h

/-- Settles O6: an image is accepted where each test and field is, and each field of its configuration is what its byte fields. -/
theorem imageAcceptedByItsTests : Obligations.ImageAcceptedByItsTests := by
  intro image _ b
  constructor
  · rw [isSome_decodeImage, imageIntact_iff, imageZeros_iff, BitRate.isSome_ofCode, LoggerRate.isSome_ofCode, StageInterval.isSome_ofCode,
      ChimeLength.isSome_ofCode, isSome_pointBlocks, isSome_lampEntries]
    simp only [isSome_within, isSome_toneOf]
    have upper : (imageByte image 5).toNat ≤ 255 := Nat.le_of_lt_succ (imageByte image 5).isLt
    have tones : (∀ i ∈ [10, 11, 12, 13], (b i).toNat ≤ 7)
        ↔ (b 10).toNat ≤ 7 ∧ (b 11).toNat ≤ 7 ∧ (b 12).toNat ≤ 7 ∧ (b 13).toNat ≤ 7 := by simp
    rw [tones]
    unfold PointBlockValid LampEntryValid
    tauto
  · intro c decoded
    have fields := fieldsAnswer_of_decodeImage decoded
    refine ⟨?_, within_eq_some fields.hCode, within_eq_some fields.markSeconds, within_eq_some fields.drainSeconds, ?_, fields.panelMask, fields.hornMask,
      fields.journalMask, toneOf_eq_some fields.tone1, toneOf_eq_some fields.tone2, toneOf_eq_some fields.tone3, toneOf_eq_some fields.chimeTone, ?_,
      within_eq_some fields.floor, ?_, fun n => ?_, fun n => ?_⟩
    · exact (BitRate.ofCode_eq_some ..).1 fields.bitRate
    · exact (LoggerRate.ofCode_eq_some ..).1 fields.loggerRate
    · exact (StageInterval.ofCode_eq_some ..).1 fields.stage
    · exact (ChimeLength.ofCode_eq_some ..).1 fields.chime
    · exact pointBlock_eq_some (bind_ofList_eq_some.1 fields.points n)
    · exact lampEntry_eq_some (bind_ofList_eq_some.1 fields.lamps n)

end Sys2Proof.Machine
end

section
/-! The end of a read, from LOADING as every run reaches it: what an accepted image and the third refused one leave: O7, O8
(R28, R59, R78, R96, R97, R116, R117, R129, R175, R182, R187 to R189). -/
namespace Sys2Proof.Machine

/-! ## The start of the journal -/

/-- The first mode change after a cold start: the MODE record stands behind START, which begins where LOGRDY is low (R96, R167,
R175). -/
theorem jnl_changeMode_of_cold {s : State} (cold : s.jnl = .cold) {m : Mode} (logs : m.loggerRuns = true) (cause : ModeCause) :
    (changeMode m cause s).jnl = { journal := [.start, .mode s.own m.recorded cause s.tmb.groupTime], dropped := 0
                                   inProgress := if s.pins.logrdyHigh then none else some (recordBytes .start) } := by
  obtain ⟨journal, dropped, begun⟩ := offered_changeMode (s := s) (u := s) logs cause
  have begins : (changeMode m cause s).jnl.inProgress = if s.pins.logrdyHigh then none else some (recordBytes .start) := by
    rw [begun, journal, cold]
    cases s.pins.logrdyHigh <;> rfl
  rw [cold] at journal dropped
  generalize (changeMode m cause s).jnl = after at journal dropped begins ⊢
  obtain ⟨_, _, _⟩ := after
  exact (Jnl.mk.injEq ..).mpr ⟨journal, dropped, begins⟩

/-! ## The end of a read -/

/-- A read in progress ends at READ_COMPLETE with a whole image (R182). -/
theorem exec_readComplete_of_reading {s : State} {image : List Byte} (whole : image.length = 136) (high : s.pins.resetLow = false)
    (loading : s.mbu.mode = .loading) (reading : s.loader.load = .reading) : exec (.readComplete image) s = .next (finishRead image s) := by
  have complete : imageComplete image = true := by simp [imageComplete, whole, Config.imageSize]
  rw [exec_readComplete, if_pos complete, arise_true (by simp [State.reading, State.loadingRuns, high, loading, reading])]

/-! ## A refused image -/

/-- Every timer of the Membership Unit is stopped. -/
structure Mbu.Resting (m : Mbu) : Prop where
  heartbeat : m.heartbeat = .stopped
  joinWindow : m.joinWindow = .stopped
  silence : ∀ a, (m.members.get a).silence = .stopped
  resync : ∀ a, (m.members.get a).resync = .stopped
  replayTimer : ∀ a, (m.members.get a).replayTimer = .stopped

theorem Timer.hold_of_stopped {t : Timer} (stopped : t = .stopped) (now : Millis) : t.hold now = t := by rw [stopped]; rfl

/-- Where no timer runs, none is held (R124). -/
theorem Mbu.Resting.holdTimers {m : Mbu} (resting : m.Resting) (now : Millis) : m.holdTimers now = m := by
  have members : m.members.map (Member.holdTimers now) = m.members := Tab.ext_get fun a => by
    rw [Tab.get_map, Member.holdTimers, Timer.hold_of_stopped (resting.silence a), Timer.hold_of_stopped (resting.resync a),
      Timer.hold_of_stopped (resting.replayTimer a)]
  rw [Mbu.holdTimers, members, Timer.hold_of_stopped resting.heartbeat, Timer.hold_of_stopped resting.joinWindow]

/-- In LOADING no timer of the Membership Unit has started (R95). -/
theorem LoadingHolds.resting {s : State} (hs : LoadingHolds s) (loading : s.mbu.mode = .loading) : s.mbu.Resting := by
  obtain ⟨-, -, -, -, -, -, -, -, -, heartbeat, -, window, members⟩ := hs.2 loading
  exact ⟨heartbeat, window, fun a => congrArg Member.silence (members a), fun a => congrArg Member.resync (members a),
    fun a => congrArg Member.replayTimer (members a)⟩

/-- A station that halts out of LOADING: the mode and the journal, and all else at its cold-start values (R188). -/
theorem enterHalted_of_loading {s : State} (hs : LoadingHolds s) (loading : s.mbu.mode = .loading) (cause : HaltCause) :
    enterHalted cause s = { s with mbu := { s.mbu with mode := .halted cause }
                                   jnl := { journal := [.start, .mode s.own .halted cause.modeCause s.tmb.groupTime], dropped := 0
                                            inProgress := if s.pins.logrdyHigh then none else some (recordBytes .start) } } := by
  obtain ⟨-, -, -, -, bus, -, hrn, jnl, mark, -⟩ := hs.2 loading
  have held := (hs.resting loading).holdTimers s.tmb.localCount
  unfold enterHalted
  apply State.eq_of_units
  case tmb => simp [← mark]
  case bus => simp [bus, Bif.cold]
  case mbu => simp [changeMode_mbu, held]
  case hrn => simp [haltHorn, hrn, Hrn.cold]
  case jnl => exact jnl_changeMode_of_cold (by simpa using jnl) rfl _
  all_goals simp

/-- Settles O8: a refused read is retried while one of the three is left, and the third halts the station out of LOADING. -/
theorem refusedImageRetriesThenHalts : Obligations.RefusedImageRetriesThenHalts := by
  intro s image hs whole refused high loading reading
  have ended : finishRead image s = if s.loader.readNumber < 3 then s.setLoader { s.loader with load := .waiting, readNumber := s.loader.readNumber + 1 }
      else loadRefused s := by
    unfold finishRead; rw [refused]; rfl
  rw [exec_readComplete_of_reading whole high loading reading, ended]
  refine ⟨fun retried => by rw [if_pos retried]; rfl, fun third => ?_⟩
  have values : LoadingHolds (s.setLoader { s.loader with load := .refused }) := ⟨fun low => absurd (high.symm.trans low) Bool.false_ne_true, hs.2⟩
  have halted := enterHalted_of_loading values loading .configFault
  rw [if_neg (by omega)]
  unfold loadRefused
  rw [halted]
  rfl

/-! ## The in-use mask of a JOIN -/

/-- The mask of the first `n` points that `f` names, as `State.inUseMask` adds it up (R117). -/
def maskUpTo (f : Point → Bool) (n : Nat) : Nat := (indices.take n).foldl (fun m p => m + flag (f p) (2 ^ p.val)) 0

theorem maskUpTo_succ (f : Point → Bool) (p : Point) : maskUpTo f (p.val + 1) = maskUpTo f p.val + flag (f p) (2 ^ p.val) := by
  have listed : p.val < indices.length := p.isLt
  unfold maskUpTo
  rw [List.take_add_one, List.getElem?_eq_getElem listed, indices_getElem p listed, List.foldl_append]
  rfl

theorem maskUpTo_lt (f : Point → Bool) {n : Nat} (h : n ≤ 16) : maskUpTo f n < 2 ^ n := by
  induction n with
  | zero => exact Nat.one_pos
  | succ n ih =>
    have below := ih (by omega)
    have more : flag (f ⟨n, h⟩) (2 ^ n) ≤ 2 ^ n := by unfold flag; split <;> omega
    calc maskUpTo f (n + 1) = maskUpTo f n + flag (f ⟨n, h⟩) (2 ^ n) := maskUpTo_succ f ⟨n, h⟩
      _ < 2 ^ (n + 1) := by omega

/-- Bit p of the mask is what `f` says of point p. -/
theorem testBit_maskUpTo (f : Point → Bool) {n : Nat} (h : n ≤ 16) (p : Point) (hp : p.val < n) : (maskUpTo f n).testBit p.val = f p := by
  induction n with
  | zero => omega
  | succ n ih =>
    have below := maskUpTo_lt f (n := n) (by omega)
    rw [maskUpTo_succ f ⟨n, h⟩, Nat.add_comm]
    rcases Nat.lt_succ_iff_lt_or_eq.1 hp with lower | top
    · unfold flag
      split
      · rw [Nat.testBit_two_pow_add_gt lower]; exact ih (by omega) lower
      · rw [Nat.zero_add]; exact ih (by omega) lower
    · have same : (⟨n, h⟩ : Point) = p := Fin.ext top.symm
      rw [same, top]
      unfold flag
      split
      · rename_i named; rw [Nat.testBit_two_pow_add_eq, Nat.testBit_lt_two_pow below, named]; rfl
      · rename_i unnamed; rw [Nat.zero_add, Nat.testBit_lt_two_pow below]; simpa using unnamed

/-- Bit n of the mask of a JOIN tells whether point n is in use (R117). -/
theorem getLsbD_inUseMask (s : State) (p : Point) : s.inUseMask.getLsbD p.val = (s.conf.points.get p).inUse := by
  have bits : s.inUseMask = BitVec.ofNat 16 (maskUpTo (fun q => (s.conf.points.get q).inUse) 16) := rfl
  rw [bits, BitVec.getLsbD_ofNat, testBit_maskUpTo _ (Nat.le_refl 16) p p.isLt, decide_eq_true p.isLt, Bool.true_and]

/-! ## An accepted image -/

/-- A stopped idle-wait timer starts where its conditions hold (R78). -/
theorem settleIdleWait_of_due {s : State} (due : s.idleWaitRuns = true) (timer : s.bus.idleWait = .stopped) :
    settleIdleWait s = s.setBif { s.bus with idleWait := .running s.tmb.localCount 20 } := by
  unfold settleIdleWait
  rw [if_pos due, timer]
  rfl

/-- The Point Table with the configuration of its points taken (R28). -/
def State.pointsConfigured (s : State) (c : StationConfig) : Tab PointRecord := .ofFn fun p => (s.point p).configure (c.points.get p)

/-- Every unit started by an accepted image out of LOADING: the JOIN claimed stands alone in the queue (R189). -/
theorem loadAccepted_of_loading {s : State} (hs : LoadingHolds s) (loading : s.mbu.mode = .loading) (c : StationConfig) :
    loadAccepted c s =
      { s with loader := { s.loader with load := .accepted }, config := some c
               fiu := { s.fiu with drainRunning := true, drainCount := 0 }
               psq := { s.psq with points := s.pointsConfigured c }
               tmb := { s.tmb with markTimer := .running s.tmb.localCount }
               mbu := { s.mbu with mode := .joining, heartbeat := .running s.tmb.localCount (c.hCode * 100), joinState := .pending }
               bus := { s.bus with queue := [{ body := .join (s.setConfig (some c)).inUseMask, disposition := .unsent, attempts := 0, seq := none }] }
               jnl := { journal := [.start, .mode s.own .joining .loadAccepted s.tmb.groupTime], dropped := 0
                        inProgress := if s.pins.logrdyHigh then none else some (recordBytes .start) } } := by
  obtain ⟨-, -, -, -, bus, -, -, jnl, -⟩ := hs.2 loading
  unfold loadAccepted
  dsimp only
  rw [claimJoin_eq, joinClaimed_eq (by simp)]
  have mask : ∀ t : State, t.config = some c → t.inUseMask = (s.setConfig (some c)).inUseMask := fun t config => by
    unfold State.inUseMask; rw [State.conf_congr (t := t) (s := s.setConfig (some c)) config]
  rw [mask _ (by simp)]
  apply State.eq_of_units
  case bus => simp [Bif.joinClaimed, bus, Bif.cold]
  case mbu => simp [changeMode_mbu, State.timer, State.heartbeatMs, State.conf]
  case jnl => exact jnl_changeMode_of_cold (by simpa using jnl) rfl _
  case psq => simp [State.pointsConfigured, State.point]
  all_goals simp

/-- Settles O7: the units started, the idle-wait timer starts for the JOIN at the head of the queue. -/
theorem acceptedImageStartsTheUnits : Obligations.AcceptedImageStartsTheUnits := by
  intro s image c hs whole accepted high loading reading
  obtain ⟨-, -, -, -, bus, -⟩ := hs.2 loading
  have ended : finishRead image s = settleIdleWait (loadAccepted c s) := by unfold finishRead; rw [accepted]
  have due : (loadAccepted c s).idleWaitRuns = true := by
    rw [loadAccepted_of_loading hs loading]
    simp [State.idleWaitRuns, State.onLine, State.runs, Mode.runs, Bif.candidate, Bif.headOffered, Bif.heldOff, Config.receivePlaces, Line.own, bus, Bif.cold]
  have stopped : (loadAccepted c s).bus.idleWait = .stopped := by
    rw [loadAccepted_of_loading hs loading, bus]; rfl
  refine ⟨_, exec_readComplete_of_reading whole high loading reading, ?_⟩
  rw [ended, settleIdleWait_of_due due stopped, loadAccepted_of_loading hs loading]
  refine ⟨rfl, fun p => Tab.get_ofFn _ p, ⟨_, getLsbD_inUseMask (s.setConfig (some c)), rfl⟩, rfl, rfl, rfl⟩

end Sys2Proof.Machine
end

section
/-! One step: the front command on the state with the queue's rest, or idling on an empty queue: O1 (log entry 1). -/
namespace Sys2Proof.Machine

/-- Of two replacements of the queue the later one counts. -/
@[simp] theorem State.setPending_setPending (s : State) (x y : List Instr) : (s.setPending x).setPending y = s.setPending y := rfl

theorem step_of_pending_nil {s : State} (empty : s.pending = []) : step s = .next s := by
  unfold step; rw [empty]

/-- The front command leaves the queue before it is carried out. -/
theorem step_of_pending_cons {s : State} {c : Instr} {rest : List Instr} (front : s.pending = c :: rest) :
    step s = exec c (s.setPending rest) := by
  unfold step; rw [front]

/-- Settles O1: the two cases of the queue; the queue set before the step is not seen by the command. -/
theorem stepTakesTheFrontCommand : Obligations.StepTakesTheFrontCommand := by
  intro s
  refine ⟨fun c rest => ?_, step_of_pending_nil⟩
  have front : (s.setPending (c :: rest)).pending = c :: rest := s.setPending_pending _
  rw [step_of_pending_cons front, State.setPending_setPending]

end Sys2Proof.Machine
end
